-- ==== Sys2Proof/Word.lean ====
section
/-! DEFINITION. The word and number types of CORE (00_scope.md R8, R9: `XLEN` = 64). -/

namespace Sys2Proof

/-- A 64-bit machine word: a general register, the program counter, an address (R8, R9, R20). -/
abbrev Word := BitVec 64

/-- A byte, the smallest addressable unit of memory (20_memory.md R70). -/
abbrev Byte := BitVec 8

/-- The number of a general register (10_state.md R20, 30_encoding.md R114). -/
abbrev GprNo := BitVec 5

/-- The number of a floating-point register (10_state.md R29, 30_encoding.md R114). -/
abbrev FprNo := BitVec 5

end Sys2Proof
end

