-- ==== Sys2Proof/Config.lean ====
section
/-! DEFINITION. The implementation parameters of 00_scope.md R9 and 92_eei_decisions.md section 2.

The plain-data parameters are the record `Config`. State carries one as a constant field, so a statement about every
state is a statement about every implementation (log 3). The parameters that are functions are opaque constants: nothing
can be proved of their values, so a statement holds whatever they are (log 6, log 7, log 11). -/

namespace Sys2Proof

/-- The parameters of R9 that are plain data. -/
structure Config where
  /-- `BIGENDIAN`, the endianness strap sampled at reset (R72). -/
  bigEndian : Bool
  /-- `RESET_VECTOR`, the PC after reset (R552). -/
  resetVector : Word
  /-- `EXC_VECTOR`, the PC after a trap entry (R510). -/
  excVector : Word
  /-- `PENDING_CAPACITY`, the slots of the pending-write queue (R56). -/
  pendingCapacity : Nat
  /-- `PRID`, read through CP0 register 15 (R41). -/
  prid : BitVec 32
  /-- `FIR`, read through FP control register 0 (R48). -/
  fir : BitVec 32
  /-- Whether `MayAlias` is its default, the constant true (R98). -/
  aliasAlways : Bool
  deriving DecidableEq, Repr

/-- The default of every parameter (R9). -/
def Config.default : Config where
  bigEndian := true
  resetVector := 0xFFFFFFFFBFC00000#64
  excVector := 0xFFFFFFFF80000180#64
  pendingCapacity := 4
  prid := 0#32
  fir := 0#32
  aliasAlways := true

/-- The ranges 92_eei_decisions.md section 2 gives the parameters: vectors are multiples of 4, the capacity is at
least 4. -/
abbrev Config.Valid (c : Config) : Prop :=
  c.resetVector.extractLsb' 0 2 = 0#2 ∧ c.excVector.extractLsb' 0 2 = 0#2 ∧ 4 ≤ c.pendingCapacity

/-- FREE VALUE (R98, log 6). Where `MayAlias` is not the constant true: whether a store of `n` bytes at `pa` that does
not overlap the linked doubleword clears the linked flag all the same. -/
opaque Config.mayAliasElsewhere (llAddr pa : Word) (n : Nat) : Bool

/-- The six rounding reductions, the third argument of `Unpredictable16` (R465, R470). -/
inductive Reduction where
  /-- RZU: toward zero, clamped unsigned (R466). -/
  | rzu
  /-- RNAU: nearest, ties away from zero, clamped unsigned (R467). -/
  | rnau
  /-- RNEU: nearest, ties to even, clamped unsigned (R468). -/
  | rneu
  /-- RZS: toward zero, clamped signed (R469). -/
  | rzs
  /-- RNAS: nearest, ties away from zero, clamped signed (R471). -/
  | rnas
  /-- RNES: nearest, ties to even, clamped signed (R472). -/
  | rnes
  deriving DecidableEq, Repr

/-- FREE VALUE (R470, log 7). `Unpredictable16`: the lane a QH rounding reduction gives for a negative shift amount. -/
opaque Config.unpredictable16 (acc : BitVec 48) (shift : BitVec 16) (op : Reduction) : BitVec 16

/-- FREE VALUE (R32, R59, log 11). Which register, if any, takes the more significant half of a doubleword that was
scheduled for register 31 with `FR` = 1 and is applied with `FR` = 0: the spec's `FGR[32]` does not exist. -/
opaque Config.pairOf31 : Option FprNo

end Sys2Proof
end

