-- ==== Sys2Proof/Machine/State.lean ====
section
/-! DEFINITION. The state of CORE (10_state.md R20-R64), the reasons a step can stop, and the state after reset. -/

namespace Sys2Proof.Machine

/-- The reasons a step can stop with a fault: none. Every failure the spec names is an architectural exception, which
is a next state (R510), or the check-stop, which is a run state (R530) (log 10: safe, it adds no behaviour). -/
inductive Fault where
  deriving DecidableEq, Repr

/-- The reasons a step can refuse. -/
inductive Refusal where
  /-- Raised by an arm of `exec` whose instruction has no meaning yet. Safe: nothing is claimed of it. -/
  | notModelled (mnemonic : String)
  /-- Raised by `step` in a state with `ISAMODE` = 1, which no state of CORE has: the bit is hard-wired to 0 and the
  spec gives 16-bit words no encoding (R25, U12; log 9). Safe: no run from reset reaches it. -/
  | isaMode16
  deriving DecidableEq, Repr

/-- The format tag of a floating-point register (R31). -/
inductive FmtTag where
  /-- Last written by a raw transfer (R32). -/
  | uninterpreted
  /-- S, binary32. -/
  | single
  /-- D, binary64. -/
  | double
  /-- W, 32-bit two's-complement integer. -/
  | word
  /-- L, 64-bit two's-complement integer. -/
  | long
  /-- PS, two binary32 values. -/
  | pairedSingle
  /-- Content that may not be interpreted. -/
  | unknown
  deriving DecidableEq, Repr

/-- The run state `RUN` (R61). -/
inductive RunState where
  /-- Executes the loop of R560. -/
  | running
  /-- Entered by HALT or the STOP input, left only by reset. -/
  | halted
  /-- Entered by an internal invariant violation (R530), left only by reset. -/
  | checkStop
  deriving DecidableEq, Repr

/-- The register an entry of the pending-write queue is for (R55). -/
inductive PendDest where
  /-- A general register. -/
  | gpr (i : GprNo)
  /-- The low 32 bits of an FPR. -/
  | fpr32 (i : FprNo)
  /-- A 64-bit FPR, by the mode `FR` has when the entry is applied. -/
  | fpr64 (i : FprNo)
  /-- The FCSR. -/
  | fcsr
  deriving DecidableEq, Repr

/-- An entry of the pending-write queue (R55). -/
structure Pending where
  /-- The register the write is for. -/
  dest : PendDest
  /-- The value: 32-bit destinations use the low half, a bit write uses bit 0. -/
  value : BitVec 64
  /-- Ticks still to wait. -/
  remaining : Nat
  /-- The one bit of the register to write, or none for the whole register. -/
  bit : Option (BitVec 5)
  deriving DecidableEq, Repr

/-- The levels on the input pins (R62). The strap `BIGENDIAN` is a parameter (`Config.bigEndian`). -/
structure Pins where
  /-- `RESET`: holds the core in its reset state (R550). -/
  reset : Bool
  /-- `STOP`: halts the core between instructions (R561). -/
  stop : Bool
  /-- `INT_LEVEL`: the priority level of the interrupt request, 0 for none (R520). -/
  intLevel : BitVec 3
  deriving DecidableEq, Repr

/-- The memory image (R53): the bytes that are not 0, by rising address. -/
abbrev Memory := List Host.Cell

/-- The state of CORE. -/
structure State where
  /-- The implementation parameters (R9, R63). No step changes them (log 3). -/
  cfg : Config
  /-- `x[0]` .. `x[31]` (R20). Slot 0 is never read: `x[0]` is wired to 0 (R21, log 17). -/
  gpr : Vector Word 32
  /-- `PC` (R24, R26). -/
  pc : Word
  /-- `ISAMODE`, wired to 0 (R25, log 9). -/
  isaMode : Bool
  /-- `FGR[0]` .. `FGR[31]`, the raw storage of the FPU and MDMX registers (R29). -/
  fgr : Vector Word 32
  /-- `TAG[0]` .. `TAG[31]` (R29, R31). -/
  tag : Vector FmtTag 32
  /-- `FCSR`, FP control register 31 (R46, R47). -/
  fcsr : BitVec 32
  /-- `Status`, CP0 register 12 (R39). -/
  status : BitVec 32
  /-- `Cause.ExcCode`, bits 6:2 of CP0 register 13 (R40). Bits 15:8, IP, are a live view of the pins (log 18). -/
  excCode : BitVec 5
  /-- `Cause.CE`, bits 29:28 of CP0 register 13 (R40). -/
  ce : BitVec 2
  /-- `EPC`, CP0 register 14 (R42). -/
  epc : Word
  /-- `BadVAddr`, CP0 register 8 (R43). -/
  badVAddr : Word
  /-- `Config.BE`, bit 15 of CP0 register 16: the strap sampled at reset (R41, R62). -/
  configBE : Bool
  /-- `ACC_OB[0]` .. `ACC_OB[7]` (R50). -/
  accOb : Vector (BitVec 24) 8
  /-- `ACC_QH[0]` .. `ACC_QH[3]` (R50). -/
  accQh : Vector (BitVec 48) 4
  /-- `MEM` (R53). -/
  mem : Memory
  /-- `LLbit`, the linked flag (R54). -/
  llBit : Bool
  /-- `LLaddr`, the address of the last linked load (R54). -/
  llAddr : Word
  /-- `PQ`, the pending-write queue, oldest first (R55). -/
  pq : List Pending
  /-- `RUN` (R61). -/
  run : RunState
  /-- The present levels of the inputs (R62; the model's own field, log 4). -/
  pins : Pins
  /-- The levels the outside will drive at the coming steps, one entry a step (R63; the model's own field, log 4). -/
  pinQueue : List Pins
  deriving DecidableEq, Repr

/-- The state after reset of a core with parameters `c` (R64). Values the spec leaves unspecified are 0 (DESIGN CHOICE,
log 1); memory, which reset does not change, lists nothing (DESIGN CHOICE, log 2); the inputs are idle (DESIGN CHOICE,
log 4). -/
def State.resetWith (c : Config) : State where
  cfg := c
  gpr := Vector.replicate 32 0#64
  pc := c.resetVector
  isaMode := false
  fgr := Vector.replicate 32 0#64
  tag := Vector.replicate 32 .unknown
  fcsr := 0#32
  status := 0#32
  excCode := 0#5
  ce := 0#2
  epc := 0#64
  badVAddr := 0#64
  configBE := c.bigEndian
  accOb := Vector.replicate 8 0#24
  accQh := Vector.replicate 4 0#48
  mem := []
  llBit := false
  llAddr := 0#64
  pq := []
  run := .running
  pins := { reset := false, stop := false, intLevel := 0#3 }
  pinQueue := []

/-- The state after reset of a core with the default parameters (R9, R64). -/
def State.reset : State := State.resetWith Config.default

end Sys2Proof.Machine
end

