-- ==== Sys2Proof/Machine/Flags.lean ====
section
/-! DEFINITION. Flag computations: the carry and overflow flags of the ALU unit (40_alu_unit.md R140-R149), and the
fields of the FCSR (10_state.md R46, R47). -/

namespace Sys2Proof.Machine

/-- The ALU unit of width `n` (R140): accumulator, carry-or-borrow flag, signed-overflow flag. It lives for one
instruction (R27), so it is no part of State. The spec uses `n` = 8, 16, 32 and 64. -/
structure Alu (n : Nat) where
  /-- The accumulator. -/
  acc : BitVec n
  /-- `C`. -/
  c : Bool
  /-- `V`. -/
  v : Bool
  deriving DecidableEq, Repr

/-- `begin(value)` (R143). -/
def Alu.begin {n : Nat} (value : BitVec n) : Alu n := { acc := value, c := false, v := false }

/-- `add_with_carry_in(value, carry_in)` (R144). -/
def Alu.addWithCarryIn {n : Nat} (u : Alu n) (value : BitVec n) (carryIn : Bool) : Alu n :=
  let sum := u.acc.toNat + value.toNat + carryIn.toNat
  let result := BitVec.ofNat n sum
  let carry := decide (2 ^ n ≤ sum)
  { acc := result, c := carry, v := (u.acc ^^^ value ^^^ result).msb ^^ carry }

/-- `subtract_via_negated_add(value, borrow_in)` (R145): `C` is 1 when no borrow occurred. -/
def Alu.subtractViaNegatedAdd {n : Nat} (u : Alu n) (value : BitVec n) (borrowIn : Bool) : Alu n :=
  u.addWithCarryIn (~~~value) (!borrowIn)

/-- `subtract_direct(value, borrow_in)` (R146): `C` is 1 when a borrow occurred. -/
def Alu.subtractDirect {n : Nat} (u : Alu n) (value : BitVec n) (borrowIn : Bool) : Alu n :=
  let diff : Int := (u.acc.toNat : Int) - (value.toNat : Int) - (borrowIn.toNat : Int)
  let result := BitVec.ofInt n diff
  { acc := result, c := decide (diff < 0), v := ((u.acc ^^^ value) &&& (u.acc ^^^ result)).msb }

/-- `negate_via_add()` (R148). -/
def Alu.negateViaAdd {n : Nat} (u : Alu n) : Alu n := (Alu.begin 0#n).subtractViaNegatedAdd u.acc false

/-- `negate_direct()` (R148). -/
def Alu.negateDirect {n : Nat} (u : Alu n) : Alu n := (Alu.begin 0#n).subtractDirect u.acc false

/-- `or(value)` (R149). -/
def Alu.or {n : Nat} (u : Alu n) (value : BitVec n) : Alu n := { acc := u.acc ||| value, c := false, v := false }

/-- `xor(value)` (R149). -/
def Alu.xor {n : Nat} (u : Alu n) (value : BitVec n) : Alu n := { acc := u.acc ^^^ value, c := false, v := false }

/-- `and(value)` (R149). -/
def Alu.and {n : Nat} (u : Alu n) (value : BitVec n) : Alu n := { acc := u.acc &&& value, c := false, v := false }

/-- `not()` (R149). -/
def Alu.not {n : Nat} (u : Alu n) : Alu n := { acc := ~~~u.acc, c := false, v := false }

/-- `FCCbit(n)`: the bit of the FCSR that is condition code `n` (R47). -/
def fccBit (n : BitVec 3) : BitVec 5 := if n = 0#3 then 23#5 else 24#5 + n.setWidth 5

/-- The condition code `FCC[n]` (R28, R47). -/
def State.fcc (s : State) (n : BitVec 3) : Bool := s.fcsr.getLsbD (fccBit n).toNat

/-- A word with one bit replaced. -/
def putBit {n : Nat} (w : BitVec n) (i : Nat) (b : Bool) : BitVec n :=
  if b then w ||| (1#n <<< i) else w &&& ~~~(1#n <<< i)

/-- The FCSR with one bit replaced, every other bit unchanged (R59). -/
def State.setFcsrBit (s : State) (i : BitVec 5) (b : Bool) : State := { s with fcsr := putBit s.fcsr i.toNat b }

/-- The rounding mode `RM`, bits 1:0 of the FCSR (R47). -/
inductive RoundingMode where
  /-- 0: to nearest, ties to even. -/
  | nearestEven
  /-- 1: toward zero. -/
  | towardZero
  /-- 2: toward plus infinity. -/
  | towardPlus
  /-- 3: toward minus infinity. -/
  | towardMinus
  deriving DecidableEq, Repr

/-- The rounding mode a value of `RM` names (R47). -/
def RoundingMode.ofField (rm : BitVec 2) : RoundingMode :=
  match rm with
  | 0#2 => .nearestEven
  | 1#2 => .towardZero
  | 2#2 => .towardPlus
  | 3#2 => .towardMinus

/-- A set of IEEE exceptions, in the bit order the FCSR gives Flags, Enables and Cause alike: bit 0 I inexact, bit 1 U
underflow, bit 2 O overflow, bit 3 Z divide by zero, bit 4 V invalid (R47). -/
abbrev FpExcs := BitVec 5

/-- I, inexact. -/
def excI : FpExcs := 1#5
/-- U, underflow. -/
def excU : FpExcs := 2#5
/-- O, overflow. -/
def excO : FpExcs := 4#5
/-- Z, divide by zero. -/
def excZ : FpExcs := 8#5
/-- V, invalid operation. -/
def excV : FpExcs := 16#5

/-- The rounding mode in force (R47). -/
def State.roundingMode (s : State) : RoundingMode := .ofField (s.fcsr.extractLsb' 0 2)

/-- `FCSR.Flags` (R47). -/
def State.fpFlags (s : State) : FpExcs := s.fcsr.extractLsb' 2 5

/-- `FCSR.Enables` (R47). -/
def State.fpEnables (s : State) : FpExcs := s.fcsr.extractLsb' 7 5

/-- `FCSR.Cause`, without its bit E (R47). -/
def State.fpCause (s : State) : FpExcs := s.fcsr.extractLsb' 12 5

/-- `FCSR.Cause.E` (R47). -/
def State.fpCauseE (s : State) : Bool := s.fcsr.getLsbD 17

/-- `FCSR.FS`, flush to zero (R47). -/
def State.fpFlush (s : State) : Bool := s.fcsr.getLsbD 24

end Sys2Proof.Machine
end

