-- ==== Sys2Proof/Machine/Ops.lean ====
section
/-! DEFINITION. The named operations of CORE over its registers, its memory, its pending-write queue and its exceptions
(10_state.md, 20_memory.md, 60_exceptions.md). Every instruction is written over these. -/

namespace Sys2Proof.Machine

/-! ### General registers -/

/-- `x[i]`: register 0 reads as 0 (R21). -/
def State.readGpr (s : State) (i : GprNo) : Word := if i = 0#5 then 0#64 else s.gpr.get i.toFin

/-- `x[i] <- v`: a write to register 0 is discarded (R21). -/
def State.writeGpr (s : State) (i : GprNo) (v : Word) : State :=
  if i = 0#5 then s else { s with gpr := s.gpr.set i.toNat v i.isLt }

/-- `PC <- target` (R26). -/
def State.setPc (s : State) (target : Word) : State := { s with pc := target }

/-- The address of the next instruction, `trunc_64(pc + 4)` (R26). -/
def State.nextPc (s : State) : Word := s.pc + 4#64

/-- `PC <- pc + 4`, the default of every instruction (R26). -/
def State.advance (s : State) : State := s.setPc s.nextPc

/-! ### Status and mode -/

/-- `Status.IE` (R39). -/
def State.ie (s : State) : Bool := s.status.getLsbD 0

/-- `Status.EXL` (R39). -/
def State.exl (s : State) : Bool := s.status.getLsbD 1

/-- `Status.UM` (R39). -/
def State.um (s : State) : Bool := s.status.getLsbD 4

/-- `Status.IM[l]` (R39). -/
def State.im (s : State) (l : BitVec 3) : Bool := (s.status.extractLsb' 8 8).getLsbD l.toNat

/-- `Status.RE` (R39). -/
def State.re (s : State) : Bool := s.status.getLsbD 25

/-- `Status.FR` (R39). -/
def State.fr (s : State) : Bool := s.status.getLsbD 26

/-- `Status.CU0` (R39). -/
def State.cu0 (s : State) : Bool := s.status.getLsbD 28

/-- `Status.CU1` (R39). -/
def State.cu1 (s : State) : Bool := s.status.getLsbD 29

/-- `KernelMode` (R44, R525). -/
def State.kernelMode (s : State) : Bool := !s.um || s.exl

/-- `UserMode` (R44, R525). -/
def State.userMode (s : State) : Bool := !s.kernelMode

/-- The writable bits of Status; the others stay 0 (R39, R486). -/
def statusMask : BitVec 32 := 0x3600FF13#32

/-- `Status <- v` as a move writes it (R486). -/
def State.writeStatus (s : State) (v : BitVec 32) : State := { s with status := v &&& statusMask }

/-- Whether coprocessor 0 may be used (R44, R505). -/
def State.cp0Usable (s : State) : Bool := s.kernelMode || s.cu0

/-! ### Exceptions -/

/-- The trap causes (R500), with what each records. -/
inductive Exc where
  /-- Interrupt. -/
  | int
  /-- AddressErrorLoad: the virtual address. -/
  | adEL (va : Word)
  /-- AddressErrorStore: the virtual address. -/
  | adES (va : Word)
  /-- SystemCall. -/
  | sys
  /-- Breakpoint. -/
  | bp
  /-- ReservedInstruction. -/
  | ri
  /-- CoprocessorUnusable: the coprocessor. -/
  | cpU (n : BitVec 2)
  /-- IntegerOverflow. -/
  | ov
  /-- FloatingPointException. -/
  | fpe
  deriving DecidableEq, Repr

/-- `ExcCode` of a cause (R500). -/
def Exc.code : Exc → BitVec 5
  | .int => 0#5
  | .adEL _ => 4#5
  | .adES _ => 5#5
  | .sys => 8#5
  | .bp => 9#5
  | .ri => 10#5
  | .cpU _ => 11#5
  | .ov => 12#5
  | .fpe => 15#5

/-- What `Cause.CE` becomes: only CoprocessorUnusable writes it (R40, R510). -/
def Exc.ceAfter (e : Exc) (old : BitVec 2) : BitVec 2 :=
  match e with
  | .cpU n => n
  | _ => old

/-- What `BadVAddr` becomes: only the address errors write it (R43, R510). -/
def Exc.badVAddrAfter (e : Exc) (old : Word) : Word :=
  match e with
  | .adEL va => va
  | .adES va => va
  | _ => old

/-- `TrapEntry` (R510, R513): taking an exception, for every cause. `s` is the state the instruction found, with the
writes that are kept (R507, R511); its `pc` is the address that `EPC` saves, unless `EXL` is 1 already. -/
def takeException (e : Exc) (s : State) : State :=
  { s with
    epc := if s.exl then s.epc else s.pc
    excCode := e.code
    ce := e.ceAfter s.ce
    badVAddr := e.badVAddrAfter s.badVAddr
    status := s.status ||| 2#32
    pc := s.cfg.excVector }

/-- The return from an exception (R488, R512): to `EPC`, with `EXL` and `LLbit` cleared. -/
def returnFromException (s : State) : State :=
  { s with pc := s.epc, status := s.status &&& ~~~2#32, llBit := false }

/-- How the execution of one instruction ends (R11, R57, R563). -/
inductive Effect where
  /-- The instruction completes in this state, its program counter written. -/
  | completes (s : State)
  /-- `raise`: the trap is entered from this state, the one before the instruction but for the writes that are kept
  (R507, R511). -/
  | raises (e : Exc) (s : State)
  /-- `CHECKSTOP`: the instruction is abandoned (R530). -/
  | checkStops
  deriving DecidableEq, Repr

/-- Then: the second operation, unless the first raised or stopped. -/
def Effect.andThen (x : Effect) (f : State → Effect) : Effect :=
  match x with
  | .completes s => f s
  | .raises e s => .raises e s
  | .checkStops => .checkStops

/-- The step an effect makes from the state `s0` the instruction found: a raise takes its exception (R510), a
check-stop leaves everything but `RUN` as it was (R530, log 8). -/
def Effect.commit (x : Effect) (s0 : State) : Host.Outcome State Fault Refusal :=
  match x with
  | .completes s => .next s
  | .raises e s => .next (takeException e s)
  | .checkStops => .next { s0 with run := .checkStop }

/-- An operation that may raise, then the instruction's state: a raise discards what the instruction has done (R11). -/
def Effect.ofExcept (s0 : State) {α : Type} (r : Except Exc α) (f : α → Effect) : Effect :=
  match r with
  | .ok a => f a
  | .error e => .raises e s0

/-- The usual end of an instruction that writes a general register: the write, and `npc = pc + 4` (R22, R26). -/
def writeAndAdvance (rd : GprNo) (v : Word) (s : State) : Effect := .completes (s.writeGpr rd v).advance

/-! ### Memory image -/

/-- The byte at an address; an address that is not listed reads as 0 (DESIGN CHOICE, log 2). -/
def Memory.read : Memory → Nat → Byte
  | [], _ => 0#8
  | (k, v) :: m, a => if k = a then v else Memory.read m a

/-- The list without an address. -/
def Memory.erase (m : Memory) (a : Nat) : Memory := m.filter (fun c => !(c.1 == a))

/-- Puts a byte in front of the first higher address. -/
def Memory.place : Memory → Nat → Byte → Memory
  | [], a, v => [(a, v)]
  | (k, w) :: m, a, v => if k < a then (k, w) :: Memory.place m a v else (a, v) :: (k, w) :: m

/-- Writes one byte and keeps the canonical form: rising addresses, no byte that an unlisted address reads as. -/
def Memory.write (m : Memory) (a : Nat) (v : Byte) : Memory :=
  let rest := Memory.erase m a
  if v = 0#8 then rest else Memory.place rest a v

/-- The canonical form from a lower bound on: strictly rising addresses below 2^64, no listed 0. -/
def Memory.wfFrom : Nat → Memory → Bool
  | _, [] => true
  | lo, (k, v) :: m => decide (lo ≤ k) && decide (k < 2 ^ 64) && v != 0#8 && Memory.wfFrom (k + 1) m

/-- The canonical form of a memory image. -/
def Memory.wf (m : Memory) : Bool := Memory.wfFrom 0 m

/-- `MEM[a]` (R53, R94). -/
def State.byteAt (s : State) (a : Word) : Byte := Memory.read s.mem a.toNat

/-- `MEM[a] <- v`. -/
def State.setByte (s : State) (a : Word) (v : Byte) : State := { s with mem := Memory.write s.mem a.toNat v }

/-- The `n` bytes from `a` on, lowest address first. -/
def State.bytesFrom (s : State) (a : Word) : Nat → List Byte
  | 0 => []
  | n + 1 => s.byteAt a :: s.bytesFrom (a + 1#64) n

/-- Stores bytes from `a` on, lowest address first. -/
def State.storeBytes (s : State) (a : Word) : List Byte → State
  | [] => s
  | b :: bs => (s.setByte a b).storeBytes (a + 1#64) bs

/-- The value of bytes given most significant first, zero-extended to `w` bits. -/
def joinBytes (w : Nat) (acc : BitVec w) : List Byte → BitVec w
  | [] => acc
  | b :: bs => joinBytes w ((acc <<< 8) ||| b.setWidth w) bs

/-- The value of bytes given lowest address first, in a byte order (R74, R84). -/
def valueOfBytes (w : Nat) (be : Bool) (bs : List Byte) : BitVec w :=
  joinBytes w 0#w (if be then bs else bs.reverse)

/-- The `n` low bytes of a value, least significant first. -/
def splitBytes {w : Nat} (v : BitVec w) : Nat → List Byte
  | 0 => []
  | n + 1 => v.setWidth 8 :: splitBytes (v >>> 8) n

/-- The `n` low bytes of a value, lowest address first, in a byte order (R85). -/
def bytesOfValue {w : Nat} (be : Bool) (n : Nat) (v : BitVec w) : List Byte :=
  if be then (splitBytes v n).reverse else splitBytes v n

/-- `Translate(va)`: the identity, which cannot fail (R71). The cache-coherence class is the constant UNCACHED, which
no rule reads. -/
def translate (va : Word) : Word := va

/-- `BigEndianCPU(isfetch)` (R73). -/
def State.bigEndianCPU (s : State) (isFetch : Bool) : Bool := s.configBE ^^ (s.re && s.userMode && !isFetch)

/-- The boundary rule for lengths 1 to 8: an access stays inside an aligned doubleword (R76). -/
def insideDoubleword (pa : Word) (n : Nat) : Bool := decide (pa.toNat % 8 + n ≤ 8)

/-- `MemRead(va, n)` for `n` from 1 to 8, zero-extended to 64 bits (R84). -/
def memRead (s : State) (va : Word) (n : Nat) : Except Exc Word :=
  let pa := translate va
  if insideDoubleword pa n then .ok (valueOfBytes 64 (s.bigEndianCPU false) (s.bytesFrom pa n))
  else .error (.adEL va)

/-- Whether two byte ranges share a byte, on addresses modulo 2^64: `n` bytes at `a` and `m` bytes at `b`. -/
def overlaps (a : Word) (n : Nat) (b : Word) (m : Nat) : Bool :=
  decide ((b - a).toNat < n) || decide ((a - b).toNat < m)

/-- `MayAlias(lladdr, pa, n)` (R98): the constant true, or a predicate that holds at least where the stored bytes
overlap the aligned doubleword that contains `lladdr` and is free elsewhere (log 6). -/
def mayAlias (c : Config) (llAddr pa : Word) (n : Nat) : Bool :=
  c.aliasAlways || overlaps pa n (llAddr &&& ~~~7#64) 8 || Config.mayAliasElsewhere llAddr pa n

/-- The bytes of a store of `n` bytes, without what it does to `LLbit` (R85). -/
def storeValue {w : Nat} (s : State) (pa : Word) (n : Nat) (v : BitVec w) : State :=
  s.storeBytes pa (bytesOfValue (s.bigEndianCPU false) n v)

/-- The last line of R85: a store that may alias the linked address clears `LLbit`. -/
def clearLinkIfAliased (s : State) (pa : Word) (n : Nat) : State :=
  { s with llBit := s.llBit && !mayAlias s.cfg s.llAddr pa n }

/-- `MemWrite(va, n, v)` for `n` from 1 to 8, with `v` in the low 8n bits (R85). -/
def memWrite (s : State) (va : Word) (n : Nat) (v : Word) : Except Exc State :=
  let pa := translate va
  if insideDoubleword pa n then .ok (clearLinkIfAliased (storeValue s pa n v) pa n) else .error (.adES va)

/-- `MemRead(va, 16)` (R86). -/
def memRead16 (s : State) (va : Word) : Except Exc (BitVec 128) :=
  let pa := translate va
  if pa.toNat % 16 = 0 then .ok (valueOfBytes 128 (s.bigEndianCPU false) (s.bytesFrom pa 16)) else .error (.adEL va)

/-- `MemWrite(va, 16, v)` (R86). -/
def memWrite16 (s : State) (va : Word) (v : BitVec 128) : Except Exc State :=
  let pa := translate va
  if pa.toNat % 16 = 0 then .ok (clearLinkIfAliased (storeValue s pa 16 v) pa 16) else .error (.adES va)

/-! ### Pending-write queue -/

/-- `Sched(dest, v, 1, bit)`: on a full queue, a check-stop (R56, R57, R564). -/
def State.sched (s : State) (dest : PendDest) (v : BitVec 64) (bit : Option (BitVec 5)) : Effect :=
  if s.pq.length < s.cfg.pendingCapacity then
    .completes { s with pq := s.pq ++ [{ dest := dest, value := v, remaining := 1, bit := bit }] }
  else .checkStops

/-- The value of the youngest entry for a whole general register, or the given value where there is none. -/
def youngestFor (i : GprNo) (dflt : Word) : List Pending → Word
  | [] => dflt
  | e :: q => youngestFor i (if e.dest = .gpr i ∧ e.bit = none then e.value else dflt) q

/-- `PendingOrCurrent(i)` (R60). -/
def State.pendingOrCurrent (s : State) (i : GprNo) : Word := youngestFor i (s.readGpr i) s.pq

/-! ### Raw access to the floating-point registers -/

/-- The register that holds the more significant half of a doubleword at `i` where `FR` = 0 (R30). No instruction reads
one at an odd `i` (R36). -/
def pairOf (i : FprNo) : FprNo := i + 1#5

/-- The register that takes the more significant half of a doubleword written at `i` where `FR` = 0. For `i` = 31 the
spec's register 32 does not exist: a free value (R32, R59, log 11). -/
def pairForWrite (i : FprNo) : Option FprNo := if i = 31#5 then Config.pairOf31 else some (i + 1#5)

/-- `FGR[i]`. -/
def State.fgrAt (s : State) (i : FprNo) : Word := s.fgr.get i.toFin

/-- `TAG[i]`. -/
def State.tagAt (s : State) (i : FprNo) : FmtTag := s.tag.get i.toFin

/-- `FGR[i] <- v`. -/
def State.setFgr (s : State) (i : FprNo) (v : Word) : State := { s with fgr := s.fgr.set i.toNat v i.isLt }

/-- `TAG[i] <- t`. -/
def State.setTag (s : State) (i : FprNo) (t : FmtTag) : State := { s with tag := s.tag.set i.toNat t i.isLt }

/-- `FGR[i][31:0] <- v`, the upper half unchanged (R32). -/
def State.setFgrLow (s : State) (i : FprNo) (v : BitVec 32) : State :=
  s.setFgr i ((s.fgrAt i).extractLsb' 32 32 ++ v)

/-- `RawRead32(i)` (R32). -/
def State.rawRead32 (s : State) (i : FprNo) : BitVec 32 := (s.fgrAt i).extractLsb' 0 32

/-- `RawRead64(i)` (R32). -/
def State.rawRead64 (s : State) (i : FprNo) : BitVec 64 :=
  if s.fr then s.fgrAt i else s.rawRead32 (pairOf i) ++ s.rawRead32 i

/-- A write of 32 bits with the tag `t` (R32, R34). -/
def State.put32 (s : State) (i : FprNo) (v : BitVec 32) (t : FmtTag) : State := (s.setFgrLow i v).setTag i t

/-- A write of 64 bits with the tag `t` (R32, R34). -/
def State.put64 (s : State) (i : FprNo) (v : BitVec 64) (t : FmtTag) : State :=
  if s.fr then (s.setFgr i v).setTag i t
  else
    let low := s.put32 i (v.extractLsb' 0 32) t
    match pairForWrite i with
    | some j => low.put32 j (v.extractLsb' 32 32) t
    | none => low

/-- `RawWrite32(i, v)` (R32). -/
def State.rawWrite32 (s : State) (i : FprNo) (v : BitVec 32) : State := s.put32 i v .uninterpreted

/-- `RawWrite64(i, v)` (R32). -/
def State.rawWrite64 (s : State) (i : FprNo) (v : BitVec 64) : State := s.put64 i v .uninterpreted

/-! ### CP0 registers -/

/-- `Cause.IP`: the live view of `INT_LEVEL` (R40, R520). -/
def State.causeIP (s : State) : BitVec 8 :=
  if s.pins.intLevel = 0#3 then 0#8 else 1#8 <<< s.pins.intLevel.toNat

/-- `Cause` as it reads (R40). -/
def State.cause (s : State) : BitVec 32 :=
  0#2 ++ s.ce ++ 0#12 ++ s.causeIP ++ 0#1 ++ s.excCode ++ 0#2

/-- `Config` as it reads (R41). -/
def State.configReg (s : State) : BitVec 32 := if s.configBE then 0x8000#32 else 0#32

/-- `CP0[rd]`, zero-extended to 64 bits, of an implemented register (R38, R44). -/
def State.readCp0 (s : State) (rd : BitVec 5) : Option Word :=
  match rd with
  | 8#5 => some s.badVAddr
  | 12#5 => some (s.status.setWidth 64)
  | 13#5 => some (s.cause.setWidth 64)
  | 14#5 => some s.epc
  | 15#5 => some (s.cfg.prid.setWidth 64)
  | 16#5 => some (s.configReg.setWidth 64)
  | _ => none

/-- A write to an implemented CP0 register: Status takes the low 32 bits of `v` under its mask, EPC takes `v`, the
read-only registers ignore it (R486, R487). -/
def State.writeCp0 (s : State) (rd : BitVec 5) (v : Word) : State :=
  match rd with
  | 12#5 => s.writeStatus (v.setWidth 32)
  | 14#5 => { s with epc := v }
  | _ => s

end Sys2Proof.Machine
end

