-- ==== Sys2Proof/Machine/Operands.lean ====
section
/-! DEFINITION. Operand forms: immediates and targets (30_encoding.md R113, 42_control_transfer.md), effective addresses
and merge accesses (43_load_store.md R240, R256), formatted access to the floating-point registers (10_state.md
R33-R36) and the lanes of the MDMX operands (46_mdmx_lane_ops.md R401-R403). -/

namespace Sys2Proof.Machine

/-! ### Integer operands -/

/-- `sext_64(imm)` (R113). -/
def signExt16 (imm : BitVec 16) : Word := imm.signExtend 64

/-- `zext_64(imm)` (R113). -/
def zeroExt16 (imm : BitVec 16) : Word := imm.setWidth 64

/-- `x[i][31:0]` (R200). -/
def State.readGprLow (s : State) (i : GprNo) : BitVec 32 := (s.readGpr i).extractLsb' 0 32

/-- `sext_64` of a 32-bit result (R200). -/
def signExt32 (v : BitVec 32) : Word := v.signExtend 64

/-- The target of a branch, `trunc_64(pc + 4 + s(sext_64(imm ‖ 00)))` (42_control_transfer.md section 3). -/
def State.branchTarget (s : State) (imm : BitVec 16) : Word := s.nextPc + (imm ++ 0#2).signExtend 64

/-- The target of J and JAL, `(pc + 4)[63:28] ‖ index ‖ 00` (R222). -/
def State.jumpTarget (s : State) (index : BitVec 26) : Word := s.nextPc.extractLsb' 28 36 ++ index ++ 0#2

/-- The effective address `trunc_64(u(x[base]) + u(sext_64(imm)))` (R240). -/
def State.effectiveAddress (s : State) (base : GprNo) (imm : BitVec 16) : Word := s.readGpr base + signExt16 imm

/-- Whether an address is a multiple of `n`, for `n` a power of two (R77). -/
def alignedTo (va : Word) (n : Nat) : Bool := decide (va.toNat % n = 0)

/-- The bytes a merge access touches: address and count (R256). -/
structure MergeAccess where
  /-- The first address. -/
  addr : Word
  /-- The number of bytes. -/
  count : Nat
  deriving DecidableEq, Repr

/-- `b` of R256: the offset of `va` in the aligned word (`w` = 4) or doubleword (`w` = 8) that holds it. -/
def mergeOffset (w : Nat) (va : Word) : Nat := va.toNat % w

/-- The *left* access: from `va` to the end of its unit in big-endian order, from its start to `va` in little-endian
order (R256). -/
def leftAccess (w : Nat) (be : Bool) (va : Word) : MergeAccess :=
  let b := mergeOffset w va
  if be then { addr := va, count := w - b } else { addr := va - BitVec.ofNat 64 b, count := b + 1 }

/-- The *right* access: the other way round (R256). -/
def rightAccess (w : Nat) (be : Bool) (va : Word) : MergeAccess :=
  let b := mergeOffset w va
  if be then { addr := va - BitVec.ofNat 64 b, count := b + 1 } else { addr := va, count := w - b }

/-- The `8n` low bits of a value, all of them set. -/
def lowMask (w n : Nat) : BitVec w := BitVec.ofNat w (2 ^ (8 * n) - 1)

/-- The `n` most significant bytes of `old` replaced by the value `m`: `m ‖ old[w − 8n − 1 : 0]` (R257, R259). -/
def mergeHigh {w : Nat} (old m : BitVec w) (n : Nat) : BitVec w :=
  let keep := w / 8 - n
  (m <<< (8 * keep)) ||| (old &&& lowMask w keep)

/-- The `n` least significant bytes of `old` replaced by the value `m`: `old[w − 1 : 8n] ‖ m` (R258, R260). -/
def mergeLow {w : Nat} (old m : BitVec w) (n : Nat) : BitVec w := (old &&& ~~~lowMask w n) ||| (m &&& lowMask w n)

/-- The `n` most significant bytes of a value (R261, R263). -/
def highBytes {w : Nat} (v : BitVec w) (n : Nat) : BitVec w := v >>> (8 * (w / 8 - n))

/-! ### Floating-point operands -/

/-- The formats of the FPU (R31). -/
inductive Fmt where
  /-- S, single. -/
  | s
  /-- D, double. -/
  | d
  /-- W, 32-bit integer. -/
  | w
  /-- L, 64-bit integer. -/
  | l
  /-- PS, paired single. -/
  | ps
  deriving DecidableEq, Repr

/-- Whether a format is 64 bits wide (R31). -/
def Fmt.wide : Fmt → Bool
  | .s => false
  | .w => false
  | .d => true
  | .l => true
  | .ps => true

/-- The tag of a format (R31). -/
def Fmt.tag : Fmt → FmtTag
  | .s => .single
  | .d => .double
  | .w => .word
  | .l => .long
  | .ps => .pairedSingle

/-- `CanonNaN(fmt)`, in the low bits for a 32-bit format (R35). -/
def Fmt.canonNaN : Fmt → BitVec 64
  | .s => 0x7FC00000#64
  | .d => 0x7FF8000000000000#64
  | .w => 0x7FFFFFFF#64
  | .l => 0x7FFFFFFFFFFFFFFF#64
  | .ps => 0x7FC000007FC00000#64

/-- The registers whose tags an operand at `i` has: two for a 64-bit format where `FR` = 0 (R33). -/
def State.operandRegs (s : State) (i : FprNo) (fmt : Fmt) : List FprNo :=
  if fmt.wide && !s.fr then [i, pairOf i] else [i]

/-- The tags of several registers set alike. -/
def State.setTags (s : State) (regs : List FprNo) (t : FmtTag) : State :=
  match regs with
  | [] => s
  | r :: rs => (s.setTag r t).setTags rs t

/-- Whether a formatted read of `i` finds the format: every tag is the format's or `uninterpreted` (R33). -/
def State.tagsMatch (s : State) (i : FprNo) (fmt : Fmt) : Bool :=
  (s.operandRegs i fmt).all fun r => s.tagAt r == fmt.tag || s.tagAt r == .uninterpreted

/-- The value `ReadFPR(i, fmt)` returns, in the low bits for a 32-bit format (R33). -/
def State.fprValue (s : State) (i : FprNo) (fmt : Fmt) : BitVec 64 :=
  if s.tagsMatch i fmt then (if fmt.wide then s.rawRead64 i else (s.rawRead32 i).setWidth 64) else fmt.canonNaN

/-- What `ReadFPR(i, fmt)` makes of the tags (R33). -/
def State.retag (s : State) (i : FprNo) (fmt : Fmt) : State :=
  s.setTags (s.operandRegs i fmt) (if s.tagsMatch i fmt then fmt.tag else .unknown)

/-- `WriteFPR(i, fmt, v)` (R34). -/
def State.writeFpr (s : State) (i : FprNo) (fmt : Fmt) (v : BitVec 64) : State :=
  if fmt.wide then s.put64 i v fmt.tag else s.put32 i (v.extractLsb' 0 32) fmt.tag

/-- Whether `CheckFPR64(i)` passes (R36). -/
def State.fpr64Ok (s : State) (i : FprNo) : Bool := s.fr || i.extractLsb' 0 1 == 0#1

/-- `FPEnter(regs64)` (R295): CoprocessorUnusable before ReservedInstruction. -/
def State.fpEnter (s : State) (regs64 : List FprNo) : Except Exc Unit :=
  if s.cu1 then (if regs64.all s.fpr64Ok then .ok () else .error .ri) else .error (.cpU 1#2)

/-- The registers of a list that an instruction in this format checks (R330). -/
def Fmt.checked (fmt : Fmt) (regs : List FprNo) : List FprNo := if fmt.wide then regs else []

/-! ### MDMX operands -/

/-- `MDMXEnter` (R400). -/
def State.mdmxEnter (s : State) : Except Exc Unit :=
  if s.cu1 then (if s.fr then .ok () else .error .ri) else .error (.cpU 1#2)

/-- Lane `i` of an OB vector (R401). -/
def laneOb (v : Word) (i : Fin 8) : BitVec 8 := v.extractLsb' (8 * i.val) 8

/-- Lane `i` of a QH vector (R401). -/
def laneQh (v : Word) (i : Fin 4) : BitVec 16 := v.extractLsb' (16 * i.val) 16

/-- The OB vector with the given lanes (R401). -/
def packOb (r : Fin 8 → BitVec 8) : Word := r 7 ++ r 6 ++ r 5 ++ r 4 ++ r 3 ++ r 2 ++ r 1 ++ r 0

/-- The QH vector with the given lanes (R401). -/
def packQh (r : Fin 4 → BitVec 16) : Word := r 3 ++ r 2 ++ r 1 ++ r 0

/-- The second operand of an OB instruction (R402). -/
inductive ObOperand where
  /-- By element `e` of `vt`. -/
  | element (vt : FprNo) (e : BitVec 3)
  /-- By vector `vt`. -/
  | vector (vt : FprNo)
  /-- By immediate. -/
  | immediate (imm : BitVec 5)
  deriving DecidableEq, Repr

/-- The second operand of a QH instruction (R402). -/
inductive QhOperand where
  /-- By element `e` of `vt`. -/
  | element (vt : FprNo) (e : BitVec 2)
  /-- By vector `vt`. -/
  | vector (vt : FprNo)
  /-- By immediate. -/
  | immediate (imm : BitVec 5)
  deriving DecidableEq, Repr

/-- `T[i]` of an OB instruction (R402). -/
def ObOperand.lane (o : ObOperand) (s : State) (i : Fin 8) : BitVec 8 :=
  match o with
  | .element vt e => laneOb (s.fgrAt vt) e.toFin
  | .vector vt => laneOb (s.fgrAt vt) i
  | .immediate imm => imm.setWidth 8

/-- `T[i]` of a QH instruction (R402). -/
def QhOperand.lane (o : QhOperand) (s : State) (i : Fin 4) : BitVec 16 :=
  match o with
  | .element vt e => laneQh (s.fgrAt vt) e.toFin
  | .vector vt => laneQh (s.fgrAt vt) i
  | .immediate imm => imm.setWidth 16

/-- The integer an OB lane denotes (R401). -/
def obInt (b : BitVec 8) : Int := b.toNat

/-- The integer a QH lane denotes (R401). -/
def qhInt (b : BitVec 16) : Int := b.toInt

/-- An integer clamped to a range. -/
def clampInt (lo hi n : Int) : Int := if n < lo then lo else if hi < n then hi else n

/-- `trunc_8(sat_OB(n))` (R403). -/
def satOb (n : Int) : BitVec 8 := BitVec.ofInt 8 (clampInt 0 255 n)

/-- `trunc_16(sat_QH(n))` (R403). -/
def satQh (n : Int) : BitVec 16 := BitVec.ofInt 16 (clampInt (-32768) 32767 n)

end Sys2Proof.Machine
end

