-- ==== Sys2Proof/Machine/Control.lean ====
section
/-! DEFINITION. Jumps and branches (42_control_transfer.md R220-R232, 45_fpu_instructions.md R372, R373). -/

namespace Sys2Proof.Machine

/-- A conditional branch: to its target, or to the next instruction (R220). It writes no register and cannot raise. -/
def branchIf (taken : Bool) (imm : BitVec 16) (s : State) : Effect :=
  .completes (if taken then s.setPc (s.branchTarget imm) else s.advance)

/-- A jump that first writes its link `pc + 4` into `rd` (R223, R225, R232). -/
def jumpAndLink (rd : GprNo) (target : Word) (s : State) : Effect :=
  .completes ((s.writeGpr rd s.nextPc).setPc target)

/-- J (R222). -/
def execJ (index : BitVec 26) (s : State) : Host.Outcome State Fault Refusal :=
  (Effect.completes (s.setPc (s.jumpTarget index))).commit s

/-- JAL (R223). -/
def execJal (index : BitVec 26) (s : State) : Host.Outcome State Fault Refusal :=
  (jumpAndLink 31#5 (s.jumpTarget index) s).commit s

/-- JR (R224): the target is not checked (R221). -/
def execJr (rs : GprNo) (s : State) : Host.Outcome State Fault Refusal :=
  (Effect.completes (s.setPc (s.readGpr rs))).commit s

/-- JALR (R225): the target is read before the link is written. -/
def execJalr (rd rs : GprNo) (s : State) : Host.Outcome State Fault Refusal :=
  (jumpAndLink rd (s.readGpr rs) s).commit s

/-- BEQ (R226). -/
def execBeq (rs rt : GprNo) (imm : BitVec 16) (s : State) : Host.Outcome State Fault Refusal :=
  (branchIf (s.readGpr rs == s.readGpr rt) imm s).commit s

/-- BNE (R227). -/
def execBne (rs rt : GprNo) (imm : BitVec 16) (s : State) : Host.Outcome State Fault Refusal :=
  (branchIf (s.readGpr rs != s.readGpr rt) imm s).commit s

/-- BLEZ (R228). -/
def execBlez (rs : GprNo) (imm : BitVec 16) (s : State) : Host.Outcome State Fault Refusal :=
  (branchIf (decide ((s.readGpr rs).toInt ≤ 0)) imm s).commit s

/-- BGTZ (R229). -/
def execBgtz (rs : GprNo) (imm : BitVec 16) (s : State) : Host.Outcome State Fault Refusal :=
  (branchIf (decide (0 < (s.readGpr rs).toInt)) imm s).commit s

/-- BLTZ (R230). -/
def execBltz (rs : GprNo) (imm : BitVec 16) (s : State) : Host.Outcome State Fault Refusal :=
  (branchIf (s.readGpr rs).msb imm s).commit s

/-- BGEZ (R231). -/
def execBgez (rs : GprNo) (imm : BitVec 16) (s : State) : Host.Outcome State Fault Refusal :=
  (branchIf (!(s.readGpr rs).msb) imm s).commit s

/-- The two FPU branches (R372, R373): CoprocessorUnusable(1) without `CU1`; otherwise on a condition code, as the FCSR
holds it now. -/
def fpuBranchIf (cc : BitVec 3) (wanted : Bool) (imm : BitVec 16) (s : State) : Effect :=
  .ofExcept s (s.fpEnter []) fun _ => branchIf (s.fcc cc == wanted) imm s

/-- BC1F (R372). -/
def execBc1f (cc : BitVec 3) (imm : BitVec 16) (s : State) : Host.Outcome State Fault Refusal :=
  (fpuBranchIf cc false imm s).commit s

/-- BC1T (R373). -/
def execBc1t (cc : BitVec 3) (imm : BitVec 16) (s : State) : Host.Outcome State Fault Refusal :=
  (fpuBranchIf cc true imm s).commit s


end Sys2Proof.Machine
end

