-- ==== Sys2Proof/Machine/FpuUnit.lean ====
section
/-! DEFINITION. The floating-point unit: every operation a pure function of its operands, the rounding mode and the
flush-to-zero policy (44_fpu_unit.md R280-R312). It has no state (R312). -/

namespace Sys2Proof.Machine

/-- The two binary formats of R280. -/
inductive FpFmt where
  /-- binary32. -/
  | single
  /-- binary64. -/
  | double
  deriving DecidableEq, Repr

/-- The width of a format (R280). -/
abbrev FpFmt.width : FpFmt → Nat
  | .single => 32
  | .double => 64

/-- `p`, the precision (R280). -/
def FpFmt.prec : FpFmt → Nat
  | .single => 24
  | .double => 53

/-- The bias (R280). -/
def FpFmt.bias : FpFmt → Nat
  | .single => 127
  | .double => 1023

/-- `emin` (R280). -/
def FpFmt.emin : FpFmt → Int
  | .single => -126
  | .double => -1022

/-- `emax` (R280). -/
def FpFmt.emax : FpFmt → Int
  | .single => 127
  | .double => 1023

/-- `Emax`, the exponent field of infinities and NaNs (R281). -/
def FpFmt.expMax : FpFmt → Nat
  | .single => 255
  | .double => 2047

/-- A pattern of a format. -/
abbrev FpBits (f : FpFmt) := BitVec f.width

/-- What an operation returns: a pattern and the raised flags (R293). -/
abbrev FpResult (f : FpFmt) := FpBits f × FpExcs

/-! ### Fields, classes and values -/

/-- The sign bit `s` (R280). -/
def fpSign {f : FpFmt} (b : FpBits f) : Bool := b.msb

/-- The biased exponent field `E` (R280). -/
def fpExp {f : FpFmt} (b : FpBits f) : Nat := (b.toNat / 2 ^ (f.prec - 1)) % (f.expMax + 1)

/-- The fraction field `F` (R280). -/
def fpFrac {f : FpFmt} (b : FpBits f) : Nat := b.toNat % 2 ^ (f.prec - 1)

/-- A NaN (R281). -/
def fpIsNaN {f : FpFmt} (b : FpBits f) : Bool := fpExp b == f.expMax && fpFrac b != 0

/-- A signaling NaN: the most significant fraction bit is 0 (R282). -/
def fpIsSNaN {f : FpFmt} (b : FpBits f) : Bool := fpIsNaN b && decide (fpFrac b < 2 ^ (f.prec - 2))

/-- An infinity (R281). -/
def fpIsInf {f : FpFmt} (b : FpBits f) : Bool := fpExp b == f.expMax && fpFrac b == 0

/-- A zero (R281). -/
def fpIsZero {f : FpFmt} (b : FpBits f) : Bool := fpExp b == 0 && fpFrac b == 0

/-- `2^k` for an integer `k`. -/
def pow2 (k : Int) : Rat := if 0 ≤ k then ((2 ^ k.toNat : Nat) : Rat) else 1 / ((2 ^ (-k).toNat : Nat) : Rat)

/-- The magnitude of a finite pattern (R281). -/
def fpMagnitude {f : FpFmt} (b : FpBits f) : Rat :=
  if fpExp b = 0 then (fpFrac b : Rat) * pow2 (f.emin - f.prec + 1)
  else ((2 ^ (f.prec - 1) + fpFrac b : Nat) : Rat) * pow2 ((fpExp b : Int) - f.bias - f.prec + 1)

/-- `val(b)` of a finite pattern (R281); 0 stands for both zeros. -/
def fpVal {f : FpFmt} (b : FpBits f) : Rat := if fpSign b then -fpMagnitude b else fpMagnitude b

/-! ### Patterns -/

/-- The pattern with a sign and a magnitude field, the bits below the sign. -/
def fpPattern (f : FpFmt) (sign : Bool) (mag : Nat) : FpBits f :=
  BitVec.ofNat f.width ((if sign then 2 ^ (f.width - 1) else 0) + mag)

/-- A zero of a sign. -/
def fpZero (f : FpFmt) (sign : Bool) : FpBits f := fpPattern f sign 0

/-- An infinity of a sign. -/
def fpInf (f : FpFmt) (sign : Bool) : FpBits f := fpPattern f sign (f.expMax * 2 ^ (f.prec - 1))

/-- `MAXFIN` with a sign (R281). -/
def fpMaxFin (f : FpFmt) (sign : Bool) : FpBits f := fpPattern f sign (f.expMax * 2 ^ (f.prec - 1) - 1)

/-- The canonical quiet NaN (R35, R282). -/
def fpCanonNaN : (f : FpFmt) → FpBits f
  | .single => 0x7FC00000#32
  | .double => 0x7FF8000000000000#64

/-- `Enc` of the magnitude `n · 2^(e − p + 1)`, for `emin ≤ e` and `n ≤ 2^p`, and for `e = emin` where `n < 2^(p−1)`
(R281). The magnitude field counts the representable magnitudes, so a carry out of the fraction moves the exponent. -/
def fpEncode (f : FpFmt) (sign : Bool) (e : Int) (n : Nat) : FpBits f :=
  fpPattern f sign ((e + f.bias - 1).toNat * 2 ^ (f.prec - 1) + n)

/-- 1.0 (R302, R307). -/
def fpOne (f : FpFmt) : FpBits f := fpEncode f false 0 (2 ^ (f.prec - 1))

/-- 0.5 (R308). -/
def fpHalf (f : FpFmt) : FpBits f := fpEncode f false (-1) (2 ^ (f.prec - 1))

/-! ### Rounding -/

/-- How a remainder in [0, 1) stands to 0 and to 1/2: all that rounding asks of it (R284, R301). -/
inductive Rest where
  /-- 0. -/
  | zero
  /-- Between 0 and 1/2. -/
  | low
  /-- 1/2. -/
  | half
  /-- Above 1/2. -/
  | high
  deriving DecidableEq, Repr

/-- The class of a rational remainder. -/
def Rest.of (rem : Rat) : Rest :=
  if rem = 0 then .zero else if rem < 1 / 2 then .low else if rem = 1 / 2 then .half else .high

/-- `up` of R284. -/
def roundsUp (rm : RoundingMode) (sign : Bool) (n0 : Nat) (rem : Rest) : Bool :=
  match rm with
  | .nearestEven => rem == .high || (rem == .half && n0 % 2 == 1)
  | .towardZero => false
  | .towardPlus => rem != .zero && !sign
  | .towardMinus => rem != .zero && sign

/-- `Overflow(fmt, rm, s)` (R285). -/
def fpOverflow (f : FpFmt) (rm : RoundingMode) (sign : Bool) : FpResult f :=
  let r := match rm with
    | .nearestEven => fpInf f sign
    | .towardZero => fpMaxFin f sign
    | .towardPlus => if sign then fpMaxFin f sign else fpInf f sign
    | .towardMinus => if sign then fpInf f sign else fpMaxFin f sign
  (r, excO ||| excI)

/-- The end of R284, from the exponent `e'`, the integer part `n0` of the magnitude in units `q` = 2^(e' − p + 1), its
remainder and `tiny` (R284-R287, R292). -/
def finishRound (f : FpFmt) (rm : RoundingMode) (fs sign : Bool) (e' : Int) (n0 : Nat) (rem : Rest) (tiny : Bool) :
    FpResult f :=
  let n := if roundsUp rm sign n0 rem then n0 + 1 else n0
  let y := (n : Rat) * pow2 (e' - f.prec + 1)
  let inexact := rem != .zero
  if pow2 (f.emax + 1) ≤ y then fpOverflow f rm sign
  else if fs ∧ 0 < y ∧ y < pow2 f.emin then (fpZero f sign, excU ||| excI)
  else (fpEncode f sign e' n, (if inexact then excI else 0#5) ||| (if tiny && inexact then excU else 0#5))

/-- The integer `e` with `2^e ≤ a < 2^(e+1)`, for a positive rational. -/
def ratLog2 (a : Rat) : Int :=
  let k : Int := (Nat.log2 a.num.natAbs : Int) - (Nat.log2 a.den : Int)
  if pow2 k ≤ a then k else k - 1

/-- `Round(fmt, rm, fs, r)` for `r ≠ 0` (R284). -/
def fpRound (f : FpFmt) (rm : RoundingMode) (fs : Bool) (r : Rat) : FpResult f :=
  let sign := decide (r < 0)
  let a := if r < 0 then -r else r
  let e' := max (ratLog2 a) f.emin
  let t := a / pow2 (e' - f.prec + 1)
  let n0 := t.floor
  finishRound f rm fs sign e' n0.toNat (Rest.of (t - n0)) (decide (a < pow2 f.emin))

/-! ### NaN operands -/

/-- The flags of NaN operands: V where one is signaling (R289). -/
def nanFlags (anySignaling : Bool) : FpExcs := if anySignaling then excV else 0#5

/-- R289 for one operand, in front of an operation. -/
def unlessNaN {f g : FpFmt} (a : FpBits f) (k : FpResult g) : FpResult g :=
  if fpIsNaN a then (fpCanonNaN g, nanFlags (fpIsSNaN a)) else k

/-- R289 for two operands, in front of an operation. -/
def unlessNaN2 {f : FpFmt} (a b : FpBits f) (k : FpResult f) : FpResult f :=
  if fpIsNaN a || fpIsNaN b then (fpCanonNaN f, nanFlags (fpIsSNaN a || fpIsSNaN b)) else k

/-- An operation that creates a NaN from operands that are none (R289). -/
def fpInvalid (f : FpFmt) : FpResult f := (fpCanonNaN f, excV)

/-! ### Arithmetic -/

/-- A pattern with its sign bit inverted (R298, R304). -/
def fpFlipSign {f : FpFmt} (a : FpBits f) : FpBits f := a ^^^ fpZero f true

/-- `add` of two operands that are no NaN (R297). -/
def fpAddNumbers (f : FpFmt) (rm : RoundingMode) (fs : Bool) (a b : FpBits f) : FpResult f :=
  if fpIsInf a && fpIsInf b && (fpSign a != fpSign b) then fpInvalid f
  else if fpIsInf a then (a, 0#5)
  else if fpIsInf b then (b, 0#5)
  else
    let r := fpVal a + fpVal b
    if r ≠ 0 then fpRound f rm fs r
    else if fpIsZero a && fpIsZero b && (fpSign a == fpSign b) then (a, 0#5)
    else (fpZero f (rm == .towardMinus), 0#5)

/-- `add(a, b)` (R297). -/
def fpAdd (f : FpFmt) (rm : RoundingMode) (fs : Bool) (a b : FpBits f) : FpResult f :=
  unlessNaN2 a b (fpAddNumbers f rm fs a b)

/-- `sub(a, b)` (R298). -/
def fpSub (f : FpFmt) (rm : RoundingMode) (fs : Bool) (a b : FpBits f) : FpResult f :=
  unlessNaN2 a b (fpAddNumbers f rm fs a (fpFlipSign b))

/-- `mul(a, b)` with a scale on the exact product of two finite nonzero operands: 1 for R299, 1/2 for `mulscaled` of
R308. -/
def fpMulScaled (f : FpFmt) (scale : Rat) (rm : RoundingMode) (fs : Bool) (a b : FpBits f) : FpResult f :=
  unlessNaN2 a b <|
    let sign := fpSign a ^^ fpSign b
    if (fpIsZero a && fpIsInf b) || (fpIsInf a && fpIsZero b) then fpInvalid f
    else if fpIsInf a || fpIsInf b then (fpInf f sign, 0#5)
    else if fpIsZero a || fpIsZero b then (fpZero f sign, 0#5)
    else fpRound f rm fs (fpVal a * fpVal b * scale)

/-- `mul(a, b)` (R299). -/
def fpMul (f : FpFmt) (rm : RoundingMode) (fs : Bool) (a b : FpBits f) : FpResult f := fpMulScaled f 1 rm fs a b

/-- `div(a, b)` (R300). -/
def fpDiv (f : FpFmt) (rm : RoundingMode) (fs : Bool) (a b : FpBits f) : FpResult f :=
  unlessNaN2 a b <|
    let sign := fpSign a ^^ fpSign b
    if (fpIsZero a && fpIsZero b) || (fpIsInf a && fpIsInf b) then fpInvalid f
    else if fpIsInf a then (fpInf f sign, 0#5)
    else if fpIsInf b then (fpZero f sign, 0#5)
    else if fpIsZero b then (fpInf f sign, excZ)
    else if fpIsZero a then (fpZero f sign, 0#5)
    else fpRound f rm fs (fpVal a / fpVal b)

/-- The largest `n` below `2^k · (root + 1)` found from `root` on, bit by bit, with `n^2 ≤ x`: with `root` = 0, the
integer square root of an `x` below `2^(2k)`. -/
def isqrtFrom (x : Nat) : Nat → Nat → Nat
  | 0, root => root
  | k + 1, root =>
    let root' := root + 2 ^ k
    isqrtFrom x k (if root' * root' ≤ x then root' else root)

/-- The rounded square root of a positive rational, every comparison decided by squaring (R301). -/
def fpSqrtRound (f : FpFmt) (rm : RoundingMode) (fs : Bool) (x : Rat) : FpResult f :=
  let e' := max (ratLog2 x / 2) f.emin
  let q := pow2 (e' - f.prec + 1)
  let y := x / (q * q)
  let n0 := isqrtFrom y.floor.toNat f.prec 0
  let low : Rat := n0
  let mid : Rat := low + 1 / 2
  let rem : Rest :=
    if low * low = y then .zero else if y < mid * mid then .low else if mid * mid = y then .half else .high
  finishRound f rm fs false e' n0 rem false

/-- `sqrt(a)` (R301). -/
def fpSqrt (f : FpFmt) (rm : RoundingMode) (fs : Bool) (a : FpBits f) : FpResult f :=
  unlessNaN a <|
    if fpIsZero a then (a, 0#5)
    else if fpSign a then fpInvalid f
    else if fpIsInf a then (a, 0#5)
    else fpSqrtRound f rm fs (fpVal a)

/-- `recip(a)` (R302). -/
def fpRecip (f : FpFmt) (rm : RoundingMode) (fs : Bool) (a : FpBits f) : FpResult f := fpDiv f rm fs (fpOne f) a

/-- `abs(a)` (R303). It does not round. -/
def fpAbs (f : FpFmt) (_rm : RoundingMode) (_fs : Bool) (a : FpBits f) : FpResult f :=
  unlessNaN a (a &&& ~~~fpZero f true, 0#5)

/-- `neg(a)` (R304). It does not round. -/
def fpNeg (f : FpFmt) (_rm : RoundingMode) (_fs : Bool) (a : FpBits f) : FpResult f :=
  unlessNaN a (fpFlipSign a, 0#5)

/-! ### Comparison -/

/-- `val(a) < val(b)` of two operands that are no NaN, infinities included (R305). -/
def fpLess {f : FpFmt} (a b : FpBits f) : Bool :=
  if fpIsInf a && fpIsInf b then fpSign a && !fpSign b
  else if fpIsInf a then fpSign a
  else if fpIsInf b then !fpSign b
  else decide (fpVal a < fpVal b)

/-- `val(a) = val(b)` of two operands that are no NaN, infinities included (R305). -/
def fpEqual {f : FpFmt} (a b : FpBits f) : Bool :=
  if fpIsInf a && fpIsInf b then fpSign a == fpSign b
  else if fpIsInf a || fpIsInf b then false
  else decide (fpVal a = fpVal b)

/-- `compare(fmt, a, b, cond)` (R305): the result bit and the flags. Bits of `cond`: 0 unordered, 1 equal, 2 less,
3 signal. -/
def fpCompare (f : FpFmt) (cond : BitVec 4) (a b : FpBits f) : Bool × FpExcs :=
  let unordered := fpIsNaN a || fpIsNaN b
  let less := !unordered && fpLess a b
  let equal := !unordered && fpEqual a b
  ((cond.getLsbD 0 && unordered) || (cond.getLsbD 1 && equal) || (cond.getLsbD 2 && less),
    nanFlags (fpIsSNaN a || fpIsSNaN b || (unordered && cond.getLsbD 3)))

/-! ### Multiply-add and refine: two roundings -/

/-- A second operation on the result of a first, with the flags of both (R306). -/
def FpResult.then {f : FpFmt} (x : FpResult f) (k : FpBits f → FpResult f) : FpResult f :=
  let y := k x.1
  (y.1, x.2 ||| y.2)

/-- `madd(a, b, c)` (R306). -/
def fpMadd (f : FpFmt) (rm : RoundingMode) (fs : Bool) (a b c : FpBits f) : FpResult f :=
  FpResult.then (fpMul f rm fs a b) fun p => fpAdd f rm fs p c

/-- `msub(a, b, c)` (R306). -/
def fpMsub (f : FpFmt) (rm : RoundingMode) (fs : Bool) (a b c : FpBits f) : FpResult f :=
  FpResult.then (fpMul f rm fs a b) fun p => fpSub f rm fs p c

/-- `nmadd(a, b, c)` (R306). -/
def fpNmadd (f : FpFmt) (rm : RoundingMode) (fs : Bool) (a b c : FpBits f) : FpResult f :=
  FpResult.then (fpMadd f rm fs a b c) fun t => fpNeg f rm fs t

/-- `nmsub(a, b, c)` (R306). -/
def fpNmsub (f : FpFmt) (rm : RoundingMode) (fs : Bool) (a b c : FpBits f) : FpResult f :=
  FpResult.then (fpMsub f rm fs a b c) fun t => fpNeg f rm fs t

/-- `recip2(a, b)` (R307). -/
def fpRecip2 (f : FpFmt) (rm : RoundingMode) (fs : Bool) (a b : FpBits f) : FpResult f :=
  fpNmsub f rm fs a b (fpOne f)

/-- `rsqrt2(a, b)` (R308). -/
def fpRsqrt2 (f : FpFmt) (rm : RoundingMode) (fs : Bool) (a b : FpBits f) : FpResult f :=
  FpResult.then (FpResult.then (fpMulScaled f (1 / 2) rm fs a b) fun p => fpSub f rm fs p (fpHalf f)) fun t =>
    fpNeg f rm fs t

/-! ### Conversions -/

/-- `cvt(S → D)` (R309): exact, whatever the rounding mode and `FS`. -/
def fpSingleToDouble (a : BitVec 32) : FpResult .double :=
  unlessNaN (f := .single) a <|
    if fpIsInf (f := .single) a then (fpInf .double (fpSign (f := .single) a), 0#5)
    else if fpIsZero (f := .single) a then (fpZero .double (fpSign (f := .single) a), 0#5)
    else ((fpRound .double .nearestEven false (fpVal (f := .single) a)).1, 0#5)

/-- `cvt(D → S)` (R309). -/
def fpDoubleToSingle (rm : RoundingMode) (fs : Bool) (a : BitVec 64) : FpResult .single :=
  unlessNaN (f := .double) a <|
    if fpIsInf (f := .double) a then (fpInf .single (fpSign (f := .double) a), 0#5)
    else if fpIsZero (f := .double) a then (fpZero .single (fpSign (f := .double) a), 0#5)
    else fpRound .single rm fs (fpVal (f := .double) a)

/-- An integer to a floating-point format (R310). -/
def fpOfInt (f : FpFmt) (rm : RoundingMode) (fs : Bool) (i : Int) : FpResult f :=
  if i = 0 then (fpZero f false, 0#5) else fpRound f rm fs (i : Rat)

/-- A rational rounded to an integer (R311). -/
def roundToInt (rm : RoundingMode) (r : Rat) : Int :=
  let down := r.floor
  let rem := r - down
  let up := match rm with
    | .nearestEven => decide (1 / 2 < rem) || (decide (rem = 1 / 2) && down % 2 == 1)
    | .towardZero => decide (r < 0) && decide (rem ≠ 0)
    | .towardPlus => decide (rem ≠ 0)
    | .towardMinus => false
  if up then down + 1 else down

/-- A floating-point value to an integer of `n` bits: out of range, infinite or NaN operands raise V and clamp
(R311). -/
def fpToInt (f : FpFmt) (n : Nat) (rm : RoundingMode) (a : FpBits f) : BitVec n × FpExcs :=
  let maxInt : Int := 2 ^ (n - 1) - 1
  let minInt : Int := -2 ^ (n - 1)
  if fpIsNaN a then (BitVec.ofInt n maxInt, excV)
  else if fpIsInf a then (BitVec.ofInt n (if fpSign a then minInt else maxInt), excV)
  else
    let r := fpVal a
    let i := roundToInt rm r
    if maxInt < i then (BitVec.ofInt n maxInt, excV)
    else if i < minInt then (BitVec.ofInt n minInt, excV)
    else (BitVec.ofInt n i, if (i : Rat) = r then 0#5 else excI)

end Sys2Proof.Machine
end

