-- ==== Sys2Proof/Machine/FpuOps.lean ====
section
/-! DEFINITION. What every FPU instruction does around its operation (44_fpu_unit.md R294-R296, 45_fpu_instructions.md
R330): the operands, the lift to paired singles, the FCSR procedure and the write of the result. -/

namespace Sys2Proof.Machine

/-! ### FCSR -/

/-- The FCSR after `FPRaise(flags)`: Cause takes the flags and E = 0, Flags gains them (R296). -/
def raisedFcsr (fcsr : BitVec 32) (flags : FpExcs) : BitVec 32 :=
  (fcsr &&& ~~~0x0003F000#32) ||| (flags.setWidth 32 <<< 12) ||| (flags.setWidth 32 <<< 2)

/-- The FCSR writes of `FPRaise` (R296). -/
def State.recordFlags (s : State) (flags : FpExcs) : State := { s with fcsr := raisedFcsr s.fcsr flags }

/-- `FPRaise(flags)` (R296): the FCSR is written also where the exception is raised. -/
def fpRaise (s : State) (flags : FpExcs) : Effect :=
  if flags &&& s.fpEnables ≠ 0#5 then .raises .fpe (s.recordFlags flags) else .completes (s.recordFlags flags)

/-! ### Operations in all their formats -/

/-- The formats of the arithmetic instructions (R340-R353). -/
inductive ArithFmt where
  /-- S. -/
  | s
  /-- D. -/
  | d
  /-- PS. -/
  | ps
  deriving DecidableEq, Repr

/-- The register format of an arithmetic format. -/
def ArithFmt.toFmt : ArithFmt → Fmt
  | .s => .s
  | .d => .d
  | .ps => .ps

/-- The lower single of a 64-bit value, or the single in its low half (R280). -/
def lowerHalf (v : BitVec 64) : BitVec 32 := v.extractLsb' 0 32

/-- The upper single of a 64-bit value (R280). -/
def upperHalf (v : BitVec 64) : BitVec 32 := v.extractLsb' 32 32

/-- A unit operation of one operand. -/
abbrev FpOp1 := (f : FpFmt) → RoundingMode → Bool → FpBits f → FpResult f

/-- A unit operation of two operands. -/
abbrev FpOp2 := (f : FpFmt) → RoundingMode → Bool → FpBits f → FpBits f → FpResult f

/-- A unit operation of three operands. -/
abbrev FpOp3 := (f : FpFmt) → RoundingMode → Bool → FpBits f → FpBits f → FpBits f → FpResult f

/-- A result in the low half of a register value. -/
def inLowHalf (r : BitVec 32 × FpExcs) : BitVec 64 × FpExcs := (r.1.setWidth 64, r.2)

/-- The paired-single result of two single results, upper and lower (R294). -/
def pairResults (u l : BitVec 32 × FpExcs) : BitVec 64 × FpExcs := (u.1 ++ l.1, u.2 ||| l.2)

/-- An operation of one operand in a format (R294). -/
def FpOp1.inFmt (op : FpOp1) (fmt : ArithFmt) (rm : RoundingMode) (fs : Bool) (a : BitVec 64) : BitVec 64 × FpExcs :=
  match fmt with
  | .s => inLowHalf (op .single rm fs (lowerHalf a))
  | .d => op .double rm fs a
  | .ps => pairResults (op .single rm fs (upperHalf a)) (op .single rm fs (lowerHalf a))

/-- An operation of two operands in a format (R294). -/
def FpOp2.inFmt (op : FpOp2) (fmt : ArithFmt) (rm : RoundingMode) (fs : Bool) (a b : BitVec 64) :
    BitVec 64 × FpExcs :=
  match fmt with
  | .s => inLowHalf (op .single rm fs (lowerHalf a) (lowerHalf b))
  | .d => op .double rm fs a b
  | .ps => pairResults (op .single rm fs (upperHalf a) (upperHalf b)) (op .single rm fs (lowerHalf a) (lowerHalf b))

/-- An operation of three operands in a format (R294). -/
def FpOp3.inFmt (op : FpOp3) (fmt : ArithFmt) (rm : RoundingMode) (fs : Bool) (a b c : BitVec 64) :
    BitVec 64 × FpExcs :=
  match fmt with
  | .s => inLowHalf (op .single rm fs (lowerHalf a) (lowerHalf b) (lowerHalf c))
  | .d => op .double rm fs a b c
  | .ps => pairResults (op .single rm fs (upperHalf a) (upperHalf b) (upperHalf c))
      (op .single rm fs (lowerHalf a) (lowerHalf b) (lowerHalf c))

/-! ### The sequence of an arithmetic instruction -/

/-- Steps 4 and 5 of R330: `FPRaise`, then the write of the result, then `npc = pc + 4`. -/
def fpFinish (fmtDst : Fmt) (fd : FprNo) (r : BitVec 64 × FpExcs) (s : State) : Effect :=
  (fpRaise s r.2).andThen fun t => .completes (t.writeFpr fd fmtDst r.1).advance

/-- R330 with one source. `regs64` are the fields that name a 64-bit operand. -/
def fpUnary (regs64 : List FprNo) (fmtSrc fmtDst : Fmt) (op : BitVec 64 → BitVec 64 × FpExcs) (fd fs : FprNo)
    (s : State) : Effect :=
  .ofExcept s (s.fpEnter regs64) fun _ => fpFinish fmtDst fd (op (s.fprValue fs fmtSrc)) (s.retag fs fmtSrc)

/-- The values and the tags after `ReadFPR` of two registers in order (R330 step 2). -/
def read2 (fmt : Fmt) (fs ft : FprNo) (s : State) : (BitVec 64 × BitVec 64) × State :=
  let s1 := s.retag fs fmt
  ((s.fprValue fs fmt, s1.fprValue ft fmt), s1.retag ft fmt)

/-- R330 with one source, in an arithmetic format. -/
def fpArith1 (op : FpOp1) (fmt : ArithFmt) (fd fs : FprNo) (s : State) : Effect :=
  fpUnary (fmt.toFmt.checked [fd, fs]) fmt.toFmt fmt.toFmt (op.inFmt fmt s.roundingMode s.fpFlush) fd fs s

/-- R330 with two sources. -/
def fpArith2 (op : FpOp2) (fmt : ArithFmt) (fd fs ft : FprNo) (s : State) : Effect :=
  .ofExcept s (s.fpEnter (fmt.toFmt.checked [fd, fs, ft])) fun _ =>
    let ((a, b), t) := read2 fmt.toFmt fs ft s
    fpFinish fmt.toFmt fd (op.inFmt fmt s.roundingMode s.fpFlush a b) t

/-- R330 with three sources, read in the order fs, ft, fr. -/
def fpArith3 (op : FpOp3) (fmt : ArithFmt) (fd fr fs ft : FprNo) (s : State) : Effect :=
  .ofExcept s (s.fpEnter (fmt.toFmt.checked [fd, fr, fs, ft])) fun _ =>
    let ((a, b), t) := read2 fmt.toFmt fs ft s
    fpFinish fmt.toFmt fd (op.inFmt fmt s.roundingMode s.fpFlush a b (t.fprValue fr fmt.toFmt)) (t.retag fr fmt.toFmt)

end Sys2Proof.Machine
end

