-- ==== Sys2Proof/Machine/FpuArith.lean ====
section
/-! DEFINITION. Floating-point arithmetic and multiply-add (45_fpu_instructions.md R340-R353). -/

namespace Sys2Proof.Machine

/-- ADD.S (R340). -/
def execAddS (fd fs ft : FprNo) (s : State) : Host.Outcome State Fault Refusal :=
  (fpArith2 fpAdd .s fd fs ft s).commit s

/-- ADD.D (R340). -/
def execAddD (fd fs ft : FprNo) (s : State) : Host.Outcome State Fault Refusal :=
  (fpArith2 fpAdd .d fd fs ft s).commit s

/-- ADD.PS (R340). -/
def execAddPs (fd fs ft : FprNo) (s : State) : Host.Outcome State Fault Refusal :=
  (fpArith2 fpAdd .ps fd fs ft s).commit s

/-- SUB.S (R341). -/
def execSubS (fd fs ft : FprNo) (s : State) : Host.Outcome State Fault Refusal :=
  (fpArith2 fpSub .s fd fs ft s).commit s

/-- SUB.D (R341). -/
def execSubD (fd fs ft : FprNo) (s : State) : Host.Outcome State Fault Refusal :=
  (fpArith2 fpSub .d fd fs ft s).commit s

/-- SUB.PS (R341). -/
def execSubPs (fd fs ft : FprNo) (s : State) : Host.Outcome State Fault Refusal :=
  (fpArith2 fpSub .ps fd fs ft s).commit s

/-- MUL.S (R342). -/
def execMulS (fd fs ft : FprNo) (s : State) : Host.Outcome State Fault Refusal :=
  (fpArith2 fpMul .s fd fs ft s).commit s

/-- MUL.D (R342). -/
def execMulD (fd fs ft : FprNo) (s : State) : Host.Outcome State Fault Refusal :=
  (fpArith2 fpMul .d fd fs ft s).commit s

/-- MUL.PS (R342). -/
def execMulPs (fd fs ft : FprNo) (s : State) : Host.Outcome State Fault Refusal :=
  (fpArith2 fpMul .ps fd fs ft s).commit s

/-- DIV.S (R343). -/
def execDivS (fd fs ft : FprNo) (s : State) : Host.Outcome State Fault Refusal :=
  (fpArith2 fpDiv .s fd fs ft s).commit s

/-- DIV.D (R343). -/
def execDivD (fd fs ft : FprNo) (s : State) : Host.Outcome State Fault Refusal :=
  (fpArith2 fpDiv .d fd fs ft s).commit s

/-- DIV.PS (R343). -/
def execDivPs (fd fs ft : FprNo) (s : State) : Host.Outcome State Fault Refusal :=
  (fpArith2 fpDiv .ps fd fs ft s).commit s

/-- SQRT.S (R344). -/
def execSqrtS (fd fs : FprNo) (s : State) : Host.Outcome State Fault Refusal :=
  (fpArith1 fpSqrt .s fd fs s).commit s

/-- SQRT.D (R344). -/
def execSqrtD (fd fs : FprNo) (s : State) : Host.Outcome State Fault Refusal :=
  (fpArith1 fpSqrt .d fd fs s).commit s

/-- SQRT.PS (R344). -/
def execSqrtPs (fd fs : FprNo) (s : State) : Host.Outcome State Fault Refusal :=
  (fpArith1 fpSqrt .ps fd fs s).commit s

/-- RECIP.S (R345). -/
def execRecipS (fd fs : FprNo) (s : State) : Host.Outcome State Fault Refusal :=
  (fpArith1 fpRecip .s fd fs s).commit s

/-- RECIP.D (R345). -/
def execRecipD (fd fs : FprNo) (s : State) : Host.Outcome State Fault Refusal :=
  (fpArith1 fpRecip .d fd fs s).commit s

/-- RECIP.PS (R345). -/
def execRecipPs (fd fs : FprNo) (s : State) : Host.Outcome State Fault Refusal :=
  (fpArith1 fpRecip .ps fd fs s).commit s

/-- ABS.S (R346). -/
def execAbsS (fd fs : FprNo) (s : State) : Host.Outcome State Fault Refusal :=
  (fpArith1 fpAbs .s fd fs s).commit s

/-- ABS.D (R346). -/
def execAbsD (fd fs : FprNo) (s : State) : Host.Outcome State Fault Refusal :=
  (fpArith1 fpAbs .d fd fs s).commit s

/-- ABS.PS (R346). -/
def execAbsPs (fd fs : FprNo) (s : State) : Host.Outcome State Fault Refusal :=
  (fpArith1 fpAbs .ps fd fs s).commit s

/-- NEG.S (R347). -/
def execNegS (fd fs : FprNo) (s : State) : Host.Outcome State Fault Refusal :=
  (fpArith1 fpNeg .s fd fs s).commit s

/-- NEG.D (R347). -/
def execNegD (fd fs : FprNo) (s : State) : Host.Outcome State Fault Refusal :=
  (fpArith1 fpNeg .d fd fs s).commit s

/-- NEG.PS (R347). -/
def execNegPs (fd fs : FprNo) (s : State) : Host.Outcome State Fault Refusal :=
  (fpArith1 fpNeg .ps fd fs s).commit s

/-- RECIP2.S (R348). -/
def execRecip2S (fd fs ft : FprNo) (s : State) : Host.Outcome State Fault Refusal :=
  (fpArith2 fpRecip2 .s fd fs ft s).commit s

/-- RECIP2.D (R348). -/
def execRecip2D (fd fs ft : FprNo) (s : State) : Host.Outcome State Fault Refusal :=
  (fpArith2 fpRecip2 .d fd fs ft s).commit s

/-- RECIP2.PS (R348). -/
def execRecip2Ps (fd fs ft : FprNo) (s : State) : Host.Outcome State Fault Refusal :=
  (fpArith2 fpRecip2 .ps fd fs ft s).commit s

/-- RSQRT2.S (R349). -/
def execRsqrt2S (fd fs ft : FprNo) (s : State) : Host.Outcome State Fault Refusal :=
  (fpArith2 fpRsqrt2 .s fd fs ft s).commit s

/-- RSQRT2.D (R349). -/
def execRsqrt2D (fd fs ft : FprNo) (s : State) : Host.Outcome State Fault Refusal :=
  (fpArith2 fpRsqrt2 .d fd fs ft s).commit s

/-- RSQRT2.PS (R349). -/
def execRsqrt2Ps (fd fs ft : FprNo) (s : State) : Host.Outcome State Fault Refusal :=
  (fpArith2 fpRsqrt2 .ps fd fs ft s).commit s

/-- MADD.S (R350): the product is fs times ft, the addend fr. -/
def execMaddS (fd fr fs ft : FprNo) (s : State) : Host.Outcome State Fault Refusal :=
  (fpArith3 fpMadd .s fd fr fs ft s).commit s

/-- MADD.D (R350): the product is fs times ft, the addend fr. -/
def execMaddD (fd fr fs ft : FprNo) (s : State) : Host.Outcome State Fault Refusal :=
  (fpArith3 fpMadd .d fd fr fs ft s).commit s

/-- MADD.PS (R350): the product is fs times ft, the addend fr. -/
def execMaddPs (fd fr fs ft : FprNo) (s : State) : Host.Outcome State Fault Refusal :=
  (fpArith3 fpMadd .ps fd fr fs ft s).commit s

/-- MSUB.S (R351): the product is fs times ft, the addend fr. -/
def execMsubS (fd fr fs ft : FprNo) (s : State) : Host.Outcome State Fault Refusal :=
  (fpArith3 fpMsub .s fd fr fs ft s).commit s

/-- MSUB.D (R351): the product is fs times ft, the addend fr. -/
def execMsubD (fd fr fs ft : FprNo) (s : State) : Host.Outcome State Fault Refusal :=
  (fpArith3 fpMsub .d fd fr fs ft s).commit s

/-- MSUB.PS (R351): the product is fs times ft, the addend fr. -/
def execMsubPs (fd fr fs ft : FprNo) (s : State) : Host.Outcome State Fault Refusal :=
  (fpArith3 fpMsub .ps fd fr fs ft s).commit s

/-- NMADD.S (R352): the product is fs times ft, the addend fr. -/
def execNmaddS (fd fr fs ft : FprNo) (s : State) : Host.Outcome State Fault Refusal :=
  (fpArith3 fpNmadd .s fd fr fs ft s).commit s

/-- NMADD.D (R352): the product is fs times ft, the addend fr. -/
def execNmaddD (fd fr fs ft : FprNo) (s : State) : Host.Outcome State Fault Refusal :=
  (fpArith3 fpNmadd .d fd fr fs ft s).commit s

/-- NMADD.PS (R352): the product is fs times ft, the addend fr. -/
def execNmaddPs (fd fr fs ft : FprNo) (s : State) : Host.Outcome State Fault Refusal :=
  (fpArith3 fpNmadd .ps fd fr fs ft s).commit s

/-- NMSUB.S (R353): the product is fs times ft, the addend fr. -/
def execNmsubS (fd fr fs ft : FprNo) (s : State) : Host.Outcome State Fault Refusal :=
  (fpArith3 fpNmsub .s fd fr fs ft s).commit s

/-- NMSUB.D (R353): the product is fs times ft, the addend fr. -/
def execNmsubD (fd fr fs ft : FprNo) (s : State) : Host.Outcome State Fault Refusal :=
  (fpArith3 fpNmsub .d fd fr fs ft s).commit s

/-- NMSUB.PS (R353): the product is fs times ft, the addend fr. -/
def execNmsubPs (fd fr fs ft : FprNo) (s : State) : Host.Outcome State Fault Refusal :=
  (fpArith3 fpNmsub .ps fd fr fs ft s).commit s


end Sys2Proof.Machine
end

