-- ==== Sys2Proof/Machine/FpuCompare.lean ====
section
/-! DEFINITION. Floating-point compares (45_fpu_instructions.md R371). -/

namespace Sys2Proof.Machine

/-- Schedules a condition code for the second next instruction (R371, R566). -/
def schedFcc (cc : BitVec 3) (v : Bool) (s : State) : Effect :=
  s.sched .fcsr ((BitVec.ofBool v).setWidth 64) (some (fccBit cc))

/-- A compare in S or D (R371). -/
def fpCompareScalar (f : FpFmt) (fmt : ArithFmt) (narrow : BitVec 64 → FpBits f) (cond : BitVec 4) (cc : BitVec 3)
    (fs ft : FprNo) (s : State) : Effect :=
  .ofExcept s (s.fpEnter (fmt.toFmt.checked [fs, ft])) fun _ =>
    let ((a, b), t) := read2 fmt.toFmt fs ft s
    let (res, flags) := fpCompare f cond (narrow a) (narrow b)
    ((fpRaise t flags).andThen (schedFcc cc res)).andThen fun u => .completes u.advance

/-- A compare in S (R371). -/
def fpCompareS (cond : BitVec 4) (cc : BitVec 3) (fs ft : FprNo) (s : State) : Effect :=
  fpCompareScalar .single .s lowerHalf cond cc fs ft s

/-- A compare in D (R371). -/
def fpCompareD (cond : BitVec 4) (cc : BitVec 3) (fs ft : FprNo) (s : State) : Effect :=
  fpCompareScalar .double .d id cond cc fs ft s

/-- A compare in PS: the lower result goes to `cc`, then the upper to `cc + 1` (R371). -/
def fpComparePs (cond : BitVec 4) (cc : BitVec 3) (fs ft : FprNo) (s : State) : Effect :=
  .ofExcept s (s.fpEnter [fs, ft]) fun _ =>
    let ((a, b), t) := read2 .ps fs ft s
    let (resU, flagsU) := fpCompare .single cond (upperHalf a) (upperHalf b)
    let (resL, flagsL) := fpCompare .single cond (lowerHalf a) (lowerHalf b)
    (((fpRaise t (flagsU ||| flagsL)).andThen (schedFcc cc resL)).andThen (schedFcc (cc + 1#3) resU)).andThen fun u =>
      .completes u.advance

/-- C.F.S (R371), condition 0. -/
def execCFS (cc : BitVec 3) (fs ft : FprNo) (s : State) : Host.Outcome State Fault Refusal :=
  (fpCompareS 0#4 cc fs ft s).commit s

/-- C.F.D (R371), condition 0. -/
def execCFD (cc : BitVec 3) (fs ft : FprNo) (s : State) : Host.Outcome State Fault Refusal :=
  (fpCompareD 0#4 cc fs ft s).commit s

/-- C.F.PS (R371), condition 0. -/
def execCFPs (cc : BitVec 3) (fs ft : FprNo) (s : State) : Host.Outcome State Fault Refusal :=
  (fpComparePs 0#4 cc fs ft s).commit s

/-- C.UN.S (R371), condition 1. -/
def execCUnS (cc : BitVec 3) (fs ft : FprNo) (s : State) : Host.Outcome State Fault Refusal :=
  (fpCompareS 1#4 cc fs ft s).commit s

/-- C.UN.D (R371), condition 1. -/
def execCUnD (cc : BitVec 3) (fs ft : FprNo) (s : State) : Host.Outcome State Fault Refusal :=
  (fpCompareD 1#4 cc fs ft s).commit s

/-- C.UN.PS (R371), condition 1. -/
def execCUnPs (cc : BitVec 3) (fs ft : FprNo) (s : State) : Host.Outcome State Fault Refusal :=
  (fpComparePs 1#4 cc fs ft s).commit s

/-- C.EQ.S (R371), condition 2. -/
def execCEqS (cc : BitVec 3) (fs ft : FprNo) (s : State) : Host.Outcome State Fault Refusal :=
  (fpCompareS 2#4 cc fs ft s).commit s

/-- C.EQ.D (R371), condition 2. -/
def execCEqD (cc : BitVec 3) (fs ft : FprNo) (s : State) : Host.Outcome State Fault Refusal :=
  (fpCompareD 2#4 cc fs ft s).commit s

/-- C.EQ.PS (R371), condition 2. -/
def execCEqPs (cc : BitVec 3) (fs ft : FprNo) (s : State) : Host.Outcome State Fault Refusal :=
  (fpComparePs 2#4 cc fs ft s).commit s

/-- C.UEQ.S (R371), condition 3. -/
def execCUeqS (cc : BitVec 3) (fs ft : FprNo) (s : State) : Host.Outcome State Fault Refusal :=
  (fpCompareS 3#4 cc fs ft s).commit s

/-- C.UEQ.D (R371), condition 3. -/
def execCUeqD (cc : BitVec 3) (fs ft : FprNo) (s : State) : Host.Outcome State Fault Refusal :=
  (fpCompareD 3#4 cc fs ft s).commit s

/-- C.UEQ.PS (R371), condition 3. -/
def execCUeqPs (cc : BitVec 3) (fs ft : FprNo) (s : State) : Host.Outcome State Fault Refusal :=
  (fpComparePs 3#4 cc fs ft s).commit s

/-- C.OLT.S (R371), condition 4. -/
def execCOltS (cc : BitVec 3) (fs ft : FprNo) (s : State) : Host.Outcome State Fault Refusal :=
  (fpCompareS 4#4 cc fs ft s).commit s

/-- C.OLT.D (R371), condition 4. -/
def execCOltD (cc : BitVec 3) (fs ft : FprNo) (s : State) : Host.Outcome State Fault Refusal :=
  (fpCompareD 4#4 cc fs ft s).commit s

/-- C.OLT.PS (R371), condition 4. -/
def execCOltPs (cc : BitVec 3) (fs ft : FprNo) (s : State) : Host.Outcome State Fault Refusal :=
  (fpComparePs 4#4 cc fs ft s).commit s

/-- C.ULT.S (R371), condition 5. -/
def execCUltS (cc : BitVec 3) (fs ft : FprNo) (s : State) : Host.Outcome State Fault Refusal :=
  (fpCompareS 5#4 cc fs ft s).commit s

/-- C.ULT.D (R371), condition 5. -/
def execCUltD (cc : BitVec 3) (fs ft : FprNo) (s : State) : Host.Outcome State Fault Refusal :=
  (fpCompareD 5#4 cc fs ft s).commit s

/-- C.ULT.PS (R371), condition 5. -/
def execCUltPs (cc : BitVec 3) (fs ft : FprNo) (s : State) : Host.Outcome State Fault Refusal :=
  (fpComparePs 5#4 cc fs ft s).commit s

/-- C.OLE.S (R371), condition 6. -/
def execCOleS (cc : BitVec 3) (fs ft : FprNo) (s : State) : Host.Outcome State Fault Refusal :=
  (fpCompareS 6#4 cc fs ft s).commit s

/-- C.OLE.D (R371), condition 6. -/
def execCOleD (cc : BitVec 3) (fs ft : FprNo) (s : State) : Host.Outcome State Fault Refusal :=
  (fpCompareD 6#4 cc fs ft s).commit s

/-- C.OLE.PS (R371), condition 6. -/
def execCOlePs (cc : BitVec 3) (fs ft : FprNo) (s : State) : Host.Outcome State Fault Refusal :=
  (fpComparePs 6#4 cc fs ft s).commit s

/-- C.ULE.S (R371), condition 7. -/
def execCUleS (cc : BitVec 3) (fs ft : FprNo) (s : State) : Host.Outcome State Fault Refusal :=
  (fpCompareS 7#4 cc fs ft s).commit s

/-- C.ULE.D (R371), condition 7. -/
def execCUleD (cc : BitVec 3) (fs ft : FprNo) (s : State) : Host.Outcome State Fault Refusal :=
  (fpCompareD 7#4 cc fs ft s).commit s

/-- C.ULE.PS (R371), condition 7. -/
def execCUlePs (cc : BitVec 3) (fs ft : FprNo) (s : State) : Host.Outcome State Fault Refusal :=
  (fpComparePs 7#4 cc fs ft s).commit s

/-- C.SF.S (R371), condition 8. -/
def execCSfS (cc : BitVec 3) (fs ft : FprNo) (s : State) : Host.Outcome State Fault Refusal :=
  (fpCompareS 8#4 cc fs ft s).commit s

/-- C.SF.D (R371), condition 8. -/
def execCSfD (cc : BitVec 3) (fs ft : FprNo) (s : State) : Host.Outcome State Fault Refusal :=
  (fpCompareD 8#4 cc fs ft s).commit s

/-- C.SF.PS (R371), condition 8. -/
def execCSfPs (cc : BitVec 3) (fs ft : FprNo) (s : State) : Host.Outcome State Fault Refusal :=
  (fpComparePs 8#4 cc fs ft s).commit s

/-- C.NGLE.S (R371), condition 9. -/
def execCNgleS (cc : BitVec 3) (fs ft : FprNo) (s : State) : Host.Outcome State Fault Refusal :=
  (fpCompareS 9#4 cc fs ft s).commit s

/-- C.NGLE.D (R371), condition 9. -/
def execCNgleD (cc : BitVec 3) (fs ft : FprNo) (s : State) : Host.Outcome State Fault Refusal :=
  (fpCompareD 9#4 cc fs ft s).commit s

/-- C.NGLE.PS (R371), condition 9. -/
def execCNglePs (cc : BitVec 3) (fs ft : FprNo) (s : State) : Host.Outcome State Fault Refusal :=
  (fpComparePs 9#4 cc fs ft s).commit s

/-- C.SEQ.S (R371), condition 10. -/
def execCSeqS (cc : BitVec 3) (fs ft : FprNo) (s : State) : Host.Outcome State Fault Refusal :=
  (fpCompareS 10#4 cc fs ft s).commit s

/-- C.SEQ.D (R371), condition 10. -/
def execCSeqD (cc : BitVec 3) (fs ft : FprNo) (s : State) : Host.Outcome State Fault Refusal :=
  (fpCompareD 10#4 cc fs ft s).commit s

/-- C.SEQ.PS (R371), condition 10. -/
def execCSeqPs (cc : BitVec 3) (fs ft : FprNo) (s : State) : Host.Outcome State Fault Refusal :=
  (fpComparePs 10#4 cc fs ft s).commit s

/-- C.NGL.S (R371), condition 11. -/
def execCNglS (cc : BitVec 3) (fs ft : FprNo) (s : State) : Host.Outcome State Fault Refusal :=
  (fpCompareS 11#4 cc fs ft s).commit s

/-- C.NGL.D (R371), condition 11. -/
def execCNglD (cc : BitVec 3) (fs ft : FprNo) (s : State) : Host.Outcome State Fault Refusal :=
  (fpCompareD 11#4 cc fs ft s).commit s

/-- C.NGL.PS (R371), condition 11. -/
def execCNglPs (cc : BitVec 3) (fs ft : FprNo) (s : State) : Host.Outcome State Fault Refusal :=
  (fpComparePs 11#4 cc fs ft s).commit s

/-- C.LT.S (R371), condition 12. -/
def execCLtS (cc : BitVec 3) (fs ft : FprNo) (s : State) : Host.Outcome State Fault Refusal :=
  (fpCompareS 12#4 cc fs ft s).commit s

/-- C.LT.D (R371), condition 12. -/
def execCLtD (cc : BitVec 3) (fs ft : FprNo) (s : State) : Host.Outcome State Fault Refusal :=
  (fpCompareD 12#4 cc fs ft s).commit s

/-- C.LT.PS (R371), condition 12. -/
def execCLtPs (cc : BitVec 3) (fs ft : FprNo) (s : State) : Host.Outcome State Fault Refusal :=
  (fpComparePs 12#4 cc fs ft s).commit s

/-- C.NGE.S (R371), condition 13. -/
def execCNgeS (cc : BitVec 3) (fs ft : FprNo) (s : State) : Host.Outcome State Fault Refusal :=
  (fpCompareS 13#4 cc fs ft s).commit s

/-- C.NGE.D (R371), condition 13. -/
def execCNgeD (cc : BitVec 3) (fs ft : FprNo) (s : State) : Host.Outcome State Fault Refusal :=
  (fpCompareD 13#4 cc fs ft s).commit s

/-- C.NGE.PS (R371), condition 13. -/
def execCNgePs (cc : BitVec 3) (fs ft : FprNo) (s : State) : Host.Outcome State Fault Refusal :=
  (fpComparePs 13#4 cc fs ft s).commit s

/-- C.LE.S (R371), condition 14. -/
def execCLeS (cc : BitVec 3) (fs ft : FprNo) (s : State) : Host.Outcome State Fault Refusal :=
  (fpCompareS 14#4 cc fs ft s).commit s

/-- C.LE.D (R371), condition 14. -/
def execCLeD (cc : BitVec 3) (fs ft : FprNo) (s : State) : Host.Outcome State Fault Refusal :=
  (fpCompareD 14#4 cc fs ft s).commit s

/-- C.LE.PS (R371), condition 14. -/
def execCLePs (cc : BitVec 3) (fs ft : FprNo) (s : State) : Host.Outcome State Fault Refusal :=
  (fpComparePs 14#4 cc fs ft s).commit s

/-- C.NGT.S (R371), condition 15. -/
def execCNgtS (cc : BitVec 3) (fs ft : FprNo) (s : State) : Host.Outcome State Fault Refusal :=
  (fpCompareS 15#4 cc fs ft s).commit s

/-- C.NGT.D (R371), condition 15. -/
def execCNgtD (cc : BitVec 3) (fs ft : FprNo) (s : State) : Host.Outcome State Fault Refusal :=
  (fpCompareD 15#4 cc fs ft s).commit s

/-- C.NGT.PS (R371), condition 15. -/
def execCNgtPs (cc : BitVec 3) (fs ft : FprNo) (s : State) : Host.Outcome State Fault Refusal :=
  (fpComparePs 15#4 cc fs ft s).commit s


end Sys2Proof.Machine
end

