-- ==== Sys2Proof/Machine/FpuConvert.lean ====
section
/-! DEFINITION. Conversions (45_fpu_instructions.md R355-R370). -/

namespace Sys2Proof.Machine

/-- A conversion from a floating-point format to W, in the low half of the result (R361). -/
def toWordFrom (f : FpFmt) (rm : RoundingMode) (a : FpBits f) : BitVec 64 × FpExcs := inLowHalf (fpToInt f 32 rm a)

/-- A conversion to W or L of a single, in a rounding mode (R361-R370). -/
def singleToInt (fmtDst : Fmt) (rm : RoundingMode) (a : BitVec 64) : BitVec 64 × FpExcs :=
  if fmtDst.wide then fpToInt .single 64 rm (lowerHalf a) else toWordFrom .single rm (lowerHalf a)

/-- A conversion to W or L of a double, in a rounding mode (R361-R370). -/
def doubleToInt (fmtDst : Fmt) (rm : RoundingMode) (a : BitVec 64) : BitVec 64 × FpExcs :=
  if fmtDst.wide then fpToInt .double 64 rm a else toWordFrom .double rm a

/-- The register fields of a conversion whose format is 64 bits wide (R330). -/
def convertRegs (fmtSrc fmtDst : Fmt) (fd fs : FprNo) : List FprNo := fmtDst.checked [fd] ++ fmtSrc.checked [fs]

/-- A conversion between two register formats (45_fpu_instructions.md section 5). -/
def fpConvert (fmtSrc fmtDst : Fmt) (op : BitVec 64 → BitVec 64 × FpExcs) (fd fs : FprNo) (s : State) : Effect :=
  fpUnary (convertRegs fmtSrc fmtDst fd fs) fmtSrc fmtDst op fd fs s

/-- The integer a W operand denotes (R310). -/
def wordInt (a : BitVec 64) : Int := (lowerHalf a).toInt

/-- CVT.S.D (R355). -/
def execCvtSD (fd fs : FprNo) (s : State) : Host.Outcome State Fault Refusal :=
  (fpConvert .d .s (fun a => inLowHalf (fpDoubleToSingle s.roundingMode s.fpFlush a)) fd fs s).commit s

/-- CVT.S.W (R356). -/
def execCvtSW (fd fs : FprNo) (s : State) : Host.Outcome State Fault Refusal :=
  (fpConvert .w .s (fun a => inLowHalf (fpOfInt .single s.roundingMode s.fpFlush (wordInt a))) fd fs s).commit s

/-- CVT.S.L (R357). -/
def execCvtSL (fd fs : FprNo) (s : State) : Host.Outcome State Fault Refusal :=
  (fpConvert .l .s (fun a => inLowHalf (fpOfInt .single s.roundingMode s.fpFlush a.toInt)) fd fs s).commit s

/-- CVT.D.S (R358). -/
def execCvtDS (fd fs : FprNo) (s : State) : Host.Outcome State Fault Refusal :=
  (fpConvert .s .d (fun a => fpSingleToDouble (lowerHalf a)) fd fs s).commit s

/-- CVT.D.W (R359). -/
def execCvtDW (fd fs : FprNo) (s : State) : Host.Outcome State Fault Refusal :=
  (fpConvert .w .d (fun a => fpOfInt .double s.roundingMode s.fpFlush (wordInt a)) fd fs s).commit s

/-- CVT.D.L (R360). -/
def execCvtDL (fd fs : FprNo) (s : State) : Host.Outcome State Fault Refusal :=
  (fpConvert .l .d (fun a => fpOfInt .double s.roundingMode s.fpFlush a.toInt) fd fs s).commit s

/-- CVT.W.S (R361). -/
def execCvtWS (fd fs : FprNo) (s : State) : Host.Outcome State Fault Refusal :=
  (fpConvert .s .w (singleToInt .w s.roundingMode) fd fs s).commit s

/-- CVT.W.D (R361). -/
def execCvtWD (fd fs : FprNo) (s : State) : Host.Outcome State Fault Refusal :=
  (fpConvert .d .w (doubleToInt .w s.roundingMode) fd fs s).commit s

/-- CVT.L.S (R362). -/
def execCvtLS (fd fs : FprNo) (s : State) : Host.Outcome State Fault Refusal :=
  (fpConvert .s .l (singleToInt .l s.roundingMode) fd fs s).commit s

/-- CVT.L.D (R362). -/
def execCvtLD (fd fs : FprNo) (s : State) : Host.Outcome State Fault Refusal :=
  (fpConvert .d .l (doubleToInt .l s.roundingMode) fd fs s).commit s

/-- ROUND.W.S (R363). -/
def execRoundWS (fd fs : FprNo) (s : State) : Host.Outcome State Fault Refusal :=
  (fpConvert .s .w (singleToInt .w .nearestEven) fd fs s).commit s

/-- ROUND.W.D (R363). -/
def execRoundWD (fd fs : FprNo) (s : State) : Host.Outcome State Fault Refusal :=
  (fpConvert .d .w (doubleToInt .w .nearestEven) fd fs s).commit s

/-- ROUND.L.S (R367). -/
def execRoundLS (fd fs : FprNo) (s : State) : Host.Outcome State Fault Refusal :=
  (fpConvert .s .l (singleToInt .l .nearestEven) fd fs s).commit s

/-- ROUND.L.D (R367). -/
def execRoundLD (fd fs : FprNo) (s : State) : Host.Outcome State Fault Refusal :=
  (fpConvert .d .l (doubleToInt .l .nearestEven) fd fs s).commit s

/-- TRUNC.W.S (R364). -/
def execTruncWS (fd fs : FprNo) (s : State) : Host.Outcome State Fault Refusal :=
  (fpConvert .s .w (singleToInt .w .towardZero) fd fs s).commit s

/-- TRUNC.W.D (R364). -/
def execTruncWD (fd fs : FprNo) (s : State) : Host.Outcome State Fault Refusal :=
  (fpConvert .d .w (doubleToInt .w .towardZero) fd fs s).commit s

/-- TRUNC.L.S (R368). -/
def execTruncLS (fd fs : FprNo) (s : State) : Host.Outcome State Fault Refusal :=
  (fpConvert .s .l (singleToInt .l .towardZero) fd fs s).commit s

/-- TRUNC.L.D (R368). -/
def execTruncLD (fd fs : FprNo) (s : State) : Host.Outcome State Fault Refusal :=
  (fpConvert .d .l (doubleToInt .l .towardZero) fd fs s).commit s

/-- CEIL.W.S (R365). -/
def execCeilWS (fd fs : FprNo) (s : State) : Host.Outcome State Fault Refusal :=
  (fpConvert .s .w (singleToInt .w .towardPlus) fd fs s).commit s

/-- CEIL.W.D (R365). -/
def execCeilWD (fd fs : FprNo) (s : State) : Host.Outcome State Fault Refusal :=
  (fpConvert .d .w (doubleToInt .w .towardPlus) fd fs s).commit s

/-- CEIL.L.S (R369). -/
def execCeilLS (fd fs : FprNo) (s : State) : Host.Outcome State Fault Refusal :=
  (fpConvert .s .l (singleToInt .l .towardPlus) fd fs s).commit s

/-- CEIL.L.D (R369). -/
def execCeilLD (fd fs : FprNo) (s : State) : Host.Outcome State Fault Refusal :=
  (fpConvert .d .l (doubleToInt .l .towardPlus) fd fs s).commit s

/-- FLOOR.W.S (R366). -/
def execFloorWS (fd fs : FprNo) (s : State) : Host.Outcome State Fault Refusal :=
  (fpConvert .s .w (singleToInt .w .towardMinus) fd fs s).commit s

/-- FLOOR.W.D (R366). -/
def execFloorWD (fd fs : FprNo) (s : State) : Host.Outcome State Fault Refusal :=
  (fpConvert .d .w (doubleToInt .w .towardMinus) fd fs s).commit s

/-- FLOOR.L.S (R370). -/
def execFloorLS (fd fs : FprNo) (s : State) : Host.Outcome State Fault Refusal :=
  (fpConvert .s .l (singleToInt .l .towardMinus) fd fs s).commit s

/-- FLOOR.L.D (R370). -/
def execFloorLD (fd fs : FprNo) (s : State) : Host.Outcome State Fault Refusal :=
  (fpConvert .d .l (doubleToInt .l .towardMinus) fd fs s).commit s


end Sys2Proof.Machine
end

