-- ==== Sys2Proof/Machine/FpuMove.lean ====
section
/-! DEFINITION. Moves between the FPU and the integer unit, and formatted moves (45_fpu_instructions.md R331-R337). -/

namespace Sys2Proof.Machine

/-- The FPU moves: `CU1` and, for a 64-bit register, its number are checked first (45_fpu_instructions.md section 2). -/
def withFpu (regs64 : List FprNo) (f : State → Effect) (s : State) : Effect :=
  .ofExcept s (s.fpEnter regs64) fun _ => f s

/-- MFC1 (R331). -/
def execMfc1 (rt : GprNo) (fs : FprNo) (s : State) : Host.Outcome State Fault Refusal :=
  (withFpu [] (fun t => writeAndAdvance rt (signExt32 (t.rawRead32 fs)) t) s).commit s

/-- MTC1 (R332). -/
def execMtc1 (rt : GprNo) (fs : FprNo) (s : State) : Host.Outcome State Fault Refusal :=
  (withFpu [] (fun t => .completes (t.rawWrite32 fs (t.readGprLow rt)).advance) s).commit s

/-- DMFC1 (R333). -/
def execDmfc1 (rt : GprNo) (fs : FprNo) (s : State) : Host.Outcome State Fault Refusal :=
  (withFpu [fs] (fun t => writeAndAdvance rt (t.rawRead64 fs) t) s).commit s

/-- DMTC1 (R334). -/
def execDmtc1 (rt : GprNo) (fs : FprNo) (s : State) : Host.Outcome State Fault Refusal :=
  (withFpu [fs] (fun t => .completes (t.rawWrite64 fs (t.readGpr rt)).advance) s).commit s

/-- The FP control registers (R45): FIR, FCSR, and no other. -/
def State.readFpControl (s : State) (n : BitVec 5) : Option (BitVec 32) :=
  match n with
  | 0#5 => some s.cfg.fir
  | 31#5 => some s.fcsr
  | _ => none

/-- A move from an FP control register (R335). -/
def moveFromFpControl (rt : GprNo) (n : BitVec 5) (s : State) : Effect :=
  match s.readFpControl n with
  | some v => writeAndAdvance rt (signExt32 v) s
  | none => .raises .ri s

/-- The FCSR a value becomes: bits 22:18 are forced to 0 (R47, R336). -/
def fcsrOf (v : BitVec 32) : BitVec 32 := v &&& ~~~0x007C0000#32

/-- A write of the FCSR (R336): FloatingPointException where a cause is enabled, or E is set; the write is kept. -/
def writeFcsr (v : BitVec 32) (s : State) : Effect :=
  let t := { s with fcsr := fcsrOf v }
  if t.fpCause &&& t.fpEnables ≠ 0#5 ∨ t.fpCauseE then .raises .fpe t else .completes t.advance

/-- A formatted move: the tag check applies, the FCSR is not touched (R337). -/
def fpMove (fmt : ArithFmt) (fd fs : FprNo) (s : State) : Effect :=
  .ofExcept s (s.fpEnter (fmt.toFmt.checked [fd, fs])) fun _ =>
    .completes ((s.retag fs fmt.toFmt).writeFpr fd fmt.toFmt (s.fprValue fs fmt.toFmt)).advance

/-- CFC1 (R335, R48). -/
def execCfc1 (rt : GprNo) (fs : FprNo) (s : State) : Host.Outcome State Fault Refusal :=
  (withFpu [] (moveFromFpControl rt fs) s).commit s

/-- CTC1 (R336): every FP control register but the FCSR is reserved (R45, R48). -/
def execCtc1 (rt : GprNo) (fs : FprNo) (s : State) : Host.Outcome State Fault Refusal :=
  (withFpu [] (fun t => if fs = 31#5 then writeFcsr (t.readGprLow rt) t else .raises .ri t) s).commit s

/-- MOV.S (R337). -/
def execMovS (fd fs : FprNo) (s : State) : Host.Outcome State Fault Refusal :=
  (fpMove .s fd fs s).commit s

/-- MOV.D (R337). -/
def execMovD (fd fs : FprNo) (s : State) : Host.Outcome State Fault Refusal :=
  (fpMove .d fd fs s).commit s

/-- MOV.PS (R337). -/
def execMovPs (fd fs : FprNo) (s : State) : Host.Outcome State Fault Refusal :=
  (fpMove .ps fd fs s).commit s


end Sys2Proof.Machine
end

