-- ==== Sys2Proof/Machine/Integer.lean ====
section
/-! DEFINITION. Integer add, subtract, set on less than and logic (41_integer.md R160-R184). -/

namespace Sys2Proof.Machine

/-- The sum of two 32-bit operands in `ALU_32` (R161, R162). -/
def add32 (a b : BitVec 32) : Alu 32 := (Alu.begin a).addWithCarryIn b false

/-- The difference of two 32-bit operands in `ALU_32` (R163, R164). -/
def sub32 (a b : BitVec 32) : Alu 32 := (Alu.begin a).subtractViaNegatedAdd b false

/-- The sum of two 64-bit operands in `ALU_64` (R165, R166). -/
def add64 (a b : Word) : Alu 64 := (Alu.begin a).addWithCarryIn b false

/-- The difference of two 64-bit operands in `ALU_64` (R167, R168). -/
def sub64 (a b : Word) : Alu 64 := (Alu.begin a).subtractViaNegatedAdd b false

/-- The trapping group: `V` raises IntegerOverflow before the destination is written (R160). -/
def trapOrWrite (rd : GprNo) (v : Bool) (result : Word) (s : State) : Effect :=
  if v then .raises .ov s else writeAndAdvance rd result s

/-- Signed less-than: the sign of the direct difference xor its overflow (R173). -/
def lessSigned (a b : Word) : Word :=
  let u := (Alu.begin a).subtractDirect b false
  (BitVec.ofBool (u.acc.msb ^^ u.v)).setWidth 64

/-- Unsigned less-than: the borrow of the direct difference (R174). -/
def lessUnsigned (a b : Word) : Word :=
  let u := (Alu.begin a).subtractDirect b false
  (BitVec.ofBool u.c).setWidth 64

/-- ADD (R161). -/
def execAdd (rd rs rt : GprNo) (s : State) : Host.Outcome State Fault Refusal :=
  let u := add32 (s.readGprLow rs) (s.readGprLow rt)
  (trapOrWrite rd u.v (signExt32 u.acc) s).commit s

/-- ADDU (R162). -/
def execAddu (rd rs rt : GprNo) (s : State) : Host.Outcome State Fault Refusal :=
  (writeAndAdvance rd (signExt32 (add32 (s.readGprLow rs) (s.readGprLow rt)).acc) s).commit s

/-- SUB (R163). -/
def execSub (rd rs rt : GprNo) (s : State) : Host.Outcome State Fault Refusal :=
  let u := sub32 (s.readGprLow rs) (s.readGprLow rt)
  (trapOrWrite rd u.v (signExt32 u.acc) s).commit s

/-- SUBU (R164). -/
def execSubu (rd rs rt : GprNo) (s : State) : Host.Outcome State Fault Refusal :=
  (writeAndAdvance rd (signExt32 (sub32 (s.readGprLow rs) (s.readGprLow rt)).acc) s).commit s

/-- DADD (R165). -/
def execDadd (rd rs rt : GprNo) (s : State) : Host.Outcome State Fault Refusal :=
  let u := add64 (s.readGpr rs) (s.readGpr rt)
  (trapOrWrite rd u.v u.acc s).commit s

/-- DADDU (R166). -/
def execDaddu (rd rs rt : GprNo) (s : State) : Host.Outcome State Fault Refusal :=
  (writeAndAdvance rd (add64 (s.readGpr rs) (s.readGpr rt)).acc s).commit s

/-- DSUB (R167). -/
def execDsub (rd rs rt : GprNo) (s : State) : Host.Outcome State Fault Refusal :=
  let u := sub64 (s.readGpr rs) (s.readGpr rt)
  (trapOrWrite rd u.v u.acc s).commit s

/-- DSUBU (R168). -/
def execDsubu (rd rs rt : GprNo) (s : State) : Host.Outcome State Fault Refusal :=
  (writeAndAdvance rd (sub64 (s.readGpr rs) (s.readGpr rt)).acc s).commit s

/-- ADDI (R169). -/
def execAddi (rt rs : GprNo) (imm : BitVec 16) (s : State) : Host.Outcome State Fault Refusal :=
  let u := add32 (s.readGprLow rs) (imm.signExtend 32)
  (trapOrWrite rt u.v (signExt32 u.acc) s).commit s

/-- ADDIU (R170). -/
def execAddiu (rt rs : GprNo) (imm : BitVec 16) (s : State) : Host.Outcome State Fault Refusal :=
  (writeAndAdvance rt (signExt32 (add32 (s.readGprLow rs) (imm.signExtend 32)).acc) s).commit s

/-- DADDI (R171). -/
def execDaddi (rt rs : GprNo) (imm : BitVec 16) (s : State) : Host.Outcome State Fault Refusal :=
  let u := add64 (s.readGpr rs) (signExt16 imm)
  (trapOrWrite rt u.v u.acc s).commit s

/-- DADDIU (R172). -/
def execDaddiu (rt rs : GprNo) (imm : BitVec 16) (s : State) : Host.Outcome State Fault Refusal :=
  (writeAndAdvance rt (add64 (s.readGpr rs) (signExt16 imm)).acc s).commit s

/-- SLT (R173). -/
def execSlt (rd rs rt : GprNo) (s : State) : Host.Outcome State Fault Refusal :=
  (writeAndAdvance rd (lessSigned (s.readGpr rs) (s.readGpr rt)) s).commit s

/-- SLTU (R174). -/
def execSltu (rd rs rt : GprNo) (s : State) : Host.Outcome State Fault Refusal :=
  (writeAndAdvance rd (lessUnsigned (s.readGpr rs) (s.readGpr rt)) s).commit s

/-- SLTI (R175). -/
def execSlti (rt rs : GprNo) (imm : BitVec 16) (s : State) : Host.Outcome State Fault Refusal :=
  (writeAndAdvance rt (lessSigned (s.readGpr rs) (signExt16 imm)) s).commit s

/-- SLTIU (R176): the immediate is sign-extended, then compared unsigned. -/
def execSltiu (rt rs : GprNo) (imm : BitVec 16) (s : State) : Host.Outcome State Fault Refusal :=
  (writeAndAdvance rt (lessUnsigned (s.readGpr rs) (signExt16 imm)) s).commit s

/-- AND (R177). -/
def execAnd (rd rs rt : GprNo) (s : State) : Host.Outcome State Fault Refusal :=
  (writeAndAdvance rd ((Alu.begin (s.readGpr rs)).and (s.readGpr rt)).acc s).commit s

/-- OR (R178). -/
def execOr (rd rs rt : GprNo) (s : State) : Host.Outcome State Fault Refusal :=
  (writeAndAdvance rd ((Alu.begin (s.readGpr rs)).or (s.readGpr rt)).acc s).commit s

/-- XOR (R179). -/
def execXor (rd rs rt : GprNo) (s : State) : Host.Outcome State Fault Refusal :=
  (writeAndAdvance rd ((Alu.begin (s.readGpr rs)).xor (s.readGpr rt)).acc s).commit s

/-- NOR (R180). -/
def execNor (rd rs rt : GprNo) (s : State) : Host.Outcome State Fault Refusal :=
  (writeAndAdvance rd ((Alu.begin (s.readGpr rs)).or (s.readGpr rt)).not.acc s).commit s

/-- ANDI (R181). -/
def execAndi (rt rs : GprNo) (imm : BitVec 16) (s : State) : Host.Outcome State Fault Refusal :=
  (writeAndAdvance rt ((Alu.begin (s.readGpr rs)).and (zeroExt16 imm)).acc s).commit s

/-- ORI (R182). -/
def execOri (rt rs : GprNo) (imm : BitVec 16) (s : State) : Host.Outcome State Fault Refusal :=
  (writeAndAdvance rt ((Alu.begin (s.readGpr rs)).or (zeroExt16 imm)).acc s).commit s

/-- XORI (R183). -/
def execXori (rt rs : GprNo) (imm : BitVec 16) (s : State) : Host.Outcome State Fault Refusal :=
  (writeAndAdvance rt ((Alu.begin (s.readGpr rs)).xor (zeroExt16 imm)).acc s).commit s

/-- LUI (R184). -/
def execLui (rt : GprNo) (imm : BitVec 16) (s : State) : Host.Outcome State Fault Refusal :=
  (writeAndAdvance rt (signExt32 (imm ++ 0#16)) s).commit s


end Sys2Proof.Machine
end

