-- ==== Sys2Proof/Machine/LoadStore.lean ====
section
/-! DEFINITION. Loads and stores (43_load_store.md R240-R269). -/

namespace Sys2Proof.Machine

/-- How a load extends what it reads to 64 bits (R242-R248). -/
inductive LoadExt where
  /-- Sign extension. -/
  | signed
  /-- Zero extension. -/
  | zero
  deriving DecidableEq, Repr

/-- The `8n` low bits of a value, extended to 64 bits (R241). -/
def extendLoaded (ext : LoadExt) (n : Nat) (m : Word) : Word :=
  match ext with
  | .signed => (m.setWidth (8 * n)).signExtend 64
  | .zero => (m.setWidth (8 * n)).setWidth 64

/-- An aligned load of `n` bytes for the register `dest`, up to its scheduling (R241): the address, the alignment check
(R77, R78), the read, the extension and the delayed write. -/
def loadTo (dest : PendDest) (n : Nat) (ext : LoadExt) (va : Word) (s : State) : Effect :=
  if alignedTo va n then
    .ofExcept s (memRead s va n) fun m => s.sched dest (extendLoaded ext n m) none
  else .raises (.adEL va) s

/-- Then `npc = pc + 4`. -/
def Effect.thenAdvance (x : Effect) : Effect := x.andThen fun t => .completes t.advance

/-- An aligned load into a general register (R241). -/
def loadGpr (n : Nat) (ext : LoadExt) (rt base : GprNo) (imm : BitVec 16) (s : State) : Effect :=
  (loadTo (.gpr rt) n ext (s.effectiveAddress base imm) s).thenAdvance

/-- A linked load: the load, then `LLbit <- 1` and `LLaddr <- va` (R96, R253, R254). -/
def loadLinked (n : Nat) (ext : LoadExt) (rt base : GprNo) (imm : BitVec 16) (s : State) : Effect :=
  let va := s.effectiveAddress base imm
  (loadTo (.gpr rt) n ext va s).andThen fun t =>
    .completes { t with llBit := true, llAddr := translate va }.advance

/-- An aligned store of the `n` low bytes of `v` (R241). -/
def storeAt (n : Nat) (va v : Word) (s : State) : Effect :=
  if alignedTo va n then .ofExcept s (memWrite s va n v) .completes else .raises (.adES va) s

/-- An aligned store of a general register (R241). -/
def storeGpr (n : Nat) (rt base : GprNo) (imm : BitVec 16) (s : State) : Effect :=
  (storeAt n (s.effectiveAddress base imm) (s.readGpr rt) s).thenAdvance

/-- A conditional store (R97, R99, R255, R265): the alignment is checked first; with `LLbit` = 0 it stores nothing and
writes 0 to `rt`; with `LLbit` = 1 it stores, clears `LLbit` and writes 1. The write of `rt` is immediate. -/
def storeConditional (n : Nat) (rt base : GprNo) (imm : BitVec 16) (s : State) : Effect :=
  let va := s.effectiveAddress base imm
  if alignedTo va n then
    if s.llBit then
      .ofExcept s (memWrite s va n (s.readGpr rt)) fun t => writeAndAdvance rt 1#64 { t with llBit := false }
    else writeAndAdvance rt 0#64 s
  else .raises (.adES va) s

/-- A merge load of a word (R256-R258): the access, the merge with the pending or current low word, the delayed write
of the sign-extended word. -/
def mergeLoadWord (access : MergeAccess) (merge : BitVec 32 → BitVec 32 → Nat → BitVec 32) (rt : GprNo)
    (s : State) : Effect :=
  .ofExcept s (memRead s access.addr access.count) fun m =>
    let w := merge ((s.pendingOrCurrent rt).extractLsb' 0 32) (m.extractLsb' 0 32) access.count
    (s.sched (.gpr rt) (signExt32 w) none).thenAdvance

/-- A merge load of a doubleword (R256, R259, R260). -/
def mergeLoadDouble (access : MergeAccess) (merge : Word → Word → Nat → Word) (rt : GprNo) (s : State) : Effect :=
  .ofExcept s (memRead s access.addr access.count) fun m =>
    (s.sched (.gpr rt) (merge (s.pendingOrCurrent rt) m access.count) none).thenAdvance

/-- A merge store: the bytes of the access (R256, R261-R264). -/
def mergeStore (access : MergeAccess) (v : Word) (s : State) : Effect :=
  (Effect.ofExcept s (memWrite s access.addr access.count v) .completes).thenAdvance

/-- The *left* access of an instruction (R256). -/
def State.leftOf (s : State) (w : Nat) (base : GprNo) (imm : BitVec 16) : MergeAccess :=
  leftAccess w (s.bigEndianCPU false) (s.effectiveAddress base imm)

/-- The *right* access of an instruction (R256). -/
def State.rightOf (s : State) (w : Nat) (base : GprNo) (imm : BitVec 16) : MergeAccess :=
  rightAccess w (s.bigEndianCPU false) (s.effectiveAddress base imm)

/-- LB (R242). -/
def execLb (rt base : GprNo) (imm : BitVec 16) (s : State) : Host.Outcome State Fault Refusal :=
  (loadGpr 1 .signed rt base imm s).commit s

/-- LBU (R243). -/
def execLbu (rt base : GprNo) (imm : BitVec 16) (s : State) : Host.Outcome State Fault Refusal :=
  (loadGpr 1 .zero rt base imm s).commit s

/-- LH (R244). -/
def execLh (rt base : GprNo) (imm : BitVec 16) (s : State) : Host.Outcome State Fault Refusal :=
  (loadGpr 2 .signed rt base imm s).commit s

/-- LHU (R245). -/
def execLhu (rt base : GprNo) (imm : BitVec 16) (s : State) : Host.Outcome State Fault Refusal :=
  (loadGpr 2 .zero rt base imm s).commit s

/-- LW (R246). -/
def execLw (rt base : GprNo) (imm : BitVec 16) (s : State) : Host.Outcome State Fault Refusal :=
  (loadGpr 4 .signed rt base imm s).commit s

/-- LWU (R247). -/
def execLwu (rt base : GprNo) (imm : BitVec 16) (s : State) : Host.Outcome State Fault Refusal :=
  (loadGpr 4 .zero rt base imm s).commit s

/-- LD (R248). -/
def execLd (rt base : GprNo) (imm : BitVec 16) (s : State) : Host.Outcome State Fault Refusal :=
  (loadGpr 8 .signed rt base imm s).commit s

/-- SB (R249). -/
def execSb (rt base : GprNo) (imm : BitVec 16) (s : State) : Host.Outcome State Fault Refusal :=
  (storeGpr 1 rt base imm s).commit s

/-- SH (R250). -/
def execSh (rt base : GprNo) (imm : BitVec 16) (s : State) : Host.Outcome State Fault Refusal :=
  (storeGpr 2 rt base imm s).commit s

/-- SW (R251). -/
def execSw (rt base : GprNo) (imm : BitVec 16) (s : State) : Host.Outcome State Fault Refusal :=
  (storeGpr 4 rt base imm s).commit s

/-- SD (R252). -/
def execSd (rt base : GprNo) (imm : BitVec 16) (s : State) : Host.Outcome State Fault Refusal :=
  (storeGpr 8 rt base imm s).commit s

/-- LL (R253). -/
def execLl (rt base : GprNo) (imm : BitVec 16) (s : State) : Host.Outcome State Fault Refusal :=
  (loadLinked 4 .signed rt base imm s).commit s

/-- LLD (R254). -/
def execLld (rt base : GprNo) (imm : BitVec 16) (s : State) : Host.Outcome State Fault Refusal :=
  (loadLinked 8 .signed rt base imm s).commit s

/-- SC (R255). -/
def execSc (rt base : GprNo) (imm : BitVec 16) (s : State) : Host.Outcome State Fault Refusal :=
  (storeConditional 4 rt base imm s).commit s

/-- SCD (R265). -/
def execScd (rt base : GprNo) (imm : BitVec 16) (s : State) : Host.Outcome State Fault Refusal :=
  (storeConditional 8 rt base imm s).commit s

/-- LWL (R257). -/
def execLwl (rt base : GprNo) (imm : BitVec 16) (s : State) : Host.Outcome State Fault Refusal :=
  (mergeLoadWord (s.leftOf 4 base imm) mergeHigh rt s).commit s

/-- LWR (R258). -/
def execLwr (rt base : GprNo) (imm : BitVec 16) (s : State) : Host.Outcome State Fault Refusal :=
  (mergeLoadWord (s.rightOf 4 base imm) mergeLow rt s).commit s

/-- LDL (R259). -/
def execLdl (rt base : GprNo) (imm : BitVec 16) (s : State) : Host.Outcome State Fault Refusal :=
  (mergeLoadDouble (s.leftOf 8 base imm) mergeHigh rt s).commit s

/-- LDR (R260). -/
def execLdr (rt base : GprNo) (imm : BitVec 16) (s : State) : Host.Outcome State Fault Refusal :=
  (mergeLoadDouble (s.rightOf 8 base imm) mergeLow rt s).commit s

/-- SWL (R261): the most significant bytes of the low word. -/
def execSwl (rt base : GprNo) (imm : BitVec 16) (s : State) : Host.Outcome State Fault Refusal :=
  let a := s.leftOf 4 base imm
  (mergeStore a ((highBytes (s.readGprLow rt) a.count).setWidth 64) s).commit s

/-- SWR (R262). -/
def execSwr (rt base : GprNo) (imm : BitVec 16) (s : State) : Host.Outcome State Fault Refusal :=
  (mergeStore (s.rightOf 4 base imm) (s.readGpr rt) s).commit s

/-- SDL (R263). -/
def execSdl (rt base : GprNo) (imm : BitVec 16) (s : State) : Host.Outcome State Fault Refusal :=
  let a := s.leftOf 8 base imm
  (mergeStore a (highBytes (s.readGpr rt) a.count) s).commit s

/-- SDR (R264). -/
def execSdr (rt base : GprNo) (imm : BitVec 16) (s : State) : Host.Outcome State Fault Refusal :=
  (mergeStore (s.rightOf 8 base imm) (s.readGpr rt) s).commit s

/-- LWC1 (R266). -/
def execLwc1 (ft : FprNo) (base : GprNo) (imm : BitVec 16) (s : State) : Host.Outcome State Fault Refusal :=
  let va := s.effectiveAddress base imm
  (Effect.ofExcept s (s.fpEnter []) fun _ => (loadTo (.fpr32 ft) 4 .zero va s).thenAdvance).commit s

/-- LDC1 (R267). -/
def execLdc1 (ft : FprNo) (base : GprNo) (imm : BitVec 16) (s : State) : Host.Outcome State Fault Refusal :=
  let va := s.effectiveAddress base imm
  (Effect.ofExcept s (s.fpEnter [ft]) fun _ => (loadTo (.fpr64 ft) 8 .zero va s).thenAdvance).commit s

/-- SWC1 (R268). -/
def execSwc1 (ft : FprNo) (base : GprNo) (imm : BitVec 16) (s : State) : Host.Outcome State Fault Refusal :=
  let va := s.effectiveAddress base imm
  (Effect.ofExcept s (s.fpEnter []) fun _ =>
    (storeAt 4 va ((s.rawRead32 ft).setWidth 64) s).thenAdvance).commit s

/-- SDC1 (R269). -/
def execSdc1 (ft : FprNo) (base : GprNo) (imm : BitVec 16) (s : State) : Host.Outcome State Fault Refusal :=
  let va := s.effectiveAddress base imm
  (Effect.ofExcept s (s.fpEnter [ft]) fun _ => (storeAt 8 va (s.rawRead64 ft) s).thenAdvance).commit s


end Sys2Proof.Machine
end

