-- ==== Sys2Proof/Machine/MdmxLane.lean ====
section
/-! DEFINITION. MDMX lane operations, compares, picks and shuffles (46_mdmx_lane_ops.md R400-R443). -/

namespace Sys2Proof.Machine

/-- An MDMX instruction that writes a vector: `MDMXEnter`, the raw write of `vd`, `npc = pc + 4` (R400, R401). -/
def mdmxWrite (vd : FprNo) (r : State → Word) (s : State) : Effect :=
  .ofExcept s s.mdmxEnter fun _ => .completes (s.rawWrite64 vd (r s)).advance

/-- The lanes `f(S[i], T[i])` of an OB instruction (R401, R402). -/
def obMap (f : BitVec 8 → BitVec 8 → BitVec 8) (vs : FprNo) (o : ObOperand) (s : State) : Word :=
  packOb fun i => f (laneOb (s.fgrAt vs) i) (o.lane s i)

/-- The lanes `f(S[i], T[i])` of a QH instruction (R401, R402). -/
def qhMap (f : BitVec 16 → BitVec 16 → BitVec 16) (vs : FprNo) (o : QhOperand) (s : State) : Word :=
  packQh fun i => f (laneQh (s.fgrAt vs) i) (o.lane s i)

/-- An OB lane operation (R401). -/
def mdmxOb (f : BitVec 8 → BitVec 8 → BitVec 8) (vd vs : FprNo) (o : ObOperand) (s : State) : Effect :=
  mdmxWrite vd (obMap f vs o) s

/-- A QH lane operation (R401). -/
def mdmxQh (f : BitVec 16 → BitVec 16 → BitVec 16) (vd vs : FprNo) (o : QhOperand) (s : State) : Effect :=
  mdmxWrite vd (qhMap f vs o) s

/-- An OB operation on the integers the lanes denote, clamped (R403). -/
def obClamped (f : Int → Int → Int) (a b : BitVec 8) : BitVec 8 := satOb (f (obInt a) (obInt b))

/-- A QH operation on the integers the lanes denote, clamped (R403). -/
def qhClamped (f : Int → Int → Int) (a b : BitVec 16) : BitVec 16 := satQh (f (qhInt a) (qhInt b))

/-- The smaller of two lanes (R407). -/
def minInt (a b : Int) : Int := if a ≤ b then a else b

/-- The larger of two lanes (R408). -/
def maxInt (a b : Int) : Int := if a ≤ b then b else a

/-- The shift count of a lane: the low 3 or 4 bits of `T[i]` (46_mdmx_lane_ops.md section 4). -/
def laneCount {w : Nat} (t : BitVec w) : Nat := t.toNat % w

/-- A lane shifted left (R413). -/
def laneSll {w : Nat} (a t : BitVec w) : BitVec w := a <<< laneCount t

/-- A lane shifted right with zeros (R414). -/
def laneSrl {w : Nat} (a t : BitVec w) : BitVec w := a >>> laneCount t

/-- A lane shifted right with sign bits (R415). -/
def laneSra {w : Nat} (a t : BitVec w) : BitVec w := a.sshiftRight (laneCount t)

/-- MSGN: the magnitude of the first with the sign of the second (R416). -/
def signSelect (a t : Int) : Int := if t < 0 then -a else if t = 0 then 0 else a

/-- PABSDIFF (R417). -/
def absDiff (a t : Int) : Int := if a ≤ t then t - a else a - t

/-- PAVG: the floor of half the sum plus one (R418). -/
def roundAverage (a t : Int) : Int := (a + t + 1) / 2

/-- The condition codes `FCC[i]` set for each listed lane, every other bit of the FCSR unchanged (R430). -/
def State.setFccs (s : State) {n : Nat} (f : Fin n → Bool) : List (Fin n) → State
  | [] => s
  | i :: is => (s.setFcsrBit (fccBit (BitVec.ofNat 3 i.val)) (f i)).setFccs f is

/-- An OB compare: `FCC[0..7]`, immediately (R430-R432). -/
def mdmxCompareOb (f : Int → Int → Bool) (vs : FprNo) (o : ObOperand) (s : State) : Effect :=
  .ofExcept s s.mdmxEnter fun _ => .completes
    (s.setFccs (fun i => f (obInt (laneOb (s.fgrAt vs) i)) (obInt (o.lane s i))) [0, 1, 2, 3, 4, 5, 6, 7]).advance

/-- A QH compare: `FCC[0..3]`, immediately; `FCC[4..7]` are unchanged (R430-R432). -/
def mdmxCompareQh (f : Int → Int → Bool) (vs : FprNo) (o : QhOperand) (s : State) : Effect :=
  .ofExcept s s.mdmxEnter fun _ => .completes
    (s.setFccs (fun i => f (qhInt (laneQh (s.fgrAt vs) i)) (qhInt (o.lane s i))) [0, 1, 2, 3]).advance

/-- The lanes of an OB pick: `S[i]` where `FCC[i]` is `keep`, else `T[i]` (R433, R434). -/
def pickOb (keep : Bool) (vs : FprNo) (o : ObOperand) (s : State) : Word :=
  packOb fun i => if s.fcc (BitVec.ofNat 3 i.val) == keep then laneOb (s.fgrAt vs) i else o.lane s i

/-- The lanes of a QH pick (R433, R434). -/
def pickQh (keep : Bool) (vs : FprNo) (o : QhOperand) (s : State) : Word :=
  packQh fun i => if s.fcc (BitVec.ofNat 3 i.val) == keep then laneQh (s.fgrAt vs) i else o.lane s i

/-- A lane of a shuffle's result: a lane of `S` or of `T` (R435). -/
inductive ShuffleLane (n : Nat) where
  /-- `S[i]`. -/
  | s (i : Fin n)
  /-- `T[i]`. -/
  | t (i : Fin n)
  deriving DecidableEq, Repr

/-- An OB shuffle by its table, lane 0 first (R435). -/
def shuffleOb (table : Vector (ShuffleLane 8) 8) (vd vs vt : FprNo) (s : State) : Effect :=
  mdmxWrite vd (fun u => packOb fun i =>
    match table.get i with
    | .s k => laneOb (u.fgrAt vs) k
    | .t k => laneOb (u.fgrAt vt) k) s

/-- A QH shuffle by its table, lane 0 first (R435). -/
def shuffleQh (table : Vector (ShuffleLane 4) 4) (vd vs vt : FprNo) (s : State) : Effect :=
  mdmxWrite vd (fun u => packQh fun i =>
    match table.get i with
    | .s k => laneQh (u.fgrAt vs) k
    | .t k => laneQh (u.fgrAt vt) k) s

/-- ADD.OB by element (R404). -/
def execAddObE (vd vs : FprNo) (vt : FprNo) (e : BitVec 3) (s : State) : Host.Outcome State Fault Refusal :=
  (mdmxOb (obClamped (· + ·)) vd vs (.element vt e) s).commit s

/-- ADD.OB by vector (R404). -/
def execAddObV (vd vs : FprNo) (vt : FprNo) (s : State) : Host.Outcome State Fault Refusal :=
  (mdmxOb (obClamped (· + ·)) vd vs (.vector vt) s).commit s

/-- ADD.OB by immediate (R404). -/
def execAddObI (vd vs : FprNo) (imm5 : BitVec 5) (s : State) : Host.Outcome State Fault Refusal :=
  (mdmxOb (obClamped (· + ·)) vd vs (.immediate imm5) s).commit s

/-- ADD.QH by element (R404). -/
def execAddQhE (vd vs : FprNo) (vt : FprNo) (e : BitVec 2) (s : State) : Host.Outcome State Fault Refusal :=
  (mdmxQh (qhClamped (· + ·)) vd vs (.element vt e) s).commit s

/-- ADD.QH by vector (R404). -/
def execAddQhV (vd vs : FprNo) (vt : FprNo) (s : State) : Host.Outcome State Fault Refusal :=
  (mdmxQh (qhClamped (· + ·)) vd vs (.vector vt) s).commit s

/-- ADD.QH by immediate (R404). -/
def execAddQhI (vd vs : FprNo) (imm5 : BitVec 5) (s : State) : Host.Outcome State Fault Refusal :=
  (mdmxQh (qhClamped (· + ·)) vd vs (.immediate imm5) s).commit s

/-- SUB.OB by element (R405). -/
def execSubObE (vd vs : FprNo) (vt : FprNo) (e : BitVec 3) (s : State) : Host.Outcome State Fault Refusal :=
  (mdmxOb (obClamped (· - ·)) vd vs (.element vt e) s).commit s

/-- SUB.OB by vector (R405). -/
def execSubObV (vd vs : FprNo) (vt : FprNo) (s : State) : Host.Outcome State Fault Refusal :=
  (mdmxOb (obClamped (· - ·)) vd vs (.vector vt) s).commit s

/-- SUB.OB by immediate (R405). -/
def execSubObI (vd vs : FprNo) (imm5 : BitVec 5) (s : State) : Host.Outcome State Fault Refusal :=
  (mdmxOb (obClamped (· - ·)) vd vs (.immediate imm5) s).commit s

/-- SUB.QH by element (R405). -/
def execSubQhE (vd vs : FprNo) (vt : FprNo) (e : BitVec 2) (s : State) : Host.Outcome State Fault Refusal :=
  (mdmxQh (qhClamped (· - ·)) vd vs (.element vt e) s).commit s

/-- SUB.QH by vector (R405). -/
def execSubQhV (vd vs : FprNo) (vt : FprNo) (s : State) : Host.Outcome State Fault Refusal :=
  (mdmxQh (qhClamped (· - ·)) vd vs (.vector vt) s).commit s

/-- SUB.QH by immediate (R405). -/
def execSubQhI (vd vs : FprNo) (imm5 : BitVec 5) (s : State) : Host.Outcome State Fault Refusal :=
  (mdmxQh (qhClamped (· - ·)) vd vs (.immediate imm5) s).commit s

/-- MUL.OB by element (R406). -/
def execMulObE (vd vs : FprNo) (vt : FprNo) (e : BitVec 3) (s : State) : Host.Outcome State Fault Refusal :=
  (mdmxOb (obClamped (· * ·)) vd vs (.element vt e) s).commit s

/-- MUL.OB by vector (R406). -/
def execMulObV (vd vs : FprNo) (vt : FprNo) (s : State) : Host.Outcome State Fault Refusal :=
  (mdmxOb (obClamped (· * ·)) vd vs (.vector vt) s).commit s

/-- MUL.OB by immediate (R406). -/
def execMulObI (vd vs : FprNo) (imm5 : BitVec 5) (s : State) : Host.Outcome State Fault Refusal :=
  (mdmxOb (obClamped (· * ·)) vd vs (.immediate imm5) s).commit s

/-- MUL.QH by element (R406). -/
def execMulQhE (vd vs : FprNo) (vt : FprNo) (e : BitVec 2) (s : State) : Host.Outcome State Fault Refusal :=
  (mdmxQh (qhClamped (· * ·)) vd vs (.element vt e) s).commit s

/-- MUL.QH by vector (R406). -/
def execMulQhV (vd vs : FprNo) (vt : FprNo) (s : State) : Host.Outcome State Fault Refusal :=
  (mdmxQh (qhClamped (· * ·)) vd vs (.vector vt) s).commit s

/-- MUL.QH by immediate (R406). -/
def execMulQhI (vd vs : FprNo) (imm5 : BitVec 5) (s : State) : Host.Outcome State Fault Refusal :=
  (mdmxQh (qhClamped (· * ·)) vd vs (.immediate imm5) s).commit s

/-- MIN.OB by element (R407). -/
def execMinObE (vd vs : FprNo) (vt : FprNo) (e : BitVec 3) (s : State) : Host.Outcome State Fault Refusal :=
  (mdmxOb (obClamped minInt) vd vs (.element vt e) s).commit s

/-- MIN.OB by vector (R407). -/
def execMinObV (vd vs : FprNo) (vt : FprNo) (s : State) : Host.Outcome State Fault Refusal :=
  (mdmxOb (obClamped minInt) vd vs (.vector vt) s).commit s

/-- MIN.OB by immediate (R407). -/
def execMinObI (vd vs : FprNo) (imm5 : BitVec 5) (s : State) : Host.Outcome State Fault Refusal :=
  (mdmxOb (obClamped minInt) vd vs (.immediate imm5) s).commit s

/-- MIN.QH by element (R407). -/
def execMinQhE (vd vs : FprNo) (vt : FprNo) (e : BitVec 2) (s : State) : Host.Outcome State Fault Refusal :=
  (mdmxQh (qhClamped minInt) vd vs (.element vt e) s).commit s

/-- MIN.QH by vector (R407). -/
def execMinQhV (vd vs : FprNo) (vt : FprNo) (s : State) : Host.Outcome State Fault Refusal :=
  (mdmxQh (qhClamped minInt) vd vs (.vector vt) s).commit s

/-- MIN.QH by immediate (R407). -/
def execMinQhI (vd vs : FprNo) (imm5 : BitVec 5) (s : State) : Host.Outcome State Fault Refusal :=
  (mdmxQh (qhClamped minInt) vd vs (.immediate imm5) s).commit s

/-- MAX.OB by element (R408). -/
def execMaxObE (vd vs : FprNo) (vt : FprNo) (e : BitVec 3) (s : State) : Host.Outcome State Fault Refusal :=
  (mdmxOb (obClamped maxInt) vd vs (.element vt e) s).commit s

/-- MAX.OB by vector (R408). -/
def execMaxObV (vd vs : FprNo) (vt : FprNo) (s : State) : Host.Outcome State Fault Refusal :=
  (mdmxOb (obClamped maxInt) vd vs (.vector vt) s).commit s

/-- MAX.OB by immediate (R408). -/
def execMaxObI (vd vs : FprNo) (imm5 : BitVec 5) (s : State) : Host.Outcome State Fault Refusal :=
  (mdmxOb (obClamped maxInt) vd vs (.immediate imm5) s).commit s

/-- MAX.QH by element (R408). -/
def execMaxQhE (vd vs : FprNo) (vt : FprNo) (e : BitVec 2) (s : State) : Host.Outcome State Fault Refusal :=
  (mdmxQh (qhClamped maxInt) vd vs (.element vt e) s).commit s

/-- MAX.QH by vector (R408). -/
def execMaxQhV (vd vs : FprNo) (vt : FprNo) (s : State) : Host.Outcome State Fault Refusal :=
  (mdmxQh (qhClamped maxInt) vd vs (.vector vt) s).commit s

/-- MAX.QH by immediate (R408). -/
def execMaxQhI (vd vs : FprNo) (imm5 : BitVec 5) (s : State) : Host.Outcome State Fault Refusal :=
  (mdmxQh (qhClamped maxInt) vd vs (.immediate imm5) s).commit s

/-- AND.OB by element (R409). -/
def execAndObE (vd vs : FprNo) (vt : FprNo) (e : BitVec 3) (s : State) : Host.Outcome State Fault Refusal :=
  (mdmxOb (· &&& ·) vd vs (.element vt e) s).commit s

/-- AND.OB by vector (R409). -/
def execAndObV (vd vs : FprNo) (vt : FprNo) (s : State) : Host.Outcome State Fault Refusal :=
  (mdmxOb (· &&& ·) vd vs (.vector vt) s).commit s

/-- AND.OB by immediate (R409). -/
def execAndObI (vd vs : FprNo) (imm5 : BitVec 5) (s : State) : Host.Outcome State Fault Refusal :=
  (mdmxOb (· &&& ·) vd vs (.immediate imm5) s).commit s

/-- AND.QH by element (R409). -/
def execAndQhE (vd vs : FprNo) (vt : FprNo) (e : BitVec 2) (s : State) : Host.Outcome State Fault Refusal :=
  (mdmxQh (· &&& ·) vd vs (.element vt e) s).commit s

/-- AND.QH by vector (R409). -/
def execAndQhV (vd vs : FprNo) (vt : FprNo) (s : State) : Host.Outcome State Fault Refusal :=
  (mdmxQh (· &&& ·) vd vs (.vector vt) s).commit s

/-- AND.QH by immediate (R409). -/
def execAndQhI (vd vs : FprNo) (imm5 : BitVec 5) (s : State) : Host.Outcome State Fault Refusal :=
  (mdmxQh (· &&& ·) vd vs (.immediate imm5) s).commit s

/-- OR.OB by element (R410). -/
def execOrObE (vd vs : FprNo) (vt : FprNo) (e : BitVec 3) (s : State) : Host.Outcome State Fault Refusal :=
  (mdmxOb (· ||| ·) vd vs (.element vt e) s).commit s

/-- OR.OB by vector (R410). -/
def execOrObV (vd vs : FprNo) (vt : FprNo) (s : State) : Host.Outcome State Fault Refusal :=
  (mdmxOb (· ||| ·) vd vs (.vector vt) s).commit s

/-- OR.OB by immediate (R410). -/
def execOrObI (vd vs : FprNo) (imm5 : BitVec 5) (s : State) : Host.Outcome State Fault Refusal :=
  (mdmxOb (· ||| ·) vd vs (.immediate imm5) s).commit s

/-- OR.QH by element (R410). -/
def execOrQhE (vd vs : FprNo) (vt : FprNo) (e : BitVec 2) (s : State) : Host.Outcome State Fault Refusal :=
  (mdmxQh (· ||| ·) vd vs (.element vt e) s).commit s

/-- OR.QH by vector (R410). -/
def execOrQhV (vd vs : FprNo) (vt : FprNo) (s : State) : Host.Outcome State Fault Refusal :=
  (mdmxQh (· ||| ·) vd vs (.vector vt) s).commit s

/-- OR.QH by immediate (R410). -/
def execOrQhI (vd vs : FprNo) (imm5 : BitVec 5) (s : State) : Host.Outcome State Fault Refusal :=
  (mdmxQh (· ||| ·) vd vs (.immediate imm5) s).commit s

/-- XOR.OB by element (R411). -/
def execXorObE (vd vs : FprNo) (vt : FprNo) (e : BitVec 3) (s : State) : Host.Outcome State Fault Refusal :=
  (mdmxOb (· ^^^ ·) vd vs (.element vt e) s).commit s

/-- XOR.OB by vector (R411). -/
def execXorObV (vd vs : FprNo) (vt : FprNo) (s : State) : Host.Outcome State Fault Refusal :=
  (mdmxOb (· ^^^ ·) vd vs (.vector vt) s).commit s

/-- XOR.OB by immediate (R411). -/
def execXorObI (vd vs : FprNo) (imm5 : BitVec 5) (s : State) : Host.Outcome State Fault Refusal :=
  (mdmxOb (· ^^^ ·) vd vs (.immediate imm5) s).commit s

/-- XOR.QH by element (R411). -/
def execXorQhE (vd vs : FprNo) (vt : FprNo) (e : BitVec 2) (s : State) : Host.Outcome State Fault Refusal :=
  (mdmxQh (· ^^^ ·) vd vs (.element vt e) s).commit s

/-- XOR.QH by vector (R411). -/
def execXorQhV (vd vs : FprNo) (vt : FprNo) (s : State) : Host.Outcome State Fault Refusal :=
  (mdmxQh (· ^^^ ·) vd vs (.vector vt) s).commit s

/-- XOR.QH by immediate (R411). -/
def execXorQhI (vd vs : FprNo) (imm5 : BitVec 5) (s : State) : Host.Outcome State Fault Refusal :=
  (mdmxQh (· ^^^ ·) vd vs (.immediate imm5) s).commit s

/-- NOR.OB by element (R412). -/
def execNorObE (vd vs : FprNo) (vt : FprNo) (e : BitVec 3) (s : State) : Host.Outcome State Fault Refusal :=
  (mdmxOb (fun a t => ~~~(a ||| t)) vd vs (.element vt e) s).commit s

/-- NOR.OB by vector (R412). -/
def execNorObV (vd vs : FprNo) (vt : FprNo) (s : State) : Host.Outcome State Fault Refusal :=
  (mdmxOb (fun a t => ~~~(a ||| t)) vd vs (.vector vt) s).commit s

/-- NOR.OB by immediate (R412). -/
def execNorObI (vd vs : FprNo) (imm5 : BitVec 5) (s : State) : Host.Outcome State Fault Refusal :=
  (mdmxOb (fun a t => ~~~(a ||| t)) vd vs (.immediate imm5) s).commit s

/-- NOR.QH by element (R412). -/
def execNorQhE (vd vs : FprNo) (vt : FprNo) (e : BitVec 2) (s : State) : Host.Outcome State Fault Refusal :=
  (mdmxQh (fun a t => ~~~(a ||| t)) vd vs (.element vt e) s).commit s

/-- NOR.QH by vector (R412). -/
def execNorQhV (vd vs : FprNo) (vt : FprNo) (s : State) : Host.Outcome State Fault Refusal :=
  (mdmxQh (fun a t => ~~~(a ||| t)) vd vs (.vector vt) s).commit s

/-- NOR.QH by immediate (R412). -/
def execNorQhI (vd vs : FprNo) (imm5 : BitVec 5) (s : State) : Host.Outcome State Fault Refusal :=
  (mdmxQh (fun a t => ~~~(a ||| t)) vd vs (.immediate imm5) s).commit s

/-- SLL.OB by element (R413). -/
def execSllObE (vd vs : FprNo) (vt : FprNo) (e : BitVec 3) (s : State) : Host.Outcome State Fault Refusal :=
  (mdmxOb laneSll vd vs (.element vt e) s).commit s

/-- SLL.OB by vector (R413). -/
def execSllObV (vd vs : FprNo) (vt : FprNo) (s : State) : Host.Outcome State Fault Refusal :=
  (mdmxOb laneSll vd vs (.vector vt) s).commit s

/-- SLL.OB by immediate (R413). -/
def execSllObI (vd vs : FprNo) (imm5 : BitVec 5) (s : State) : Host.Outcome State Fault Refusal :=
  (mdmxOb laneSll vd vs (.immediate imm5) s).commit s

/-- SLL.QH by element (R413). -/
def execSllQhE (vd vs : FprNo) (vt : FprNo) (e : BitVec 2) (s : State) : Host.Outcome State Fault Refusal :=
  (mdmxQh laneSll vd vs (.element vt e) s).commit s

/-- SLL.QH by vector (R413). -/
def execSllQhV (vd vs : FprNo) (vt : FprNo) (s : State) : Host.Outcome State Fault Refusal :=
  (mdmxQh laneSll vd vs (.vector vt) s).commit s

/-- SLL.QH by immediate (R413). -/
def execSllQhI (vd vs : FprNo) (imm5 : BitVec 5) (s : State) : Host.Outcome State Fault Refusal :=
  (mdmxQh laneSll vd vs (.immediate imm5) s).commit s

/-- SRL.OB by element (R414). -/
def execSrlObE (vd vs : FprNo) (vt : FprNo) (e : BitVec 3) (s : State) : Host.Outcome State Fault Refusal :=
  (mdmxOb laneSrl vd vs (.element vt e) s).commit s

/-- SRL.OB by vector (R414). -/
def execSrlObV (vd vs : FprNo) (vt : FprNo) (s : State) : Host.Outcome State Fault Refusal :=
  (mdmxOb laneSrl vd vs (.vector vt) s).commit s

/-- SRL.OB by immediate (R414). -/
def execSrlObI (vd vs : FprNo) (imm5 : BitVec 5) (s : State) : Host.Outcome State Fault Refusal :=
  (mdmxOb laneSrl vd vs (.immediate imm5) s).commit s

/-- SRL.QH by element (R414). -/
def execSrlQhE (vd vs : FprNo) (vt : FprNo) (e : BitVec 2) (s : State) : Host.Outcome State Fault Refusal :=
  (mdmxQh laneSrl vd vs (.element vt e) s).commit s

/-- SRL.QH by vector (R414). -/
def execSrlQhV (vd vs : FprNo) (vt : FprNo) (s : State) : Host.Outcome State Fault Refusal :=
  (mdmxQh laneSrl vd vs (.vector vt) s).commit s

/-- SRL.QH by immediate (R414). -/
def execSrlQhI (vd vs : FprNo) (imm5 : BitVec 5) (s : State) : Host.Outcome State Fault Refusal :=
  (mdmxQh laneSrl vd vs (.immediate imm5) s).commit s

/-- SRA.QH by element (R415). -/
def execSraQhE (vd vs : FprNo) (vt : FprNo) (e : BitVec 2) (s : State) : Host.Outcome State Fault Refusal :=
  (mdmxQh laneSra vd vs (.element vt e) s).commit s

/-- SRA.QH by vector (R415). -/
def execSraQhV (vd vs : FprNo) (vt : FprNo) (s : State) : Host.Outcome State Fault Refusal :=
  (mdmxQh laneSra vd vs (.vector vt) s).commit s

/-- SRA.QH by immediate (R415). -/
def execSraQhI (vd vs : FprNo) (imm5 : BitVec 5) (s : State) : Host.Outcome State Fault Refusal :=
  (mdmxQh laneSra vd vs (.immediate imm5) s).commit s

/-- MSGN.QH by element (R416). -/
def execMsgnQhE (vd vs : FprNo) (vt : FprNo) (e : BitVec 2) (s : State) : Host.Outcome State Fault Refusal :=
  (mdmxQh (qhClamped signSelect) vd vs (.element vt e) s).commit s

/-- MSGN.QH by vector (R416). -/
def execMsgnQhV (vd vs : FprNo) (vt : FprNo) (s : State) : Host.Outcome State Fault Refusal :=
  (mdmxQh (qhClamped signSelect) vd vs (.vector vt) s).commit s

/-- MSGN.QH by immediate (R416). -/
def execMsgnQhI (vd vs : FprNo) (imm5 : BitVec 5) (s : State) : Host.Outcome State Fault Refusal :=
  (mdmxQh (qhClamped signSelect) vd vs (.immediate imm5) s).commit s

/-- PABSDIFF.OB by element (R417). -/
def execPabsdiffObE (vd vs : FprNo) (vt : FprNo) (e : BitVec 3) (s : State) : Host.Outcome State Fault Refusal :=
  (mdmxOb (obClamped absDiff) vd vs (.element vt e) s).commit s

/-- PABSDIFF.OB by vector (R417). -/
def execPabsdiffObV (vd vs : FprNo) (vt : FprNo) (s : State) : Host.Outcome State Fault Refusal :=
  (mdmxOb (obClamped absDiff) vd vs (.vector vt) s).commit s

/-- PABSDIFF.OB by immediate (R417). -/
def execPabsdiffObI (vd vs : FprNo) (imm5 : BitVec 5) (s : State) : Host.Outcome State Fault Refusal :=
  (mdmxOb (obClamped absDiff) vd vs (.immediate imm5) s).commit s

/-- PAVG.OB by element (R418). -/
def execPavgObE (vd vs : FprNo) (vt : FprNo) (e : BitVec 3) (s : State) : Host.Outcome State Fault Refusal :=
  (mdmxOb (obClamped roundAverage) vd vs (.element vt e) s).commit s

/-- PAVG.OB by vector (R418). -/
def execPavgObV (vd vs : FprNo) (vt : FprNo) (s : State) : Host.Outcome State Fault Refusal :=
  (mdmxOb (obClamped roundAverage) vd vs (.vector vt) s).commit s

/-- PAVG.OB by immediate (R418). -/
def execPavgObI (vd vs : FprNo) (imm5 : BitVec 5) (s : State) : Host.Outcome State Fault Refusal :=
  (mdmxOb (obClamped roundAverage) vd vs (.immediate imm5) s).commit s

/-- C.EQ.OB by element (R430). -/
def execCEqObE (vs : FprNo) (vt : FprNo) (e : BitVec 3) (s : State) : Host.Outcome State Fault Refusal :=
  (mdmxCompareOb (fun a t => decide (a = t)) vs (.element vt e) s).commit s

/-- C.EQ.OB by vector (R430). -/
def execCEqObV (vs : FprNo) (vt : FprNo) (s : State) : Host.Outcome State Fault Refusal :=
  (mdmxCompareOb (fun a t => decide (a = t)) vs (.vector vt) s).commit s

/-- C.EQ.OB by immediate (R430). -/
def execCEqObI (vs : FprNo) (imm5 : BitVec 5) (s : State) : Host.Outcome State Fault Refusal :=
  (mdmxCompareOb (fun a t => decide (a = t)) vs (.immediate imm5) s).commit s

/-- C.EQ.QH by element (R430). -/
def execCEqQhE (vs : FprNo) (vt : FprNo) (e : BitVec 2) (s : State) : Host.Outcome State Fault Refusal :=
  (mdmxCompareQh (fun a t => decide (a = t)) vs (.element vt e) s).commit s

/-- C.EQ.QH by vector (R430). -/
def execCEqQhV (vs : FprNo) (vt : FprNo) (s : State) : Host.Outcome State Fault Refusal :=
  (mdmxCompareQh (fun a t => decide (a = t)) vs (.vector vt) s).commit s

/-- C.EQ.QH by immediate (R430). -/
def execCEqQhI (vs : FprNo) (imm5 : BitVec 5) (s : State) : Host.Outcome State Fault Refusal :=
  (mdmxCompareQh (fun a t => decide (a = t)) vs (.immediate imm5) s).commit s

/-- C.LT.OB by element (R431). -/
def execCLtObE (vs : FprNo) (vt : FprNo) (e : BitVec 3) (s : State) : Host.Outcome State Fault Refusal :=
  (mdmxCompareOb (fun a t => decide (a < t)) vs (.element vt e) s).commit s

/-- C.LT.OB by vector (R431). -/
def execCLtObV (vs : FprNo) (vt : FprNo) (s : State) : Host.Outcome State Fault Refusal :=
  (mdmxCompareOb (fun a t => decide (a < t)) vs (.vector vt) s).commit s

/-- C.LT.OB by immediate (R431). -/
def execCLtObI (vs : FprNo) (imm5 : BitVec 5) (s : State) : Host.Outcome State Fault Refusal :=
  (mdmxCompareOb (fun a t => decide (a < t)) vs (.immediate imm5) s).commit s

/-- C.LT.QH by element (R431). -/
def execCLtQhE (vs : FprNo) (vt : FprNo) (e : BitVec 2) (s : State) : Host.Outcome State Fault Refusal :=
  (mdmxCompareQh (fun a t => decide (a < t)) vs (.element vt e) s).commit s

/-- C.LT.QH by vector (R431). -/
def execCLtQhV (vs : FprNo) (vt : FprNo) (s : State) : Host.Outcome State Fault Refusal :=
  (mdmxCompareQh (fun a t => decide (a < t)) vs (.vector vt) s).commit s

/-- C.LT.QH by immediate (R431). -/
def execCLtQhI (vs : FprNo) (imm5 : BitVec 5) (s : State) : Host.Outcome State Fault Refusal :=
  (mdmxCompareQh (fun a t => decide (a < t)) vs (.immediate imm5) s).commit s

/-- C.LE.OB by element (R432). -/
def execCLeObE (vs : FprNo) (vt : FprNo) (e : BitVec 3) (s : State) : Host.Outcome State Fault Refusal :=
  (mdmxCompareOb (fun a t => decide (a ≤ t)) vs (.element vt e) s).commit s

/-- C.LE.OB by vector (R432). -/
def execCLeObV (vs : FprNo) (vt : FprNo) (s : State) : Host.Outcome State Fault Refusal :=
  (mdmxCompareOb (fun a t => decide (a ≤ t)) vs (.vector vt) s).commit s

/-- C.LE.OB by immediate (R432). -/
def execCLeObI (vs : FprNo) (imm5 : BitVec 5) (s : State) : Host.Outcome State Fault Refusal :=
  (mdmxCompareOb (fun a t => decide (a ≤ t)) vs (.immediate imm5) s).commit s

/-- C.LE.QH by element (R432). -/
def execCLeQhE (vs : FprNo) (vt : FprNo) (e : BitVec 2) (s : State) : Host.Outcome State Fault Refusal :=
  (mdmxCompareQh (fun a t => decide (a ≤ t)) vs (.element vt e) s).commit s

/-- C.LE.QH by vector (R432). -/
def execCLeQhV (vs : FprNo) (vt : FprNo) (s : State) : Host.Outcome State Fault Refusal :=
  (mdmxCompareQh (fun a t => decide (a ≤ t)) vs (.vector vt) s).commit s

/-- C.LE.QH by immediate (R432). -/
def execCLeQhI (vs : FprNo) (imm5 : BitVec 5) (s : State) : Host.Outcome State Fault Refusal :=
  (mdmxCompareQh (fun a t => decide (a ≤ t)) vs (.immediate imm5) s).commit s

/-- PICKF.OB by element (R433). -/
def execPickfObE (vd vs : FprNo) (vt : FprNo) (e : BitVec 3) (s : State) : Host.Outcome State Fault Refusal :=
  (mdmxWrite vd (pickOb false vs (.element vt e)) s).commit s

/-- PICKF.OB by vector (R433). -/
def execPickfObV (vd vs : FprNo) (vt : FprNo) (s : State) : Host.Outcome State Fault Refusal :=
  (mdmxWrite vd (pickOb false vs (.vector vt)) s).commit s

/-- PICKF.OB by immediate (R433). -/
def execPickfObI (vd vs : FprNo) (imm5 : BitVec 5) (s : State) : Host.Outcome State Fault Refusal :=
  (mdmxWrite vd (pickOb false vs (.immediate imm5)) s).commit s

/-- PICKF.QH by element (R433). -/
def execPickfQhE (vd vs : FprNo) (vt : FprNo) (e : BitVec 2) (s : State) : Host.Outcome State Fault Refusal :=
  (mdmxWrite vd (pickQh false vs (.element vt e)) s).commit s

/-- PICKF.QH by vector (R433). -/
def execPickfQhV (vd vs : FprNo) (vt : FprNo) (s : State) : Host.Outcome State Fault Refusal :=
  (mdmxWrite vd (pickQh false vs (.vector vt)) s).commit s

/-- PICKF.QH by immediate (R433). -/
def execPickfQhI (vd vs : FprNo) (imm5 : BitVec 5) (s : State) : Host.Outcome State Fault Refusal :=
  (mdmxWrite vd (pickQh false vs (.immediate imm5)) s).commit s

/-- PICKT.OB by element (R434). -/
def execPicktObE (vd vs : FprNo) (vt : FprNo) (e : BitVec 3) (s : State) : Host.Outcome State Fault Refusal :=
  (mdmxWrite vd (pickOb true vs (.element vt e)) s).commit s

/-- PICKT.OB by vector (R434). -/
def execPicktObV (vd vs : FprNo) (vt : FprNo) (s : State) : Host.Outcome State Fault Refusal :=
  (mdmxWrite vd (pickOb true vs (.vector vt)) s).commit s

/-- PICKT.OB by immediate (R434). -/
def execPicktObI (vd vs : FprNo) (imm5 : BitVec 5) (s : State) : Host.Outcome State Fault Refusal :=
  (mdmxWrite vd (pickOb true vs (.immediate imm5)) s).commit s

/-- PICKT.QH by element (R434). -/
def execPicktQhE (vd vs : FprNo) (vt : FprNo) (e : BitVec 2) (s : State) : Host.Outcome State Fault Refusal :=
  (mdmxWrite vd (pickQh true vs (.element vt e)) s).commit s

/-- PICKT.QH by vector (R434). -/
def execPicktQhV (vd vs : FprNo) (vt : FprNo) (s : State) : Host.Outcome State Fault Refusal :=
  (mdmxWrite vd (pickQh true vs (.vector vt)) s).commit s

/-- PICKT.QH by immediate (R434). -/
def execPicktQhI (vd vs : FprNo) (imm5 : BitVec 5) (s : State) : Host.Outcome State Fault Refusal :=
  (mdmxWrite vd (pickQh true vs (.immediate imm5)) s).commit s

/-- SHFL.PACH.OB (R436). -/
def execShflPachOb (vd vs vt : FprNo) (s : State) : Host.Outcome State Fault Refusal :=
  (shuffleOb #v[.t 1, .t 3, .t 5, .t 7, .s 1, .s 3, .s 5, .s 7] vd vs vt s).commit s

/-- SHFL.PACH.QH (R436). -/
def execShflPachQh (vd vs vt : FprNo) (s : State) : Host.Outcome State Fault Refusal :=
  (shuffleQh #v[.t 1, .t 3, .s 1, .s 3] vd vs vt s).commit s

/-- SHFL.PACL.OB (R437). -/
def execShflPaclOb (vd vs vt : FprNo) (s : State) : Host.Outcome State Fault Refusal :=
  (shuffleOb #v[.t 0, .t 2, .t 4, .t 6, .s 0, .s 2, .s 4, .s 6] vd vs vt s).commit s

/-- SHFL.PACL.QH (R437). -/
def execShflPaclQh (vd vs vt : FprNo) (s : State) : Host.Outcome State Fault Refusal :=
  (shuffleQh #v[.t 0, .t 2, .s 0, .s 2] vd vs vt s).commit s

/-- SHFL.MIXH.OB (R438). -/
def execShflMixhOb (vd vs vt : FprNo) (s : State) : Host.Outcome State Fault Refusal :=
  (shuffleOb #v[.t 4, .s 4, .t 5, .s 5, .t 6, .s 6, .t 7, .s 7] vd vs vt s).commit s

/-- SHFL.MIXH.QH (R438). -/
def execShflMixhQh (vd vs vt : FprNo) (s : State) : Host.Outcome State Fault Refusal :=
  (shuffleQh #v[.t 2, .s 2, .t 3, .s 3] vd vs vt s).commit s

/-- SHFL.MIXL.OB (R439). -/
def execShflMixlOb (vd vs vt : FprNo) (s : State) : Host.Outcome State Fault Refusal :=
  (shuffleOb #v[.t 0, .s 0, .t 1, .s 1, .t 2, .s 2, .t 3, .s 3] vd vs vt s).commit s

/-- SHFL.MIXL.QH (R439). -/
def execShflMixlQh (vd vs vt : FprNo) (s : State) : Host.Outcome State Fault Refusal :=
  (shuffleQh #v[.t 0, .s 0, .t 1, .s 1] vd vs vt s).commit s

/-- SHFL.BFLA.QH (R440). -/
def execShflBflaQh (vd vs vt : FprNo) (s : State) : Host.Outcome State Fault Refusal :=
  (shuffleQh #v[.t 1, .t 0, .s 1, .s 0] vd vs vt s).commit s

/-- SHFL.BFLB.QH (R441). -/
def execShflBflbQh (vd vs vt : FprNo) (s : State) : Host.Outcome State Fault Refusal :=
  (shuffleQh #v[.t 3, .t 2, .s 3, .s 2] vd vs vt s).commit s

/-- SHFL.REPA.QH (R442). -/
def execShflRepaQh (vd vs vt : FprNo) (s : State) : Host.Outcome State Fault Refusal :=
  (shuffleQh #v[.t 2, .t 3, .s 2, .s 3] vd vs vt s).commit s

/-- SHFL.REPB.QH (R443). -/
def execShflRepbQh (vd vs vt : FprNo) (s : State) : Host.Outcome State Fault Refusal :=
  (shuffleQh #v[.t 0, .t 1, .s 0, .s 1] vd vs vt s).commit s


end Sys2Proof.Machine
end

