-- ==== Sys2Proof/Machine/MdmxAcc.lean ====
section
/-! DEFINITION. MDMX accumulators and rounding reductions (47_mdmx_accumulator.md R450-R472). -/

namespace Sys2Proof.Machine

/-- `ACC_OB[i]` (R50). -/
def State.accObAt (s : State) (i : Fin 8) : BitVec 24 := s.accOb.get i

/-- `ACC_QH[i]` (R50). -/
def State.accQhAt (s : State) (i : Fin 4) : BitVec 48 := s.accQh.get i

/-- `ACC_OB` with the given lanes; `ACC_QH` is another bank (R50). -/
def State.setAccOb (s : State) (r : Fin 8 → BitVec 24) : State :=
  { s with accOb := #v[r 0, r 1, r 2, r 3, r 4, r 5, r 6, r 7] }

/-- `ACC_QH` with the given lanes. -/
def State.setAccQh (s : State) (r : Fin 4 → BitVec 48) : State := { s with accQh := #v[r 0, r 1, r 2, r 3] }

/-- An OB accumulator instruction: each lane from its old value, `S[i]` and `T[i]`, as exact integers, modulo 2^24
(R450, R451). -/
def mdmxAccOb (f : Int → Int → Int → Int) (vs : FprNo) (o : ObOperand) (s : State) : Effect :=
  .ofExcept s s.mdmxEnter fun _ => .completes (s.setAccOb fun i =>
    BitVec.ofInt 24 (f (s.accObAt i).toInt (obInt (laneOb (s.fgrAt vs) i)) (obInt (o.lane s i)))).advance

/-- A QH accumulator instruction, modulo 2^48 (R450, R451). -/
def mdmxAccQh (f : Int → Int → Int → Int) (vs : FprNo) (o : QhOperand) (s : State) : Effect :=
  .ofExcept s s.mdmxEnter fun _ => .completes (s.setAccQh fun i =>
    BitVec.ofInt 48 (f (s.accQhAt i).toInt (qhInt (laneQh (s.fgrAt vs) i)) (qhInt (o.lane s i)))).advance

/-- A whole write of `ACC_OB` from the patterns of the lanes (R460, R461). -/
def writeAccOb (f : BitVec 24 → Fin 8 → BitVec 24) (s : State) : Effect :=
  .ofExcept s s.mdmxEnter fun _ => .completes (s.setAccOb fun i => f (s.accObAt i) i).advance

/-- A whole write of `ACC_QH` from the patterns of the lanes (R460, R461). -/
def writeAccQh (f : BitVec 48 → Fin 4 → BitVec 48) (s : State) : Effect :=
  .ofExcept s s.mdmxEnter fun _ => .completes (s.setAccQh fun i => f (s.accQhAt i) i).advance

/-- A third of `ACC_OB` as a vector: bits `lo + 7` to `lo` of each lane (R462-R464). -/
def readAccOb (lo : Nat) (vd : FprNo) (s : State) : Effect :=
  mdmxWrite vd (fun u => packOb fun i => (u.accObAt i).extractLsb' lo 8) s

/-- A third of `ACC_QH` as a vector (R462-R464). -/
def readAccQh (lo : Nat) (vd : FprNo) (s : State) : Effect :=
  mdmxWrite vd (fun u => packQh fun i => (u.accQhAt i).extractLsb' lo 16) s

/-- Whether a reduction clamps signed (R465). -/
def reductionSigned : Reduction → Bool
  | .rzu => false
  | .rnau => false
  | .rneu => false
  | .rzs => true
  | .rnas => true
  | .rnes => true

/-- `n` of R465: `a / 2^sh` rounded to an integer by the policy, toward zero, to nearest with ties away from zero, or to
nearest with ties to even. On magnitudes: the quotient, and one more where the policy says so. -/
def reductionRounded (op : Reduction) (a : Int) (sh : Nat) : Int :=
  let m := a.natAbs
  let q := m / 2 ^ sh
  let r := m % 2 ^ sh
  let more := match op with
    | .rzu => false
    | .rzs => false
    | .rnau => decide (2 ^ sh ≤ 2 * r)
    | .rnas => decide (2 ^ sh ≤ 2 * r)
    | .rneu => decide (2 ^ sh < 2 * r) || (decide (2 ^ sh = 2 * r) && q % 2 == 1)
    | .rnes => decide (2 ^ sh < 2 * r) || (decide (2 ^ sh = 2 * r) && q % 2 == 1)
  let n : Int := if more then q + 1 else q
  if a < 0 then -n else n

/-- A lane of an OB reduction (R465); OB has unsigned policies only. -/
def reductionLaneOb (op : Reduction) (a : BitVec 24) (sh : BitVec 8) : BitVec 8 :=
  BitVec.ofInt 8 (clampInt 0 255 (reductionRounded op a.toInt sh.toNat))

/-- A lane of a QH reduction (R465); a negative shift gives a free value (R470, log 7). -/
def reductionLaneQh (op : Reduction) (a : BitVec 48) (sh : BitVec 16) : BitVec 16 :=
  if sh.toInt < 0 then Config.unpredictable16 a sh op
  else
    let n := reductionRounded op a.toInt sh.toNat
    BitVec.ofInt 16 (if reductionSigned op then clampInt (-32768) 32767 n else clampInt 0 65535 n)

/-- An OB rounding reduction (R465). -/
def reduceOb (op : Reduction) (vd : FprNo) (o : ObOperand) (s : State) : Effect :=
  mdmxWrite vd (fun u => packOb fun i => reductionLaneOb op (u.accObAt i) (o.lane u i)) s

/-- A QH rounding reduction (R465). -/
def reduceQh (op : Reduction) (vd : FprNo) (o : QhOperand) (s : State) : Effect :=
  mdmxWrite vd (fun u => packQh fun i => reductionLaneQh op (u.accQhAt i) (o.lane u i)) s

/-- MULA.OB by element (R452). -/
def execMulaObE (vs : FprNo) (vt : FprNo) (e : BitVec 3) (s : State) : Host.Outcome State Fault Refusal :=
  (mdmxAccOb (fun acc a t => acc + a * t) vs (.element vt e) s).commit s

/-- MULA.OB by vector (R452). -/
def execMulaObV (vs : FprNo) (vt : FprNo) (s : State) : Host.Outcome State Fault Refusal :=
  (mdmxAccOb (fun acc a t => acc + a * t) vs (.vector vt) s).commit s

/-- MULA.OB by immediate (R452). -/
def execMulaObI (vs : FprNo) (imm5 : BitVec 5) (s : State) : Host.Outcome State Fault Refusal :=
  (mdmxAccOb (fun acc a t => acc + a * t) vs (.immediate imm5) s).commit s

/-- MULA.QH by element (R452). -/
def execMulaQhE (vs : FprNo) (vt : FprNo) (e : BitVec 2) (s : State) : Host.Outcome State Fault Refusal :=
  (mdmxAccQh (fun acc a t => acc + a * t) vs (.element vt e) s).commit s

/-- MULA.QH by vector (R452). -/
def execMulaQhV (vs : FprNo) (vt : FprNo) (s : State) : Host.Outcome State Fault Refusal :=
  (mdmxAccQh (fun acc a t => acc + a * t) vs (.vector vt) s).commit s

/-- MULA.QH by immediate (R452). -/
def execMulaQhI (vs : FprNo) (imm5 : BitVec 5) (s : State) : Host.Outcome State Fault Refusal :=
  (mdmxAccQh (fun acc a t => acc + a * t) vs (.immediate imm5) s).commit s

/-- MULS.OB by element (R453). -/
def execMulsObE (vs : FprNo) (vt : FprNo) (e : BitVec 3) (s : State) : Host.Outcome State Fault Refusal :=
  (mdmxAccOb (fun acc a t => acc - a * t) vs (.element vt e) s).commit s

/-- MULS.OB by vector (R453). -/
def execMulsObV (vs : FprNo) (vt : FprNo) (s : State) : Host.Outcome State Fault Refusal :=
  (mdmxAccOb (fun acc a t => acc - a * t) vs (.vector vt) s).commit s

/-- MULS.OB by immediate (R453). -/
def execMulsObI (vs : FprNo) (imm5 : BitVec 5) (s : State) : Host.Outcome State Fault Refusal :=
  (mdmxAccOb (fun acc a t => acc - a * t) vs (.immediate imm5) s).commit s

/-- MULS.QH by element (R453). -/
def execMulsQhE (vs : FprNo) (vt : FprNo) (e : BitVec 2) (s : State) : Host.Outcome State Fault Refusal :=
  (mdmxAccQh (fun acc a t => acc - a * t) vs (.element vt e) s).commit s

/-- MULS.QH by vector (R453). -/
def execMulsQhV (vs : FprNo) (vt : FprNo) (s : State) : Host.Outcome State Fault Refusal :=
  (mdmxAccQh (fun acc a t => acc - a * t) vs (.vector vt) s).commit s

/-- MULS.QH by immediate (R453). -/
def execMulsQhI (vs : FprNo) (imm5 : BitVec 5) (s : State) : Host.Outcome State Fault Refusal :=
  (mdmxAccQh (fun acc a t => acc - a * t) vs (.immediate imm5) s).commit s

/-- MULL.OB by element (R454). -/
def execMullObE (vs : FprNo) (vt : FprNo) (e : BitVec 3) (s : State) : Host.Outcome State Fault Refusal :=
  (mdmxAccOb (fun _ a t => a * t) vs (.element vt e) s).commit s

/-- MULL.OB by vector (R454). -/
def execMullObV (vs : FprNo) (vt : FprNo) (s : State) : Host.Outcome State Fault Refusal :=
  (mdmxAccOb (fun _ a t => a * t) vs (.vector vt) s).commit s

/-- MULL.OB by immediate (R454). -/
def execMullObI (vs : FprNo) (imm5 : BitVec 5) (s : State) : Host.Outcome State Fault Refusal :=
  (mdmxAccOb (fun _ a t => a * t) vs (.immediate imm5) s).commit s

/-- MULL.QH by element (R454). -/
def execMullQhE (vs : FprNo) (vt : FprNo) (e : BitVec 2) (s : State) : Host.Outcome State Fault Refusal :=
  (mdmxAccQh (fun _ a t => a * t) vs (.element vt e) s).commit s

/-- MULL.QH by vector (R454). -/
def execMullQhV (vs : FprNo) (vt : FprNo) (s : State) : Host.Outcome State Fault Refusal :=
  (mdmxAccQh (fun _ a t => a * t) vs (.vector vt) s).commit s

/-- MULL.QH by immediate (R454). -/
def execMullQhI (vs : FprNo) (imm5 : BitVec 5) (s : State) : Host.Outcome State Fault Refusal :=
  (mdmxAccQh (fun _ a t => a * t) vs (.immediate imm5) s).commit s

/-- MULSL.OB by element (R455). -/
def execMulslObE (vs : FprNo) (vt : FprNo) (e : BitVec 3) (s : State) : Host.Outcome State Fault Refusal :=
  (mdmxAccOb (fun _ a t => -(a * t)) vs (.element vt e) s).commit s

/-- MULSL.OB by vector (R455). -/
def execMulslObV (vs : FprNo) (vt : FprNo) (s : State) : Host.Outcome State Fault Refusal :=
  (mdmxAccOb (fun _ a t => -(a * t)) vs (.vector vt) s).commit s

/-- MULSL.OB by immediate (R455). -/
def execMulslObI (vs : FprNo) (imm5 : BitVec 5) (s : State) : Host.Outcome State Fault Refusal :=
  (mdmxAccOb (fun _ a t => -(a * t)) vs (.immediate imm5) s).commit s

/-- MULSL.QH by element (R455). -/
def execMulslQhE (vs : FprNo) (vt : FprNo) (e : BitVec 2) (s : State) : Host.Outcome State Fault Refusal :=
  (mdmxAccQh (fun _ a t => -(a * t)) vs (.element vt e) s).commit s

/-- MULSL.QH by vector (R455). -/
def execMulslQhV (vs : FprNo) (vt : FprNo) (s : State) : Host.Outcome State Fault Refusal :=
  (mdmxAccQh (fun _ a t => -(a * t)) vs (.vector vt) s).commit s

/-- MULSL.QH by immediate (R455). -/
def execMulslQhI (vs : FprNo) (imm5 : BitVec 5) (s : State) : Host.Outcome State Fault Refusal :=
  (mdmxAccQh (fun _ a t => -(a * t)) vs (.immediate imm5) s).commit s

/-- ADDA.OB by element (R456). -/
def execAddaObE (vs : FprNo) (vt : FprNo) (e : BitVec 3) (s : State) : Host.Outcome State Fault Refusal :=
  (mdmxAccOb (fun acc a t => acc + a + t) vs (.element vt e) s).commit s

/-- ADDA.OB by vector (R456). -/
def execAddaObV (vs : FprNo) (vt : FprNo) (s : State) : Host.Outcome State Fault Refusal :=
  (mdmxAccOb (fun acc a t => acc + a + t) vs (.vector vt) s).commit s

/-- ADDA.OB by immediate (R456). -/
def execAddaObI (vs : FprNo) (imm5 : BitVec 5) (s : State) : Host.Outcome State Fault Refusal :=
  (mdmxAccOb (fun acc a t => acc + a + t) vs (.immediate imm5) s).commit s

/-- ADDA.QH by element (R456). -/
def execAddaQhE (vs : FprNo) (vt : FprNo) (e : BitVec 2) (s : State) : Host.Outcome State Fault Refusal :=
  (mdmxAccQh (fun acc a t => acc + a + t) vs (.element vt e) s).commit s

/-- ADDA.QH by vector (R456). -/
def execAddaQhV (vs : FprNo) (vt : FprNo) (s : State) : Host.Outcome State Fault Refusal :=
  (mdmxAccQh (fun acc a t => acc + a + t) vs (.vector vt) s).commit s

/-- ADDA.QH by immediate (R456). -/
def execAddaQhI (vs : FprNo) (imm5 : BitVec 5) (s : State) : Host.Outcome State Fault Refusal :=
  (mdmxAccQh (fun acc a t => acc + a + t) vs (.immediate imm5) s).commit s

/-- ADDL.OB by element (R457). -/
def execAddlObE (vs : FprNo) (vt : FprNo) (e : BitVec 3) (s : State) : Host.Outcome State Fault Refusal :=
  (mdmxAccOb (fun _ a t => a + t) vs (.element vt e) s).commit s

/-- ADDL.OB by vector (R457). -/
def execAddlObV (vs : FprNo) (vt : FprNo) (s : State) : Host.Outcome State Fault Refusal :=
  (mdmxAccOb (fun _ a t => a + t) vs (.vector vt) s).commit s

/-- ADDL.OB by immediate (R457). -/
def execAddlObI (vs : FprNo) (imm5 : BitVec 5) (s : State) : Host.Outcome State Fault Refusal :=
  (mdmxAccOb (fun _ a t => a + t) vs (.immediate imm5) s).commit s

/-- ADDL.QH by element (R457). -/
def execAddlQhE (vs : FprNo) (vt : FprNo) (e : BitVec 2) (s : State) : Host.Outcome State Fault Refusal :=
  (mdmxAccQh (fun _ a t => a + t) vs (.element vt e) s).commit s

/-- ADDL.QH by vector (R457). -/
def execAddlQhV (vs : FprNo) (vt : FprNo) (s : State) : Host.Outcome State Fault Refusal :=
  (mdmxAccQh (fun _ a t => a + t) vs (.vector vt) s).commit s

/-- ADDL.QH by immediate (R457). -/
def execAddlQhI (vs : FprNo) (imm5 : BitVec 5) (s : State) : Host.Outcome State Fault Refusal :=
  (mdmxAccQh (fun _ a t => a + t) vs (.immediate imm5) s).commit s

/-- SUBA.OB by element (R458). -/
def execSubaObE (vs : FprNo) (vt : FprNo) (e : BitVec 3) (s : State) : Host.Outcome State Fault Refusal :=
  (mdmxAccOb (fun acc a t => acc + a - t) vs (.element vt e) s).commit s

/-- SUBA.OB by vector (R458). -/
def execSubaObV (vs : FprNo) (vt : FprNo) (s : State) : Host.Outcome State Fault Refusal :=
  (mdmxAccOb (fun acc a t => acc + a - t) vs (.vector vt) s).commit s

/-- SUBA.OB by immediate (R458). -/
def execSubaObI (vs : FprNo) (imm5 : BitVec 5) (s : State) : Host.Outcome State Fault Refusal :=
  (mdmxAccOb (fun acc a t => acc + a - t) vs (.immediate imm5) s).commit s

/-- SUBA.QH by element (R458). -/
def execSubaQhE (vs : FprNo) (vt : FprNo) (e : BitVec 2) (s : State) : Host.Outcome State Fault Refusal :=
  (mdmxAccQh (fun acc a t => acc + a - t) vs (.element vt e) s).commit s

/-- SUBA.QH by vector (R458). -/
def execSubaQhV (vs : FprNo) (vt : FprNo) (s : State) : Host.Outcome State Fault Refusal :=
  (mdmxAccQh (fun acc a t => acc + a - t) vs (.vector vt) s).commit s

/-- SUBA.QH by immediate (R458). -/
def execSubaQhI (vs : FprNo) (imm5 : BitVec 5) (s : State) : Host.Outcome State Fault Refusal :=
  (mdmxAccQh (fun acc a t => acc + a - t) vs (.immediate imm5) s).commit s

/-- SUBL.OB by element (R459). -/
def execSublObE (vs : FprNo) (vt : FprNo) (e : BitVec 3) (s : State) : Host.Outcome State Fault Refusal :=
  (mdmxAccOb (fun _ a t => a - t) vs (.element vt e) s).commit s

/-- SUBL.OB by vector (R459). -/
def execSublObV (vs : FprNo) (vt : FprNo) (s : State) : Host.Outcome State Fault Refusal :=
  (mdmxAccOb (fun _ a t => a - t) vs (.vector vt) s).commit s

/-- SUBL.OB by immediate (R459). -/
def execSublObI (vs : FprNo) (imm5 : BitVec 5) (s : State) : Host.Outcome State Fault Refusal :=
  (mdmxAccOb (fun _ a t => a - t) vs (.immediate imm5) s).commit s

/-- SUBL.QH by element (R459). -/
def execSublQhE (vs : FprNo) (vt : FprNo) (e : BitVec 2) (s : State) : Host.Outcome State Fault Refusal :=
  (mdmxAccQh (fun _ a t => a - t) vs (.element vt e) s).commit s

/-- SUBL.QH by vector (R459). -/
def execSublQhV (vs : FprNo) (vt : FprNo) (s : State) : Host.Outcome State Fault Refusal :=
  (mdmxAccQh (fun _ a t => a - t) vs (.vector vt) s).commit s

/-- SUBL.QH by immediate (R459). -/
def execSublQhI (vs : FprNo) (imm5 : BitVec 5) (s : State) : Host.Outcome State Fault Refusal :=
  (mdmxAccQh (fun _ a t => a - t) vs (.immediate imm5) s).commit s

/-- WACL.OB (R460): the sign of the middle third fills the high third. -/
def execWaclOb (vs vt : FprNo) (s : State) : Host.Outcome State Fault Refusal :=
  (writeAccOb (fun _ i => (laneOb (s.fgrAt vs) i ++ laneOb (s.fgrAt vt) i).signExtend 24) s).commit s

/-- WACL.QH (R460). -/
def execWaclQh (vs vt : FprNo) (s : State) : Host.Outcome State Fault Refusal :=
  (writeAccQh (fun _ i => (laneQh (s.fgrAt vs) i ++ laneQh (s.fgrAt vt) i).signExtend 48) s).commit s

/-- WACH.OB (R461): the lower two thirds are unchanged. -/
def execWachOb (vs : FprNo) (s : State) : Host.Outcome State Fault Refusal :=
  (writeAccOb (fun acc i => laneOb (s.fgrAt vs) i ++ acc.extractLsb' 0 16) s).commit s

/-- WACH.QH (R461). -/
def execWachQh (vs : FprNo) (s : State) : Host.Outcome State Fault Refusal :=
  (writeAccQh (fun acc i => laneQh (s.fgrAt vs) i ++ acc.extractLsb' 0 32) s).commit s

/-- RACL.OB (R462). -/
def execRaclOb (vd : FprNo) (s : State) : Host.Outcome State Fault Refusal :=
  (readAccOb 0 vd s).commit s

/-- RACL.QH (R462). -/
def execRaclQh (vd : FprNo) (s : State) : Host.Outcome State Fault Refusal :=
  (readAccQh 0 vd s).commit s

/-- RACM.OB (R463). -/
def execRacmOb (vd : FprNo) (s : State) : Host.Outcome State Fault Refusal :=
  (readAccOb 8 vd s).commit s

/-- RACM.QH (R463). -/
def execRacmQh (vd : FprNo) (s : State) : Host.Outcome State Fault Refusal :=
  (readAccQh 16 vd s).commit s

/-- RACH.OB (R464). -/
def execRachOb (vd : FprNo) (s : State) : Host.Outcome State Fault Refusal :=
  (readAccOb 16 vd s).commit s

/-- RACH.QH (R464). -/
def execRachQh (vd : FprNo) (s : State) : Host.Outcome State Fault Refusal :=
  (readAccQh 32 vd s).commit s

/-- RZU.OB by element (R466). -/
def execRzuObE (vd : FprNo) (vt : FprNo) (e : BitVec 3) (s : State) : Host.Outcome State Fault Refusal :=
  (reduceOb .rzu vd (.element vt e) s).commit s

/-- RZU.OB by vector (R466). -/
def execRzuObV (vd : FprNo) (vt : FprNo) (s : State) : Host.Outcome State Fault Refusal :=
  (reduceOb .rzu vd (.vector vt) s).commit s

/-- RZU.OB by immediate (R466). -/
def execRzuObI (vd : FprNo) (imm5 : BitVec 5) (s : State) : Host.Outcome State Fault Refusal :=
  (reduceOb .rzu vd (.immediate imm5) s).commit s

/-- RZU.QH by element (R466). -/
def execRzuQhE (vd : FprNo) (vt : FprNo) (e : BitVec 2) (s : State) : Host.Outcome State Fault Refusal :=
  (reduceQh .rzu vd (.element vt e) s).commit s

/-- RZU.QH by vector (R466). -/
def execRzuQhV (vd : FprNo) (vt : FprNo) (s : State) : Host.Outcome State Fault Refusal :=
  (reduceQh .rzu vd (.vector vt) s).commit s

/-- RZU.QH by immediate (R466). -/
def execRzuQhI (vd : FprNo) (imm5 : BitVec 5) (s : State) : Host.Outcome State Fault Refusal :=
  (reduceQh .rzu vd (.immediate imm5) s).commit s

/-- RNAU.OB by element (R467). -/
def execRnauObE (vd : FprNo) (vt : FprNo) (e : BitVec 3) (s : State) : Host.Outcome State Fault Refusal :=
  (reduceOb .rnau vd (.element vt e) s).commit s

/-- RNAU.OB by vector (R467). -/
def execRnauObV (vd : FprNo) (vt : FprNo) (s : State) : Host.Outcome State Fault Refusal :=
  (reduceOb .rnau vd (.vector vt) s).commit s

/-- RNAU.OB by immediate (R467). -/
def execRnauObI (vd : FprNo) (imm5 : BitVec 5) (s : State) : Host.Outcome State Fault Refusal :=
  (reduceOb .rnau vd (.immediate imm5) s).commit s

/-- RNAU.QH by element (R467). -/
def execRnauQhE (vd : FprNo) (vt : FprNo) (e : BitVec 2) (s : State) : Host.Outcome State Fault Refusal :=
  (reduceQh .rnau vd (.element vt e) s).commit s

/-- RNAU.QH by vector (R467). -/
def execRnauQhV (vd : FprNo) (vt : FprNo) (s : State) : Host.Outcome State Fault Refusal :=
  (reduceQh .rnau vd (.vector vt) s).commit s

/-- RNAU.QH by immediate (R467). -/
def execRnauQhI (vd : FprNo) (imm5 : BitVec 5) (s : State) : Host.Outcome State Fault Refusal :=
  (reduceQh .rnau vd (.immediate imm5) s).commit s

/-- RNEU.OB by element (R468). -/
def execRneuObE (vd : FprNo) (vt : FprNo) (e : BitVec 3) (s : State) : Host.Outcome State Fault Refusal :=
  (reduceOb .rneu vd (.element vt e) s).commit s

/-- RNEU.OB by vector (R468). -/
def execRneuObV (vd : FprNo) (vt : FprNo) (s : State) : Host.Outcome State Fault Refusal :=
  (reduceOb .rneu vd (.vector vt) s).commit s

/-- RNEU.OB by immediate (R468). -/
def execRneuObI (vd : FprNo) (imm5 : BitVec 5) (s : State) : Host.Outcome State Fault Refusal :=
  (reduceOb .rneu vd (.immediate imm5) s).commit s

/-- RNEU.QH by element (R468). -/
def execRneuQhE (vd : FprNo) (vt : FprNo) (e : BitVec 2) (s : State) : Host.Outcome State Fault Refusal :=
  (reduceQh .rneu vd (.element vt e) s).commit s

/-- RNEU.QH by vector (R468). -/
def execRneuQhV (vd : FprNo) (vt : FprNo) (s : State) : Host.Outcome State Fault Refusal :=
  (reduceQh .rneu vd (.vector vt) s).commit s

/-- RNEU.QH by immediate (R468). -/
def execRneuQhI (vd : FprNo) (imm5 : BitVec 5) (s : State) : Host.Outcome State Fault Refusal :=
  (reduceQh .rneu vd (.immediate imm5) s).commit s

/-- RZS.QH by element (R469). -/
def execRzsQhE (vd : FprNo) (vt : FprNo) (e : BitVec 2) (s : State) : Host.Outcome State Fault Refusal :=
  (reduceQh .rzs vd (.element vt e) s).commit s

/-- RZS.QH by vector (R469). -/
def execRzsQhV (vd : FprNo) (vt : FprNo) (s : State) : Host.Outcome State Fault Refusal :=
  (reduceQh .rzs vd (.vector vt) s).commit s

/-- RZS.QH by immediate (R469). -/
def execRzsQhI (vd : FprNo) (imm5 : BitVec 5) (s : State) : Host.Outcome State Fault Refusal :=
  (reduceQh .rzs vd (.immediate imm5) s).commit s

/-- RNAS.QH by element (R471). -/
def execRnasQhE (vd : FprNo) (vt : FprNo) (e : BitVec 2) (s : State) : Host.Outcome State Fault Refusal :=
  (reduceQh .rnas vd (.element vt e) s).commit s

/-- RNAS.QH by vector (R471). -/
def execRnasQhV (vd : FprNo) (vt : FprNo) (s : State) : Host.Outcome State Fault Refusal :=
  (reduceQh .rnas vd (.vector vt) s).commit s

/-- RNAS.QH by immediate (R471). -/
def execRnasQhI (vd : FprNo) (imm5 : BitVec 5) (s : State) : Host.Outcome State Fault Refusal :=
  (reduceQh .rnas vd (.immediate imm5) s).commit s

/-- RNES.QH by element (R472). -/
def execRnesQhE (vd : FprNo) (vt : FprNo) (e : BitVec 2) (s : State) : Host.Outcome State Fault Refusal :=
  (reduceQh .rnes vd (.element vt e) s).commit s

/-- RNES.QH by vector (R472). -/
def execRnesQhV (vd : FprNo) (vt : FprNo) (s : State) : Host.Outcome State Fault Refusal :=
  (reduceQh .rnes vd (.vector vt) s).commit s

/-- RNES.QH by immediate (R472). -/
def execRnesQhI (vd : FprNo) (imm5 : BitVec 5) (s : State) : Host.Outcome State Fault Refusal :=
  (reduceQh .rnes vd (.immediate imm5) s).commit s


end Sys2Proof.Machine
end

