-- ==== Sys2Proof/Machine/Shift.lean ====
section
/-! DEFINITION. Shifts (41_integer.md R185-R199). -/

namespace Sys2Proof.Machine

/-- The amount of a variable 32-bit shift, `x[rs][4:0]` (R188). -/
def State.shiftAmount5 (s : State) (rs : GprNo) : Nat := ((s.readGpr rs).extractLsb' 0 5).toNat

/-- The amount of a variable 64-bit shift, `x[rs][5:0]` (R197). -/
def State.shiftAmount6 (s : State) (rs : GprNo) : Nat := ((s.readGpr rs).extractLsb' 0 6).toNat

/-- SLL (R185). -/
def execSll (rd rt : GprNo) (sa : BitVec 5) (s : State) : Host.Outcome State Fault Refusal :=
  (writeAndAdvance rd (signExt32 ((s.readGprLow rt) <<< sa.toNat)) s).commit s

/-- SRL (R186). -/
def execSrl (rd rt : GprNo) (sa : BitVec 5) (s : State) : Host.Outcome State Fault Refusal :=
  (writeAndAdvance rd (signExt32 ((s.readGprLow rt) >>> sa.toNat)) s).commit s

/-- SRA (R187). -/
def execSra (rd rt : GprNo) (sa : BitVec 5) (s : State) : Host.Outcome State Fault Refusal :=
  (writeAndAdvance rd (signExt32 ((s.readGprLow rt).sshiftRight sa.toNat)) s).commit s

/-- SLLV (R188). -/
def execSllv (rd rt rs : GprNo) (s : State) : Host.Outcome State Fault Refusal :=
  (writeAndAdvance rd (signExt32 ((s.readGprLow rt) <<< s.shiftAmount5 rs)) s).commit s

/-- SRLV (R189). -/
def execSrlv (rd rt rs : GprNo) (s : State) : Host.Outcome State Fault Refusal :=
  (writeAndAdvance rd (signExt32 ((s.readGprLow rt) >>> s.shiftAmount5 rs)) s).commit s

/-- SRAV (R190). -/
def execSrav (rd rt rs : GprNo) (s : State) : Host.Outcome State Fault Refusal :=
  (writeAndAdvance rd (signExt32 ((s.readGprLow rt).sshiftRight (s.shiftAmount5 rs))) s).commit s

/-- DSLL (R191). -/
def execDsll (rd rt : GprNo) (sa : BitVec 5) (s : State) : Host.Outcome State Fault Refusal :=
  (writeAndAdvance rd (s.readGpr rt <<< sa.toNat) s).commit s

/-- DSRL (R192). -/
def execDsrl (rd rt : GprNo) (sa : BitVec 5) (s : State) : Host.Outcome State Fault Refusal :=
  (writeAndAdvance rd (s.readGpr rt >>> sa.toNat) s).commit s

/-- DSRA (R193). -/
def execDsra (rd rt : GprNo) (sa : BitVec 5) (s : State) : Host.Outcome State Fault Refusal :=
  (writeAndAdvance rd ((s.readGpr rt).sshiftRight sa.toNat) s).commit s

/-- DSLL32 (R194). -/
def execDsll32 (rd rt : GprNo) (sa : BitVec 5) (s : State) : Host.Outcome State Fault Refusal :=
  (writeAndAdvance rd (s.readGpr rt <<< (sa.toNat + 32)) s).commit s

/-- DSRL32 (R195). -/
def execDsrl32 (rd rt : GprNo) (sa : BitVec 5) (s : State) : Host.Outcome State Fault Refusal :=
  (writeAndAdvance rd (s.readGpr rt >>> (sa.toNat + 32)) s).commit s

/-- DSRA32 (R196). -/
def execDsra32 (rd rt : GprNo) (sa : BitVec 5) (s : State) : Host.Outcome State Fault Refusal :=
  (writeAndAdvance rd ((s.readGpr rt).sshiftRight (sa.toNat + 32)) s).commit s

/-- DSLLV (R197). -/
def execDsllv (rd rt rs : GprNo) (s : State) : Host.Outcome State Fault Refusal :=
  (writeAndAdvance rd (s.readGpr rt <<< s.shiftAmount6 rs) s).commit s

/-- DSRLV (R198). -/
def execDsrlv (rd rt rs : GprNo) (s : State) : Host.Outcome State Fault Refusal :=
  (writeAndAdvance rd (s.readGpr rt >>> s.shiftAmount6 rs) s).commit s

/-- DSRAV (R199). -/
def execDsrav (rd rt rs : GprNo) (s : State) : Host.Outcome State Fault Refusal :=
  (writeAndAdvance rd ((s.readGpr rt).sshiftRight (s.shiftAmount6 rs)) s).commit s


end Sys2Proof.Machine
end

