-- ==== Sys2Proof/Machine/System.lean ====
section
/-! DEFINITION. System instructions (48_system.md R480-R488). -/

namespace Sys2Proof.Machine

/-- The CP0 instructions: privilege first, then the rest (48_system.md section 2, R505). -/
def withCp0 (f : State → Effect) (s : State) : Effect := if s.cp0Usable then f s else .raises (.cpU 0#2) s

/-- A move from CP0: an unimplemented register raises ReservedInstruction (R484, R485). -/
def moveFromCp0 (rt : GprNo) (rd : BitVec 5) (f : Word → Word) (s : State) : Effect :=
  withCp0 (fun t =>
    match t.readCp0 rd with
    | some v => writeAndAdvance rt (f v) t
    | none => .raises .ri t) s

/-- A move to CP0: an unimplemented register raises ReservedInstruction, a read-only one ignores the write (R486,
R487). -/
def moveToCp0 (rd : BitVec 5) (v : Word) (s : State) : Effect :=
  withCp0 (fun t => if (t.readCp0 rd).isSome then .completes (t.writeCp0 rd v).advance else .raises .ri t) s

/-- SYSCALL (R480): the code is ignored. -/
def execSyscall (_code : BitVec 20) (s : State) : Host.Outcome State Fault Refusal :=
  (Effect.raises .sys s).commit s

/-- BREAK (R481). -/
def execBrk (_code : BitVec 20) (s : State) : Host.Outcome State Fault Refusal :=
  (Effect.raises .bp s).commit s

/-- HALT (R482). -/
def execHalt (s : State) : Host.Outcome State Fault Refusal :=
  (Effect.completes { s with run := .halted }.advance).commit s

/-- SYNC (R483, R102): every access is ordered already, so it only advances the PC. -/
def execSync (s : State) : Host.Outcome State Fault Refusal :=
  (Effect.completes s.advance).commit s

/-- MFC0 (R484). -/
def execMfc0 (rt : GprNo) (rd : BitVec 5) (s : State) : Host.Outcome State Fault Refusal :=
  (moveFromCp0 rt rd (fun v => signExt32 (v.extractLsb' 0 32)) s).commit s

/-- DMFC0 (R485). -/
def execDmfc0 (rt : GprNo) (rd : BitVec 5) (s : State) : Host.Outcome State Fault Refusal :=
  (moveFromCp0 rt rd id s).commit s

/-- MTC0 (R486). -/
def execMtc0 (rt : GprNo) (rd : BitVec 5) (s : State) : Host.Outcome State Fault Refusal :=
  (moveToCp0 rd (signExt32 (s.readGprLow rt)) s).commit s

/-- DMTC0 (R487). -/
def execDmtc0 (rt : GprNo) (rd : BitVec 5) (s : State) : Host.Outcome State Fault Refusal :=
  (moveToCp0 rd (s.readGpr rt) s).commit s

/-- ERET (R488). -/
def execEret (s : State) : Host.Outcome State Fault Refusal :=
  (withCp0 (fun t => .completes (returnFromException t)) s).commit s


end Sys2Proof.Machine
end

