-- ==== Sys2Proof/Syntax.lean ====
section
/-! DEFINITION. The instructions of CORE: one constructor per row of spec/opcode_table.json (30_encoding.md R118).

Operands stand in the order of the assembler syntax (R130); a field holds the bits of the encoding, so an immediate is
not yet extended (R113) and a register field is its number (R114). -/

namespace Sys2Proof

/-- An instruction of CORE (R111, R118). Each constructor's comment names its mnemonic and the rule of its meaning. -/
inductive Instr where
  -- Integer shifts, 41_integer.md section 5.
  | sll (rd rt : GprNo) (sa : BitVec 5)  -- SLL, R185
  | srl (rd rt : GprNo) (sa : BitVec 5)  -- SRL, R186
  | sra (rd rt : GprNo) (sa : BitVec 5)  -- SRA, R187
  | dsll (rd rt : GprNo) (sa : BitVec 5)  -- DSLL, R191
  | dsrl (rd rt : GprNo) (sa : BitVec 5)  -- DSRL, R192
  | dsra (rd rt : GprNo) (sa : BitVec 5)  -- DSRA, R193
  | dsll32 (rd rt : GprNo) (sa : BitVec 5)  -- DSLL32, R194
  | dsrl32 (rd rt : GprNo) (sa : BitVec 5)  -- DSRL32, R195
  | dsra32 (rd rt : GprNo) (sa : BitVec 5)  -- DSRA32, R196
  | sllv (rd rt rs : GprNo)  -- SLLV, R188
  | srlv (rd rt rs : GprNo)  -- SRLV, R189
  | srav (rd rt rs : GprNo)  -- SRAV, R190
  | dsllv (rd rt rs : GprNo)  -- DSLLV, R197
  | dsrlv (rd rt rs : GprNo)  -- DSRLV, R198
  | dsrav (rd rt rs : GprNo)  -- DSRAV, R199
  -- Integer arithmetic, set on less than and logic, register forms, 41_integer.md sections 2 to 4.
  | add (rd rs rt : GprNo)  -- ADD, R161
  | addu (rd rs rt : GprNo)  -- ADDU, R162
  | sub (rd rs rt : GprNo)  -- SUB, R163
  | subu (rd rs rt : GprNo)  -- SUBU, R164
  | and (rd rs rt : GprNo)  -- AND, R177
  | or (rd rs rt : GprNo)  -- OR, R178
  | xor (rd rs rt : GprNo)  -- XOR, R179
  | nor (rd rs rt : GprNo)  -- NOR, R180
  | slt (rd rs rt : GprNo)  -- SLT, R173
  | sltu (rd rs rt : GprNo)  -- SLTU, R174
  | dadd (rd rs rt : GprNo)  -- DADD, R165
  | daddu (rd rs rt : GprNo)  -- DADDU, R166
  | dsub (rd rs rt : GprNo)  -- DSUB, R167
  | dsubu (rd rs rt : GprNo)  -- DSUBU, R168
  -- Jumps through a register, 42_control_transfer.md.
  | jr (rs : GprNo)  -- JR, R224
  | jalr (rd rs : GprNo)  -- JALR, R225
  -- System calls, halt and barrier, 48_system.md section 1.
  | syscall (code : BitVec 20)  -- SYSCALL, R480
  | brk (code : BitVec 20)  -- BREAK, R481
  | halt  -- HALT, R482
  | sync  -- SYNC, R483
  -- Branches and jumps, 42_control_transfer.md.
  | bltz (rs : GprNo) (imm : BitVec 16)  -- BLTZ, R230
  | bgez (rs : GprNo) (imm : BitVec 16)  -- BGEZ, R231
  | j (index : BitVec 26)  -- J, R222
  | jal (index : BitVec 26)  -- JAL, R223
  | beq (rs rt : GprNo) (imm : BitVec 16)  -- BEQ, R226
  | bne (rs rt : GprNo) (imm : BitVec 16)  -- BNE, R227
  | blez (rs : GprNo) (imm : BitVec 16)  -- BLEZ, R228
  | bgtz (rs : GprNo) (imm : BitVec 16)  -- BGTZ, R229
  -- Integer immediate forms, 41_integer.md.
  | addi (rt rs : GprNo) (imm : BitVec 16)  -- ADDI, R169
  | addiu (rt rs : GprNo) (imm : BitVec 16)  -- ADDIU, R170
  | slti (rt rs : GprNo) (imm : BitVec 16)  -- SLTI, R175
  | sltiu (rt rs : GprNo) (imm : BitVec 16)  -- SLTIU, R176
  | andi (rt rs : GprNo) (imm : BitVec 16)  -- ANDI, R181
  | ori (rt rs : GprNo) (imm : BitVec 16)  -- ORI, R182
  | xori (rt rs : GprNo) (imm : BitVec 16)  -- XORI, R183
  | daddi (rt rs : GprNo) (imm : BitVec 16)  -- DADDI, R171
  | daddiu (rt rs : GprNo) (imm : BitVec 16)  -- DADDIU, R172
  | lui (rt : GprNo) (imm : BitVec 16)  -- LUI, R184
  -- Loads and stores, 43_load_store.md.
  | lb (rt base : GprNo) (imm : BitVec 16)  -- LB, R242
  | lbu (rt base : GprNo) (imm : BitVec 16)  -- LBU, R243
  | lh (rt base : GprNo) (imm : BitVec 16)  -- LH, R244
  | lhu (rt base : GprNo) (imm : BitVec 16)  -- LHU, R245
  | lw (rt base : GprNo) (imm : BitVec 16)  -- LW, R246
  | lwu (rt base : GprNo) (imm : BitVec 16)  -- LWU, R247
  | ld (rt base : GprNo) (imm : BitVec 16)  -- LD, R248
  | sb (rt base : GprNo) (imm : BitVec 16)  -- SB, R249
  | sh (rt base : GprNo) (imm : BitVec 16)  -- SH, R250
  | sw (rt base : GprNo) (imm : BitVec 16)  -- SW, R251
  | sd (rt base : GprNo) (imm : BitVec 16)  -- SD, R252
  | ll (rt base : GprNo) (imm : BitVec 16)  -- LL, R253
  | lld (rt base : GprNo) (imm : BitVec 16)  -- LLD, R254
  | sc (rt base : GprNo) (imm : BitVec 16)  -- SC, R255
  | scd (rt base : GprNo) (imm : BitVec 16)  -- SCD, R265
  | lwl (rt base : GprNo) (imm : BitVec 16)  -- LWL, R257
  | lwr (rt base : GprNo) (imm : BitVec 16)  -- LWR, R258
  | ldl (rt base : GprNo) (imm : BitVec 16)  -- LDL, R259
  | ldr (rt base : GprNo) (imm : BitVec 16)  -- LDR, R260
  | swl (rt base : GprNo) (imm : BitVec 16)  -- SWL, R261
  | swr (rt base : GprNo) (imm : BitVec 16)  -- SWR, R262
  | sdl (rt base : GprNo) (imm : BitVec 16)  -- SDL, R263
  | sdr (rt base : GprNo) (imm : BitVec 16)  -- SDR, R264
  | lwc1 (ft : FprNo) (base : GprNo) (imm : BitVec 16)  -- LWC1, R266
  | ldc1 (ft : FprNo) (base : GprNo) (imm : BitVec 16)  -- LDC1, R267
  | swc1 (ft : FprNo) (base : GprNo) (imm : BitVec 16)  -- SWC1, R268
  | sdc1 (ft : FprNo) (base : GprNo) (imm : BitVec 16)  -- SDC1, R269
  -- CP0 moves and exception return, 48_system.md sections 2 and 3.
  | mfc0 (rt : GprNo) (rd : BitVec 5)  -- MFC0, R484
  | dmfc0 (rt : GprNo) (rd : BitVec 5)  -- DMFC0, R485
  | mtc0 (rt : GprNo) (rd : BitVec 5)  -- MTC0, R486
  | dmtc0 (rt : GprNo) (rd : BitVec 5)  -- DMTC0, R487
  | eret  -- ERET, R488
  -- FPU moves, 45_fpu_instructions.md section 2.
  | mfc1 (rt : GprNo) (fs : FprNo)  -- MFC1, R331
  | dmfc1 (rt : GprNo) (fs : FprNo)  -- DMFC1, R333
  | cfc1 (rt : GprNo) (fs : FprNo)  -- CFC1, R335
  | mtc1 (rt : GprNo) (fs : FprNo)  -- MTC1, R332
  | dmtc1 (rt : GprNo) (fs : FprNo)  -- DMTC1, R334
  | ctc1 (rt : GprNo) (fs : FprNo)  -- CTC1, R336
  -- FPU branches, 45_fpu_instructions.md section 6.
  | bc1f (cc : BitVec 3) (imm : BitVec 16)  -- BC1F, R372
  | bc1t (cc : BitVec 3) (imm : BitVec 16)  -- BC1T, R373
  -- FPU arithmetic and conversions, 45_fpu_instructions.md sections 2, 3 and 5.
  | addS (fd fs ft : FprNo)  -- ADD.S, R340
  | addD (fd fs ft : FprNo)  -- ADD.D, R340
  | addPs (fd fs ft : FprNo)  -- ADD.PS, R340
  | subS (fd fs ft : FprNo)  -- SUB.S, R341
  | subD (fd fs ft : FprNo)  -- SUB.D, R341
  | subPs (fd fs ft : FprNo)  -- SUB.PS, R341
  | mulS (fd fs ft : FprNo)  -- MUL.S, R342
  | mulD (fd fs ft : FprNo)  -- MUL.D, R342
  | mulPs (fd fs ft : FprNo)  -- MUL.PS, R342
  | divS (fd fs ft : FprNo)  -- DIV.S, R343
  | divD (fd fs ft : FprNo)  -- DIV.D, R343
  | divPs (fd fs ft : FprNo)  -- DIV.PS, R343
  | recip2S (fd fs ft : FprNo)  -- RECIP2.S, R348
  | recip2D (fd fs ft : FprNo)  -- RECIP2.D, R348
  | recip2Ps (fd fs ft : FprNo)  -- RECIP2.PS, R348
  | rsqrt2S (fd fs ft : FprNo)  -- RSQRT2.S, R349
  | rsqrt2D (fd fs ft : FprNo)  -- RSQRT2.D, R349
  | rsqrt2Ps (fd fs ft : FprNo)  -- RSQRT2.PS, R349
  | sqrtS (fd fs : FprNo)  -- SQRT.S, R344
  | sqrtD (fd fs : FprNo)  -- SQRT.D, R344
  | sqrtPs (fd fs : FprNo)  -- SQRT.PS, R344
  | absS (fd fs : FprNo)  -- ABS.S, R346
  | absD (fd fs : FprNo)  -- ABS.D, R346
  | absPs (fd fs : FprNo)  -- ABS.PS, R346
  | movS (fd fs : FprNo)  -- MOV.S, R337
  | movD (fd fs : FprNo)  -- MOV.D, R337
  | movPs (fd fs : FprNo)  -- MOV.PS, R337
  | negS (fd fs : FprNo)  -- NEG.S, R347
  | negD (fd fs : FprNo)  -- NEG.D, R347
  | negPs (fd fs : FprNo)  -- NEG.PS, R347
  | recipS (fd fs : FprNo)  -- RECIP.S, R345
  | recipD (fd fs : FprNo)  -- RECIP.D, R345
  | recipPs (fd fs : FprNo)  -- RECIP.PS, R345
  | roundLS (fd fs : FprNo)  -- ROUND.L.S, R367
  | roundLD (fd fs : FprNo)  -- ROUND.L.D, R367
  | truncLS (fd fs : FprNo)  -- TRUNC.L.S, R368
  | truncLD (fd fs : FprNo)  -- TRUNC.L.D, R368
  | ceilLS (fd fs : FprNo)  -- CEIL.L.S, R369
  | ceilLD (fd fs : FprNo)  -- CEIL.L.D, R369
  | floorLS (fd fs : FprNo)  -- FLOOR.L.S, R370
  | floorLD (fd fs : FprNo)  -- FLOOR.L.D, R370
  | roundWS (fd fs : FprNo)  -- ROUND.W.S, R363
  | roundWD (fd fs : FprNo)  -- ROUND.W.D, R363
  | truncWS (fd fs : FprNo)  -- TRUNC.W.S, R364
  | truncWD (fd fs : FprNo)  -- TRUNC.W.D, R364
  | ceilWS (fd fs : FprNo)  -- CEIL.W.S, R365
  | ceilWD (fd fs : FprNo)  -- CEIL.W.D, R365
  | floorWS (fd fs : FprNo)  -- FLOOR.W.S, R366
  | floorWD (fd fs : FprNo)  -- FLOOR.W.D, R366
  | cvtWS (fd fs : FprNo)  -- CVT.W.S, R361
  | cvtWD (fd fs : FprNo)  -- CVT.W.D, R361
  | cvtLS (fd fs : FprNo)  -- CVT.L.S, R362
  | cvtLD (fd fs : FprNo)  -- CVT.L.D, R362
  | cvtSD (fd fs : FprNo)  -- CVT.S.D, R355
  | cvtSW (fd fs : FprNo)  -- CVT.S.W, R356
  | cvtSL (fd fs : FprNo)  -- CVT.S.L, R357
  | cvtDS (fd fs : FprNo)  -- CVT.D.S, R358
  | cvtDW (fd fs : FprNo)  -- CVT.D.W, R359
  | cvtDL (fd fs : FprNo)  -- CVT.D.L, R360
  -- FPU compares, 45_fpu_instructions.md R371.
  | cFS (cc : BitVec 3) (fs ft : FprNo)  -- C.F.S, R371
  | cFD (cc : BitVec 3) (fs ft : FprNo)  -- C.F.D, R371
  | cFPs (cc : BitVec 3) (fs ft : FprNo)  -- C.F.PS, R371
  | cUnS (cc : BitVec 3) (fs ft : FprNo)  -- C.UN.S, R371
  | cUnD (cc : BitVec 3) (fs ft : FprNo)  -- C.UN.D, R371
  | cUnPs (cc : BitVec 3) (fs ft : FprNo)  -- C.UN.PS, R371
  | cEqS (cc : BitVec 3) (fs ft : FprNo)  -- C.EQ.S, R371
  | cEqD (cc : BitVec 3) (fs ft : FprNo)  -- C.EQ.D, R371
  | cEqPs (cc : BitVec 3) (fs ft : FprNo)  -- C.EQ.PS, R371
  | cUeqS (cc : BitVec 3) (fs ft : FprNo)  -- C.UEQ.S, R371
  | cUeqD (cc : BitVec 3) (fs ft : FprNo)  -- C.UEQ.D, R371
  | cUeqPs (cc : BitVec 3) (fs ft : FprNo)  -- C.UEQ.PS, R371
  | cOltS (cc : BitVec 3) (fs ft : FprNo)  -- C.OLT.S, R371
  | cOltD (cc : BitVec 3) (fs ft : FprNo)  -- C.OLT.D, R371
  | cOltPs (cc : BitVec 3) (fs ft : FprNo)  -- C.OLT.PS, R371
  | cUltS (cc : BitVec 3) (fs ft : FprNo)  -- C.ULT.S, R371
  | cUltD (cc : BitVec 3) (fs ft : FprNo)  -- C.ULT.D, R371
  | cUltPs (cc : BitVec 3) (fs ft : FprNo)  -- C.ULT.PS, R371
  | cOleS (cc : BitVec 3) (fs ft : FprNo)  -- C.OLE.S, R371
  | cOleD (cc : BitVec 3) (fs ft : FprNo)  -- C.OLE.D, R371
  | cOlePs (cc : BitVec 3) (fs ft : FprNo)  -- C.OLE.PS, R371
  | cUleS (cc : BitVec 3) (fs ft : FprNo)  -- C.ULE.S, R371
  | cUleD (cc : BitVec 3) (fs ft : FprNo)  -- C.ULE.D, R371
  | cUlePs (cc : BitVec 3) (fs ft : FprNo)  -- C.ULE.PS, R371
  | cSfS (cc : BitVec 3) (fs ft : FprNo)  -- C.SF.S, R371
  | cSfD (cc : BitVec 3) (fs ft : FprNo)  -- C.SF.D, R371
  | cSfPs (cc : BitVec 3) (fs ft : FprNo)  -- C.SF.PS, R371
  | cNgleS (cc : BitVec 3) (fs ft : FprNo)  -- C.NGLE.S, R371
  | cNgleD (cc : BitVec 3) (fs ft : FprNo)  -- C.NGLE.D, R371
  | cNglePs (cc : BitVec 3) (fs ft : FprNo)  -- C.NGLE.PS, R371
  | cSeqS (cc : BitVec 3) (fs ft : FprNo)  -- C.SEQ.S, R371
  | cSeqD (cc : BitVec 3) (fs ft : FprNo)  -- C.SEQ.D, R371
  | cSeqPs (cc : BitVec 3) (fs ft : FprNo)  -- C.SEQ.PS, R371
  | cNglS (cc : BitVec 3) (fs ft : FprNo)  -- C.NGL.S, R371
  | cNglD (cc : BitVec 3) (fs ft : FprNo)  -- C.NGL.D, R371
  | cNglPs (cc : BitVec 3) (fs ft : FprNo)  -- C.NGL.PS, R371
  | cLtS (cc : BitVec 3) (fs ft : FprNo)  -- C.LT.S, R371
  | cLtD (cc : BitVec 3) (fs ft : FprNo)  -- C.LT.D, R371
  | cLtPs (cc : BitVec 3) (fs ft : FprNo)  -- C.LT.PS, R371
  | cNgeS (cc : BitVec 3) (fs ft : FprNo)  -- C.NGE.S, R371
  | cNgeD (cc : BitVec 3) (fs ft : FprNo)  -- C.NGE.D, R371
  | cNgePs (cc : BitVec 3) (fs ft : FprNo)  -- C.NGE.PS, R371
  | cLeS (cc : BitVec 3) (fs ft : FprNo)  -- C.LE.S, R371
  | cLeD (cc : BitVec 3) (fs ft : FprNo)  -- C.LE.D, R371
  | cLePs (cc : BitVec 3) (fs ft : FprNo)  -- C.LE.PS, R371
  | cNgtS (cc : BitVec 3) (fs ft : FprNo)  -- C.NGT.S, R371
  | cNgtD (cc : BitVec 3) (fs ft : FprNo)  -- C.NGT.D, R371
  | cNgtPs (cc : BitVec 3) (fs ft : FprNo)  -- C.NGT.PS, R371
  -- FPU multiply-add, 45_fpu_instructions.md section 4.
  | maddS (fd fr fs ft : FprNo)  -- MADD.S, R350
  | maddD (fd fr fs ft : FprNo)  -- MADD.D, R350
  | maddPs (fd fr fs ft : FprNo)  -- MADD.PS, R350
  | msubS (fd fr fs ft : FprNo)  -- MSUB.S, R351
  | msubD (fd fr fs ft : FprNo)  -- MSUB.D, R351
  | msubPs (fd fr fs ft : FprNo)  -- MSUB.PS, R351
  | nmaddS (fd fr fs ft : FprNo)  -- NMADD.S, R352
  | nmaddD (fd fr fs ft : FprNo)  -- NMADD.D, R352
  | nmaddPs (fd fr fs ft : FprNo)  -- NMADD.PS, R352
  | nmsubS (fd fr fs ft : FprNo)  -- NMSUB.S, R353
  | nmsubD (fd fr fs ft : FprNo)  -- NMSUB.D, R353
  | nmsubPs (fd fr fs ft : FprNo)  -- NMSUB.PS, R353
  -- MDMX lane operations, compares and picks, 46_mdmx_lane_ops.md; the suffix E, V or I is the row that selects the
  -- second operand by element, by vector or by immediate (R402).
  | addObE (vd vs vt : FprNo) (e : BitVec 3)  -- ADD.OB, R404
  | addObV (vd vs vt : FprNo)  -- ADD.OB, R404
  | addObI (vd vs : FprNo) (imm5 : BitVec 5)  -- ADD.OB, R404
  | addQhE (vd vs vt : FprNo) (e : BitVec 2)  -- ADD.QH, R404
  | addQhV (vd vs vt : FprNo)  -- ADD.QH, R404
  | addQhI (vd vs : FprNo) (imm5 : BitVec 5)  -- ADD.QH, R404
  | subObE (vd vs vt : FprNo) (e : BitVec 3)  -- SUB.OB, R405
  | subObV (vd vs vt : FprNo)  -- SUB.OB, R405
  | subObI (vd vs : FprNo) (imm5 : BitVec 5)  -- SUB.OB, R405
  | subQhE (vd vs vt : FprNo) (e : BitVec 2)  -- SUB.QH, R405
  | subQhV (vd vs vt : FprNo)  -- SUB.QH, R405
  | subQhI (vd vs : FprNo) (imm5 : BitVec 5)  -- SUB.QH, R405
  | mulObE (vd vs vt : FprNo) (e : BitVec 3)  -- MUL.OB, R406
  | mulObV (vd vs vt : FprNo)  -- MUL.OB, R406
  | mulObI (vd vs : FprNo) (imm5 : BitVec 5)  -- MUL.OB, R406
  | mulQhE (vd vs vt : FprNo) (e : BitVec 2)  -- MUL.QH, R406
  | mulQhV (vd vs vt : FprNo)  -- MUL.QH, R406
  | mulQhI (vd vs : FprNo) (imm5 : BitVec 5)  -- MUL.QH, R406
  | minObE (vd vs vt : FprNo) (e : BitVec 3)  -- MIN.OB, R407
  | minObV (vd vs vt : FprNo)  -- MIN.OB, R407
  | minObI (vd vs : FprNo) (imm5 : BitVec 5)  -- MIN.OB, R407
  | minQhE (vd vs vt : FprNo) (e : BitVec 2)  -- MIN.QH, R407
  | minQhV (vd vs vt : FprNo)  -- MIN.QH, R407
  | minQhI (vd vs : FprNo) (imm5 : BitVec 5)  -- MIN.QH, R407
  | maxObE (vd vs vt : FprNo) (e : BitVec 3)  -- MAX.OB, R408
  | maxObV (vd vs vt : FprNo)  -- MAX.OB, R408
  | maxObI (vd vs : FprNo) (imm5 : BitVec 5)  -- MAX.OB, R408
  | maxQhE (vd vs vt : FprNo) (e : BitVec 2)  -- MAX.QH, R408
  | maxQhV (vd vs vt : FprNo)  -- MAX.QH, R408
  | maxQhI (vd vs : FprNo) (imm5 : BitVec 5)  -- MAX.QH, R408
  | andObE (vd vs vt : FprNo) (e : BitVec 3)  -- AND.OB, R409
  | andObV (vd vs vt : FprNo)  -- AND.OB, R409
  | andObI (vd vs : FprNo) (imm5 : BitVec 5)  -- AND.OB, R409
  | andQhE (vd vs vt : FprNo) (e : BitVec 2)  -- AND.QH, R409
  | andQhV (vd vs vt : FprNo)  -- AND.QH, R409
  | andQhI (vd vs : FprNo) (imm5 : BitVec 5)  -- AND.QH, R409
  | orObE (vd vs vt : FprNo) (e : BitVec 3)  -- OR.OB, R410
  | orObV (vd vs vt : FprNo)  -- OR.OB, R410
  | orObI (vd vs : FprNo) (imm5 : BitVec 5)  -- OR.OB, R410
  | orQhE (vd vs vt : FprNo) (e : BitVec 2)  -- OR.QH, R410
  | orQhV (vd vs vt : FprNo)  -- OR.QH, R410
  | orQhI (vd vs : FprNo) (imm5 : BitVec 5)  -- OR.QH, R410
  | xorObE (vd vs vt : FprNo) (e : BitVec 3)  -- XOR.OB, R411
  | xorObV (vd vs vt : FprNo)  -- XOR.OB, R411
  | xorObI (vd vs : FprNo) (imm5 : BitVec 5)  -- XOR.OB, R411
  | xorQhE (vd vs vt : FprNo) (e : BitVec 2)  -- XOR.QH, R411
  | xorQhV (vd vs vt : FprNo)  -- XOR.QH, R411
  | xorQhI (vd vs : FprNo) (imm5 : BitVec 5)  -- XOR.QH, R411
  | norObE (vd vs vt : FprNo) (e : BitVec 3)  -- NOR.OB, R412
  | norObV (vd vs vt : FprNo)  -- NOR.OB, R412
  | norObI (vd vs : FprNo) (imm5 : BitVec 5)  -- NOR.OB, R412
  | norQhE (vd vs vt : FprNo) (e : BitVec 2)  -- NOR.QH, R412
  | norQhV (vd vs vt : FprNo)  -- NOR.QH, R412
  | norQhI (vd vs : FprNo) (imm5 : BitVec 5)  -- NOR.QH, R412
  | sllObE (vd vs vt : FprNo) (e : BitVec 3)  -- SLL.OB, R413
  | sllObV (vd vs vt : FprNo)  -- SLL.OB, R413
  | sllObI (vd vs : FprNo) (imm5 : BitVec 5)  -- SLL.OB, R413
  | sllQhE (vd vs vt : FprNo) (e : BitVec 2)  -- SLL.QH, R413
  | sllQhV (vd vs vt : FprNo)  -- SLL.QH, R413
  | sllQhI (vd vs : FprNo) (imm5 : BitVec 5)  -- SLL.QH, R413
  | srlObE (vd vs vt : FprNo) (e : BitVec 3)  -- SRL.OB, R414
  | srlObV (vd vs vt : FprNo)  -- SRL.OB, R414
  | srlObI (vd vs : FprNo) (imm5 : BitVec 5)  -- SRL.OB, R414
  | srlQhE (vd vs vt : FprNo) (e : BitVec 2)  -- SRL.QH, R414
  | srlQhV (vd vs vt : FprNo)  -- SRL.QH, R414
  | srlQhI (vd vs : FprNo) (imm5 : BitVec 5)  -- SRL.QH, R414
  | sraQhE (vd vs vt : FprNo) (e : BitVec 2)  -- SRA.QH, R415
  | sraQhV (vd vs vt : FprNo)  -- SRA.QH, R415
  | sraQhI (vd vs : FprNo) (imm5 : BitVec 5)  -- SRA.QH, R415
  | msgnQhE (vd vs vt : FprNo) (e : BitVec 2)  -- MSGN.QH, R416
  | msgnQhV (vd vs vt : FprNo)  -- MSGN.QH, R416
  | msgnQhI (vd vs : FprNo) (imm5 : BitVec 5)  -- MSGN.QH, R416
  | pabsdiffObE (vd vs vt : FprNo) (e : BitVec 3)  -- PABSDIFF.OB, R417
  | pabsdiffObV (vd vs vt : FprNo)  -- PABSDIFF.OB, R417
  | pabsdiffObI (vd vs : FprNo) (imm5 : BitVec 5)  -- PABSDIFF.OB, R417
  | pavgObE (vd vs vt : FprNo) (e : BitVec 3)  -- PAVG.OB, R418
  | pavgObV (vd vs vt : FprNo)  -- PAVG.OB, R418
  | pavgObI (vd vs : FprNo) (imm5 : BitVec 5)  -- PAVG.OB, R418
  | pickfObE (vd vs vt : FprNo) (e : BitVec 3)  -- PICKF.OB, R433
  | pickfObV (vd vs vt : FprNo)  -- PICKF.OB, R433
  | pickfObI (vd vs : FprNo) (imm5 : BitVec 5)  -- PICKF.OB, R433
  | pickfQhE (vd vs vt : FprNo) (e : BitVec 2)  -- PICKF.QH, R433
  | pickfQhV (vd vs vt : FprNo)  -- PICKF.QH, R433
  | pickfQhI (vd vs : FprNo) (imm5 : BitVec 5)  -- PICKF.QH, R433
  | picktObE (vd vs vt : FprNo) (e : BitVec 3)  -- PICKT.OB, R434
  | picktObV (vd vs vt : FprNo)  -- PICKT.OB, R434
  | picktObI (vd vs : FprNo) (imm5 : BitVec 5)  -- PICKT.OB, R434
  | picktQhE (vd vs vt : FprNo) (e : BitVec 2)  -- PICKT.QH, R434
  | picktQhV (vd vs vt : FprNo)  -- PICKT.QH, R434
  | picktQhI (vd vs : FprNo) (imm5 : BitVec 5)  -- PICKT.QH, R434
  | cEqObE (vs vt : FprNo) (e : BitVec 3)  -- C.EQ.OB, R430
  | cEqObV (vs vt : FprNo)  -- C.EQ.OB, R430
  | cEqObI (vs : FprNo) (imm5 : BitVec 5)  -- C.EQ.OB, R430
  | cEqQhE (vs vt : FprNo) (e : BitVec 2)  -- C.EQ.QH, R430
  | cEqQhV (vs vt : FprNo)  -- C.EQ.QH, R430
  | cEqQhI (vs : FprNo) (imm5 : BitVec 5)  -- C.EQ.QH, R430
  | cLtObE (vs vt : FprNo) (e : BitVec 3)  -- C.LT.OB, R431
  | cLtObV (vs vt : FprNo)  -- C.LT.OB, R431
  | cLtObI (vs : FprNo) (imm5 : BitVec 5)  -- C.LT.OB, R431
  | cLtQhE (vs vt : FprNo) (e : BitVec 2)  -- C.LT.QH, R431
  | cLtQhV (vs vt : FprNo)  -- C.LT.QH, R431
  | cLtQhI (vs : FprNo) (imm5 : BitVec 5)  -- C.LT.QH, R431
  | cLeObE (vs vt : FprNo) (e : BitVec 3)  -- C.LE.OB, R432
  | cLeObV (vs vt : FprNo)  -- C.LE.OB, R432
  | cLeObI (vs : FprNo) (imm5 : BitVec 5)  -- C.LE.OB, R432
  | cLeQhE (vs vt : FprNo) (e : BitVec 2)  -- C.LE.QH, R432
  | cLeQhV (vs vt : FprNo)  -- C.LE.QH, R432
  | cLeQhI (vs : FprNo) (imm5 : BitVec 5)  -- C.LE.QH, R432
  -- MDMX accumulator operations, 47_mdmx_accumulator.md section 2.
  | mulaObE (vs vt : FprNo) (e : BitVec 3)  -- MULA.OB, R452
  | mulaObV (vs vt : FprNo)  -- MULA.OB, R452
  | mulaObI (vs : FprNo) (imm5 : BitVec 5)  -- MULA.OB, R452
  | mulaQhE (vs vt : FprNo) (e : BitVec 2)  -- MULA.QH, R452
  | mulaQhV (vs vt : FprNo)  -- MULA.QH, R452
  | mulaQhI (vs : FprNo) (imm5 : BitVec 5)  -- MULA.QH, R452
  | mulsObE (vs vt : FprNo) (e : BitVec 3)  -- MULS.OB, R453
  | mulsObV (vs vt : FprNo)  -- MULS.OB, R453
  | mulsObI (vs : FprNo) (imm5 : BitVec 5)  -- MULS.OB, R453
  | mulsQhE (vs vt : FprNo) (e : BitVec 2)  -- MULS.QH, R453
  | mulsQhV (vs vt : FprNo)  -- MULS.QH, R453
  | mulsQhI (vs : FprNo) (imm5 : BitVec 5)  -- MULS.QH, R453
  | mullObE (vs vt : FprNo) (e : BitVec 3)  -- MULL.OB, R454
  | mullObV (vs vt : FprNo)  -- MULL.OB, R454
  | mullObI (vs : FprNo) (imm5 : BitVec 5)  -- MULL.OB, R454
  | mullQhE (vs vt : FprNo) (e : BitVec 2)  -- MULL.QH, R454
  | mullQhV (vs vt : FprNo)  -- MULL.QH, R454
  | mullQhI (vs : FprNo) (imm5 : BitVec 5)  -- MULL.QH, R454
  | mulslObE (vs vt : FprNo) (e : BitVec 3)  -- MULSL.OB, R455
  | mulslObV (vs vt : FprNo)  -- MULSL.OB, R455
  | mulslObI (vs : FprNo) (imm5 : BitVec 5)  -- MULSL.OB, R455
  | mulslQhE (vs vt : FprNo) (e : BitVec 2)  -- MULSL.QH, R455
  | mulslQhV (vs vt : FprNo)  -- MULSL.QH, R455
  | mulslQhI (vs : FprNo) (imm5 : BitVec 5)  -- MULSL.QH, R455
  | addaObE (vs vt : FprNo) (e : BitVec 3)  -- ADDA.OB, R456
  | addaObV (vs vt : FprNo)  -- ADDA.OB, R456
  | addaObI (vs : FprNo) (imm5 : BitVec 5)  -- ADDA.OB, R456
  | addaQhE (vs vt : FprNo) (e : BitVec 2)  -- ADDA.QH, R456
  | addaQhV (vs vt : FprNo)  -- ADDA.QH, R456
  | addaQhI (vs : FprNo) (imm5 : BitVec 5)  -- ADDA.QH, R456
  | addlObE (vs vt : FprNo) (e : BitVec 3)  -- ADDL.OB, R457
  | addlObV (vs vt : FprNo)  -- ADDL.OB, R457
  | addlObI (vs : FprNo) (imm5 : BitVec 5)  -- ADDL.OB, R457
  | addlQhE (vs vt : FprNo) (e : BitVec 2)  -- ADDL.QH, R457
  | addlQhV (vs vt : FprNo)  -- ADDL.QH, R457
  | addlQhI (vs : FprNo) (imm5 : BitVec 5)  -- ADDL.QH, R457
  | subaObE (vs vt : FprNo) (e : BitVec 3)  -- SUBA.OB, R458
  | subaObV (vs vt : FprNo)  -- SUBA.OB, R458
  | subaObI (vs : FprNo) (imm5 : BitVec 5)  -- SUBA.OB, R458
  | subaQhE (vs vt : FprNo) (e : BitVec 2)  -- SUBA.QH, R458
  | subaQhV (vs vt : FprNo)  -- SUBA.QH, R458
  | subaQhI (vs : FprNo) (imm5 : BitVec 5)  -- SUBA.QH, R458
  | sublObE (vs vt : FprNo) (e : BitVec 3)  -- SUBL.OB, R459
  | sublObV (vs vt : FprNo)  -- SUBL.OB, R459
  | sublObI (vs : FprNo) (imm5 : BitVec 5)  -- SUBL.OB, R459
  | sublQhE (vs vt : FprNo) (e : BitVec 2)  -- SUBL.QH, R459
  | sublQhV (vs vt : FprNo)  -- SUBL.QH, R459
  | sublQhI (vs : FprNo) (imm5 : BitVec 5)  -- SUBL.QH, R459
  -- MDMX rounding reductions, 47_mdmx_accumulator.md section 4.
  | rzuObE (vd vt : FprNo) (e : BitVec 3)  -- RZU.OB, R466
  | rzuObV (vd vt : FprNo)  -- RZU.OB, R466
  | rzuObI (vd : FprNo) (imm5 : BitVec 5)  -- RZU.OB, R466
  | rzuQhE (vd vt : FprNo) (e : BitVec 2)  -- RZU.QH, R466
  | rzuQhV (vd vt : FprNo)  -- RZU.QH, R466
  | rzuQhI (vd : FprNo) (imm5 : BitVec 5)  -- RZU.QH, R466
  | rnauObE (vd vt : FprNo) (e : BitVec 3)  -- RNAU.OB, R467
  | rnauObV (vd vt : FprNo)  -- RNAU.OB, R467
  | rnauObI (vd : FprNo) (imm5 : BitVec 5)  -- RNAU.OB, R467
  | rnauQhE (vd vt : FprNo) (e : BitVec 2)  -- RNAU.QH, R467
  | rnauQhV (vd vt : FprNo)  -- RNAU.QH, R467
  | rnauQhI (vd : FprNo) (imm5 : BitVec 5)  -- RNAU.QH, R467
  | rneuObE (vd vt : FprNo) (e : BitVec 3)  -- RNEU.OB, R468
  | rneuObV (vd vt : FprNo)  -- RNEU.OB, R468
  | rneuObI (vd : FprNo) (imm5 : BitVec 5)  -- RNEU.OB, R468
  | rneuQhE (vd vt : FprNo) (e : BitVec 2)  -- RNEU.QH, R468
  | rneuQhV (vd vt : FprNo)  -- RNEU.QH, R468
  | rneuQhI (vd : FprNo) (imm5 : BitVec 5)  -- RNEU.QH, R468
  | rzsQhE (vd vt : FprNo) (e : BitVec 2)  -- RZS.QH, R469
  | rzsQhV (vd vt : FprNo)  -- RZS.QH, R469
  | rzsQhI (vd : FprNo) (imm5 : BitVec 5)  -- RZS.QH, R469
  | rnasQhE (vd vt : FprNo) (e : BitVec 2)  -- RNAS.QH, R471
  | rnasQhV (vd vt : FprNo)  -- RNAS.QH, R471
  | rnasQhI (vd : FprNo) (imm5 : BitVec 5)  -- RNAS.QH, R471
  | rnesQhE (vd vt : FprNo) (e : BitVec 2)  -- RNES.QH, R472
  | rnesQhV (vd vt : FprNo)  -- RNES.QH, R472
  | rnesQhI (vd : FprNo) (imm5 : BitVec 5)  -- RNES.QH, R472
  -- MDMX shuffles, 46_mdmx_lane_ops.md section 7.
  | shflPachOb (vd vs vt : FprNo)  -- SHFL.PACH.OB, R436
  | shflPachQh (vd vs vt : FprNo)  -- SHFL.PACH.QH, R436
  | shflPaclOb (vd vs vt : FprNo)  -- SHFL.PACL.OB, R437
  | shflPaclQh (vd vs vt : FprNo)  -- SHFL.PACL.QH, R437
  | shflMixhOb (vd vs vt : FprNo)  -- SHFL.MIXH.OB, R438
  | shflMixhQh (vd vs vt : FprNo)  -- SHFL.MIXH.QH, R438
  | shflMixlOb (vd vs vt : FprNo)  -- SHFL.MIXL.OB, R439
  | shflMixlQh (vd vs vt : FprNo)  -- SHFL.MIXL.QH, R439
  | shflBflaQh (vd vs vt : FprNo)  -- SHFL.BFLA.QH, R440
  | shflBflbQh (vd vs vt : FprNo)  -- SHFL.BFLB.QH, R441
  | shflRepaQh (vd vs vt : FprNo)  -- SHFL.REPA.QH, R442
  | shflRepbQh (vd vs vt : FprNo)  -- SHFL.REPB.QH, R443
  -- MDMX accumulator writes and reads, 47_mdmx_accumulator.md section 3.
  | wachOb (vs : FprNo)  -- WACH.OB, R461
  | waclOb (vs vt : FprNo)  -- WACL.OB, R460
  | raclOb (vd : FprNo)  -- RACL.OB, R462
  | racmOb (vd : FprNo)  -- RACM.OB, R463
  | rachOb (vd : FprNo)  -- RACH.OB, R464
  | wachQh (vs : FprNo)  -- WACH.QH, R461
  | waclQh (vs vt : FprNo)  -- WACL.QH, R460
  | raclQh (vd : FprNo)  -- RACL.QH, R462
  | racmQh (vd : FprNo)  -- RACM.QH, R463
  | rachQh (vd : FprNo)  -- RACH.QH, R464
  deriving DecidableEq, Repr

end Sys2Proof
end

