-- ==== Sys2Proof/Machine/Dispatch.lean ====
section
/-! DEFINITION. The meaning of every instruction: one arm for each constructor of `Instr`, in the order of
spec/opcode_table.json. -/

namespace Sys2Proof.Machine

/-- Executes one instruction: step 2 of R563 after the decoding, with `PC <- npc` (log 16). -/
def exec (i : Instr) (s : State) : Host.Outcome State Fault Refusal :=
  match i with
  | .sll rd rt sa => Sys2Proof.Machine.execSll rd rt sa s
  | .srl rd rt sa => Sys2Proof.Machine.execSrl rd rt sa s
  | .sra rd rt sa => Sys2Proof.Machine.execSra rd rt sa s
  | .dsll rd rt sa => Sys2Proof.Machine.execDsll rd rt sa s
  | .dsrl rd rt sa => Sys2Proof.Machine.execDsrl rd rt sa s
  | .dsra rd rt sa => Sys2Proof.Machine.execDsra rd rt sa s
  | .dsll32 rd rt sa => Sys2Proof.Machine.execDsll32 rd rt sa s
  | .dsrl32 rd rt sa => Sys2Proof.Machine.execDsrl32 rd rt sa s
  | .dsra32 rd rt sa => Sys2Proof.Machine.execDsra32 rd rt sa s
  | .sllv rd rt rs => Sys2Proof.Machine.execSllv rd rt rs s
  | .srlv rd rt rs => Sys2Proof.Machine.execSrlv rd rt rs s
  | .srav rd rt rs => Sys2Proof.Machine.execSrav rd rt rs s
  | .dsllv rd rt rs => Sys2Proof.Machine.execDsllv rd rt rs s
  | .dsrlv rd rt rs => Sys2Proof.Machine.execDsrlv rd rt rs s
  | .dsrav rd rt rs => Sys2Proof.Machine.execDsrav rd rt rs s
  | .add rd rs rt => Sys2Proof.Machine.execAdd rd rs rt s
  | .addu rd rs rt => Sys2Proof.Machine.execAddu rd rs rt s
  | .sub rd rs rt => Sys2Proof.Machine.execSub rd rs rt s
  | .subu rd rs rt => Sys2Proof.Machine.execSubu rd rs rt s
  | .and rd rs rt => Sys2Proof.Machine.execAnd rd rs rt s
  | .or rd rs rt => Sys2Proof.Machine.execOr rd rs rt s
  | .xor rd rs rt => Sys2Proof.Machine.execXor rd rs rt s
  | .nor rd rs rt => Sys2Proof.Machine.execNor rd rs rt s
  | .slt rd rs rt => Sys2Proof.Machine.execSlt rd rs rt s
  | .sltu rd rs rt => Sys2Proof.Machine.execSltu rd rs rt s
  | .dadd rd rs rt => Sys2Proof.Machine.execDadd rd rs rt s
  | .daddu rd rs rt => Sys2Proof.Machine.execDaddu rd rs rt s
  | .dsub rd rs rt => Sys2Proof.Machine.execDsub rd rs rt s
  | .dsubu rd rs rt => Sys2Proof.Machine.execDsubu rd rs rt s
  | .jr rs => Sys2Proof.Machine.execJr rs s
  | .jalr rd rs => Sys2Proof.Machine.execJalr rd rs s
  | .syscall code => Sys2Proof.Machine.execSyscall code s
  | .brk code => Sys2Proof.Machine.execBrk code s
  | .halt => Sys2Proof.Machine.execHalt s
  | .sync => Sys2Proof.Machine.execSync s
  | .bltz rs imm => Sys2Proof.Machine.execBltz rs imm s
  | .bgez rs imm => Sys2Proof.Machine.execBgez rs imm s
  | .j index => Sys2Proof.Machine.execJ index s
  | .jal index => Sys2Proof.Machine.execJal index s
  | .beq rs rt imm => Sys2Proof.Machine.execBeq rs rt imm s
  | .bne rs rt imm => Sys2Proof.Machine.execBne rs rt imm s
  | .blez rs imm => Sys2Proof.Machine.execBlez rs imm s
  | .bgtz rs imm => Sys2Proof.Machine.execBgtz rs imm s
  | .addi rt rs imm => Sys2Proof.Machine.execAddi rt rs imm s
  | .addiu rt rs imm => Sys2Proof.Machine.execAddiu rt rs imm s
  | .slti rt rs imm => Sys2Proof.Machine.execSlti rt rs imm s
  | .sltiu rt rs imm => Sys2Proof.Machine.execSltiu rt rs imm s
  | .andi rt rs imm => Sys2Proof.Machine.execAndi rt rs imm s
  | .ori rt rs imm => Sys2Proof.Machine.execOri rt rs imm s
  | .xori rt rs imm => Sys2Proof.Machine.execXori rt rs imm s
  | .daddi rt rs imm => Sys2Proof.Machine.execDaddi rt rs imm s
  | .daddiu rt rs imm => Sys2Proof.Machine.execDaddiu rt rs imm s
  | .lui rt imm => Sys2Proof.Machine.execLui rt imm s
  | .lb rt base imm => Sys2Proof.Machine.execLb rt base imm s
  | .lbu rt base imm => Sys2Proof.Machine.execLbu rt base imm s
  | .lh rt base imm => Sys2Proof.Machine.execLh rt base imm s
  | .lhu rt base imm => Sys2Proof.Machine.execLhu rt base imm s
  | .lw rt base imm => Sys2Proof.Machine.execLw rt base imm s
  | .lwu rt base imm => Sys2Proof.Machine.execLwu rt base imm s
  | .ld rt base imm => Sys2Proof.Machine.execLd rt base imm s
  | .sb rt base imm => Sys2Proof.Machine.execSb rt base imm s
  | .sh rt base imm => Sys2Proof.Machine.execSh rt base imm s
  | .sw rt base imm => Sys2Proof.Machine.execSw rt base imm s
  | .sd rt base imm => Sys2Proof.Machine.execSd rt base imm s
  | .ll rt base imm => Sys2Proof.Machine.execLl rt base imm s
  | .lld rt base imm => Sys2Proof.Machine.execLld rt base imm s
  | .sc rt base imm => Sys2Proof.Machine.execSc rt base imm s
  | .scd rt base imm => Sys2Proof.Machine.execScd rt base imm s
  | .lwl rt base imm => Sys2Proof.Machine.execLwl rt base imm s
  | .lwr rt base imm => Sys2Proof.Machine.execLwr rt base imm s
  | .ldl rt base imm => Sys2Proof.Machine.execLdl rt base imm s
  | .ldr rt base imm => Sys2Proof.Machine.execLdr rt base imm s
  | .swl rt base imm => Sys2Proof.Machine.execSwl rt base imm s
  | .swr rt base imm => Sys2Proof.Machine.execSwr rt base imm s
  | .sdl rt base imm => Sys2Proof.Machine.execSdl rt base imm s
  | .sdr rt base imm => Sys2Proof.Machine.execSdr rt base imm s
  | .lwc1 ft base imm => Sys2Proof.Machine.execLwc1 ft base imm s
  | .ldc1 ft base imm => Sys2Proof.Machine.execLdc1 ft base imm s
  | .swc1 ft base imm => Sys2Proof.Machine.execSwc1 ft base imm s
  | .sdc1 ft base imm => Sys2Proof.Machine.execSdc1 ft base imm s
  | .mfc0 rt rd => Sys2Proof.Machine.execMfc0 rt rd s
  | .dmfc0 rt rd => Sys2Proof.Machine.execDmfc0 rt rd s
  | .mtc0 rt rd => Sys2Proof.Machine.execMtc0 rt rd s
  | .dmtc0 rt rd => Sys2Proof.Machine.execDmtc0 rt rd s
  | .eret => Sys2Proof.Machine.execEret s
  | .mfc1 rt fs => Sys2Proof.Machine.execMfc1 rt fs s
  | .dmfc1 rt fs => Sys2Proof.Machine.execDmfc1 rt fs s
  | .cfc1 rt fs => Sys2Proof.Machine.execCfc1 rt fs s
  | .mtc1 rt fs => Sys2Proof.Machine.execMtc1 rt fs s
  | .dmtc1 rt fs => Sys2Proof.Machine.execDmtc1 rt fs s
  | .ctc1 rt fs => Sys2Proof.Machine.execCtc1 rt fs s
  | .bc1f cc imm => Sys2Proof.Machine.execBc1f cc imm s
  | .bc1t cc imm => Sys2Proof.Machine.execBc1t cc imm s
  | .addS fd fs ft => Sys2Proof.Machine.execAddS fd fs ft s
  | .addD fd fs ft => Sys2Proof.Machine.execAddD fd fs ft s
  | .addPs fd fs ft => Sys2Proof.Machine.execAddPs fd fs ft s
  | .subS fd fs ft => Sys2Proof.Machine.execSubS fd fs ft s
  | .subD fd fs ft => Sys2Proof.Machine.execSubD fd fs ft s
  | .subPs fd fs ft => Sys2Proof.Machine.execSubPs fd fs ft s
  | .mulS fd fs ft => Sys2Proof.Machine.execMulS fd fs ft s
  | .mulD fd fs ft => Sys2Proof.Machine.execMulD fd fs ft s
  | .mulPs fd fs ft => Sys2Proof.Machine.execMulPs fd fs ft s
  | .divS fd fs ft => Sys2Proof.Machine.execDivS fd fs ft s
  | .divD fd fs ft => Sys2Proof.Machine.execDivD fd fs ft s
  | .divPs fd fs ft => Sys2Proof.Machine.execDivPs fd fs ft s
  | .recip2S fd fs ft => Sys2Proof.Machine.execRecip2S fd fs ft s
  | .recip2D fd fs ft => Sys2Proof.Machine.execRecip2D fd fs ft s
  | .recip2Ps fd fs ft => Sys2Proof.Machine.execRecip2Ps fd fs ft s
  | .rsqrt2S fd fs ft => Sys2Proof.Machine.execRsqrt2S fd fs ft s
  | .rsqrt2D fd fs ft => Sys2Proof.Machine.execRsqrt2D fd fs ft s
  | .rsqrt2Ps fd fs ft => Sys2Proof.Machine.execRsqrt2Ps fd fs ft s
  | .sqrtS fd fs => Sys2Proof.Machine.execSqrtS fd fs s
  | .sqrtD fd fs => Sys2Proof.Machine.execSqrtD fd fs s
  | .sqrtPs fd fs => Sys2Proof.Machine.execSqrtPs fd fs s
  | .absS fd fs => Sys2Proof.Machine.execAbsS fd fs s
  | .absD fd fs => Sys2Proof.Machine.execAbsD fd fs s
  | .absPs fd fs => Sys2Proof.Machine.execAbsPs fd fs s
  | .movS fd fs => Sys2Proof.Machine.execMovS fd fs s
  | .movD fd fs => Sys2Proof.Machine.execMovD fd fs s
  | .movPs fd fs => Sys2Proof.Machine.execMovPs fd fs s
  | .negS fd fs => Sys2Proof.Machine.execNegS fd fs s
  | .negD fd fs => Sys2Proof.Machine.execNegD fd fs s
  | .negPs fd fs => Sys2Proof.Machine.execNegPs fd fs s
  | .recipS fd fs => Sys2Proof.Machine.execRecipS fd fs s
  | .recipD fd fs => Sys2Proof.Machine.execRecipD fd fs s
  | .recipPs fd fs => Sys2Proof.Machine.execRecipPs fd fs s
  | .roundLS fd fs => Sys2Proof.Machine.execRoundLS fd fs s
  | .roundLD fd fs => Sys2Proof.Machine.execRoundLD fd fs s
  | .truncLS fd fs => Sys2Proof.Machine.execTruncLS fd fs s
  | .truncLD fd fs => Sys2Proof.Machine.execTruncLD fd fs s
  | .ceilLS fd fs => Sys2Proof.Machine.execCeilLS fd fs s
  | .ceilLD fd fs => Sys2Proof.Machine.execCeilLD fd fs s
  | .floorLS fd fs => Sys2Proof.Machine.execFloorLS fd fs s
  | .floorLD fd fs => Sys2Proof.Machine.execFloorLD fd fs s
  | .roundWS fd fs => Sys2Proof.Machine.execRoundWS fd fs s
  | .roundWD fd fs => Sys2Proof.Machine.execRoundWD fd fs s
  | .truncWS fd fs => Sys2Proof.Machine.execTruncWS fd fs s
  | .truncWD fd fs => Sys2Proof.Machine.execTruncWD fd fs s
  | .ceilWS fd fs => Sys2Proof.Machine.execCeilWS fd fs s
  | .ceilWD fd fs => Sys2Proof.Machine.execCeilWD fd fs s
  | .floorWS fd fs => Sys2Proof.Machine.execFloorWS fd fs s
  | .floorWD fd fs => Sys2Proof.Machine.execFloorWD fd fs s
  | .cvtWS fd fs => Sys2Proof.Machine.execCvtWS fd fs s
  | .cvtWD fd fs => Sys2Proof.Machine.execCvtWD fd fs s
  | .cvtLS fd fs => Sys2Proof.Machine.execCvtLS fd fs s
  | .cvtLD fd fs => Sys2Proof.Machine.execCvtLD fd fs s
  | .cvtSD fd fs => Sys2Proof.Machine.execCvtSD fd fs s
  | .cvtSW fd fs => Sys2Proof.Machine.execCvtSW fd fs s
  | .cvtSL fd fs => Sys2Proof.Machine.execCvtSL fd fs s
  | .cvtDS fd fs => Sys2Proof.Machine.execCvtDS fd fs s
  | .cvtDW fd fs => Sys2Proof.Machine.execCvtDW fd fs s
  | .cvtDL fd fs => Sys2Proof.Machine.execCvtDL fd fs s
  | .cFS cc fs ft => Sys2Proof.Machine.execCFS cc fs ft s
  | .cFD cc fs ft => Sys2Proof.Machine.execCFD cc fs ft s
  | .cFPs cc fs ft => Sys2Proof.Machine.execCFPs cc fs ft s
  | .cUnS cc fs ft => Sys2Proof.Machine.execCUnS cc fs ft s
  | .cUnD cc fs ft => Sys2Proof.Machine.execCUnD cc fs ft s
  | .cUnPs cc fs ft => Sys2Proof.Machine.execCUnPs cc fs ft s
  | .cEqS cc fs ft => Sys2Proof.Machine.execCEqS cc fs ft s
  | .cEqD cc fs ft => Sys2Proof.Machine.execCEqD cc fs ft s
  | .cEqPs cc fs ft => Sys2Proof.Machine.execCEqPs cc fs ft s
  | .cUeqS cc fs ft => Sys2Proof.Machine.execCUeqS cc fs ft s
  | .cUeqD cc fs ft => Sys2Proof.Machine.execCUeqD cc fs ft s
  | .cUeqPs cc fs ft => Sys2Proof.Machine.execCUeqPs cc fs ft s
  | .cOltS cc fs ft => Sys2Proof.Machine.execCOltS cc fs ft s
  | .cOltD cc fs ft => Sys2Proof.Machine.execCOltD cc fs ft s
  | .cOltPs cc fs ft => Sys2Proof.Machine.execCOltPs cc fs ft s
  | .cUltS cc fs ft => Sys2Proof.Machine.execCUltS cc fs ft s
  | .cUltD cc fs ft => Sys2Proof.Machine.execCUltD cc fs ft s
  | .cUltPs cc fs ft => Sys2Proof.Machine.execCUltPs cc fs ft s
  | .cOleS cc fs ft => Sys2Proof.Machine.execCOleS cc fs ft s
  | .cOleD cc fs ft => Sys2Proof.Machine.execCOleD cc fs ft s
  | .cOlePs cc fs ft => Sys2Proof.Machine.execCOlePs cc fs ft s
  | .cUleS cc fs ft => Sys2Proof.Machine.execCUleS cc fs ft s
  | .cUleD cc fs ft => Sys2Proof.Machine.execCUleD cc fs ft s
  | .cUlePs cc fs ft => Sys2Proof.Machine.execCUlePs cc fs ft s
  | .cSfS cc fs ft => Sys2Proof.Machine.execCSfS cc fs ft s
  | .cSfD cc fs ft => Sys2Proof.Machine.execCSfD cc fs ft s
  | .cSfPs cc fs ft => Sys2Proof.Machine.execCSfPs cc fs ft s
  | .cNgleS cc fs ft => Sys2Proof.Machine.execCNgleS cc fs ft s
  | .cNgleD cc fs ft => Sys2Proof.Machine.execCNgleD cc fs ft s
  | .cNglePs cc fs ft => Sys2Proof.Machine.execCNglePs cc fs ft s
  | .cSeqS cc fs ft => Sys2Proof.Machine.execCSeqS cc fs ft s
  | .cSeqD cc fs ft => Sys2Proof.Machine.execCSeqD cc fs ft s
  | .cSeqPs cc fs ft => Sys2Proof.Machine.execCSeqPs cc fs ft s
  | .cNglS cc fs ft => Sys2Proof.Machine.execCNglS cc fs ft s
  | .cNglD cc fs ft => Sys2Proof.Machine.execCNglD cc fs ft s
  | .cNglPs cc fs ft => Sys2Proof.Machine.execCNglPs cc fs ft s
  | .cLtS cc fs ft => Sys2Proof.Machine.execCLtS cc fs ft s
  | .cLtD cc fs ft => Sys2Proof.Machine.execCLtD cc fs ft s
  | .cLtPs cc fs ft => Sys2Proof.Machine.execCLtPs cc fs ft s
  | .cNgeS cc fs ft => Sys2Proof.Machine.execCNgeS cc fs ft s
  | .cNgeD cc fs ft => Sys2Proof.Machine.execCNgeD cc fs ft s
  | .cNgePs cc fs ft => Sys2Proof.Machine.execCNgePs cc fs ft s
  | .cLeS cc fs ft => Sys2Proof.Machine.execCLeS cc fs ft s
  | .cLeD cc fs ft => Sys2Proof.Machine.execCLeD cc fs ft s
  | .cLePs cc fs ft => Sys2Proof.Machine.execCLePs cc fs ft s
  | .cNgtS cc fs ft => Sys2Proof.Machine.execCNgtS cc fs ft s
  | .cNgtD cc fs ft => Sys2Proof.Machine.execCNgtD cc fs ft s
  | .cNgtPs cc fs ft => Sys2Proof.Machine.execCNgtPs cc fs ft s
  | .maddS fd fr fs ft => Sys2Proof.Machine.execMaddS fd fr fs ft s
  | .maddD fd fr fs ft => Sys2Proof.Machine.execMaddD fd fr fs ft s
  | .maddPs fd fr fs ft => Sys2Proof.Machine.execMaddPs fd fr fs ft s
  | .msubS fd fr fs ft => Sys2Proof.Machine.execMsubS fd fr fs ft s
  | .msubD fd fr fs ft => Sys2Proof.Machine.execMsubD fd fr fs ft s
  | .msubPs fd fr fs ft => Sys2Proof.Machine.execMsubPs fd fr fs ft s
  | .nmaddS fd fr fs ft => Sys2Proof.Machine.execNmaddS fd fr fs ft s
  | .nmaddD fd fr fs ft => Sys2Proof.Machine.execNmaddD fd fr fs ft s
  | .nmaddPs fd fr fs ft => Sys2Proof.Machine.execNmaddPs fd fr fs ft s
  | .nmsubS fd fr fs ft => Sys2Proof.Machine.execNmsubS fd fr fs ft s
  | .nmsubD fd fr fs ft => Sys2Proof.Machine.execNmsubD fd fr fs ft s
  | .nmsubPs fd fr fs ft => Sys2Proof.Machine.execNmsubPs fd fr fs ft s
  | .addObE vd vs vt e => Sys2Proof.Machine.execAddObE vd vs vt e s
  | .addObV vd vs vt => Sys2Proof.Machine.execAddObV vd vs vt s
  | .addObI vd vs imm5 => Sys2Proof.Machine.execAddObI vd vs imm5 s
  | .addQhE vd vs vt e => Sys2Proof.Machine.execAddQhE vd vs vt e s
  | .addQhV vd vs vt => Sys2Proof.Machine.execAddQhV vd vs vt s
  | .addQhI vd vs imm5 => Sys2Proof.Machine.execAddQhI vd vs imm5 s
  | .subObE vd vs vt e => Sys2Proof.Machine.execSubObE vd vs vt e s
  | .subObV vd vs vt => Sys2Proof.Machine.execSubObV vd vs vt s
  | .subObI vd vs imm5 => Sys2Proof.Machine.execSubObI vd vs imm5 s
  | .subQhE vd vs vt e => Sys2Proof.Machine.execSubQhE vd vs vt e s
  | .subQhV vd vs vt => Sys2Proof.Machine.execSubQhV vd vs vt s
  | .subQhI vd vs imm5 => Sys2Proof.Machine.execSubQhI vd vs imm5 s
  | .mulObE vd vs vt e => Sys2Proof.Machine.execMulObE vd vs vt e s
  | .mulObV vd vs vt => Sys2Proof.Machine.execMulObV vd vs vt s
  | .mulObI vd vs imm5 => Sys2Proof.Machine.execMulObI vd vs imm5 s
  | .mulQhE vd vs vt e => Sys2Proof.Machine.execMulQhE vd vs vt e s
  | .mulQhV vd vs vt => Sys2Proof.Machine.execMulQhV vd vs vt s
  | .mulQhI vd vs imm5 => Sys2Proof.Machine.execMulQhI vd vs imm5 s
  | .minObE vd vs vt e => Sys2Proof.Machine.execMinObE vd vs vt e s
  | .minObV vd vs vt => Sys2Proof.Machine.execMinObV vd vs vt s
  | .minObI vd vs imm5 => Sys2Proof.Machine.execMinObI vd vs imm5 s
  | .minQhE vd vs vt e => Sys2Proof.Machine.execMinQhE vd vs vt e s
  | .minQhV vd vs vt => Sys2Proof.Machine.execMinQhV vd vs vt s
  | .minQhI vd vs imm5 => Sys2Proof.Machine.execMinQhI vd vs imm5 s
  | .maxObE vd vs vt e => Sys2Proof.Machine.execMaxObE vd vs vt e s
  | .maxObV vd vs vt => Sys2Proof.Machine.execMaxObV vd vs vt s
  | .maxObI vd vs imm5 => Sys2Proof.Machine.execMaxObI vd vs imm5 s
  | .maxQhE vd vs vt e => Sys2Proof.Machine.execMaxQhE vd vs vt e s
  | .maxQhV vd vs vt => Sys2Proof.Machine.execMaxQhV vd vs vt s
  | .maxQhI vd vs imm5 => Sys2Proof.Machine.execMaxQhI vd vs imm5 s
  | .andObE vd vs vt e => Sys2Proof.Machine.execAndObE vd vs vt e s
  | .andObV vd vs vt => Sys2Proof.Machine.execAndObV vd vs vt s
  | .andObI vd vs imm5 => Sys2Proof.Machine.execAndObI vd vs imm5 s
  | .andQhE vd vs vt e => Sys2Proof.Machine.execAndQhE vd vs vt e s
  | .andQhV vd vs vt => Sys2Proof.Machine.execAndQhV vd vs vt s
  | .andQhI vd vs imm5 => Sys2Proof.Machine.execAndQhI vd vs imm5 s
  | .orObE vd vs vt e => Sys2Proof.Machine.execOrObE vd vs vt e s
  | .orObV vd vs vt => Sys2Proof.Machine.execOrObV vd vs vt s
  | .orObI vd vs imm5 => Sys2Proof.Machine.execOrObI vd vs imm5 s
  | .orQhE vd vs vt e => Sys2Proof.Machine.execOrQhE vd vs vt e s
  | .orQhV vd vs vt => Sys2Proof.Machine.execOrQhV vd vs vt s
  | .orQhI vd vs imm5 => Sys2Proof.Machine.execOrQhI vd vs imm5 s
  | .xorObE vd vs vt e => Sys2Proof.Machine.execXorObE vd vs vt e s
  | .xorObV vd vs vt => Sys2Proof.Machine.execXorObV vd vs vt s
  | .xorObI vd vs imm5 => Sys2Proof.Machine.execXorObI vd vs imm5 s
  | .xorQhE vd vs vt e => Sys2Proof.Machine.execXorQhE vd vs vt e s
  | .xorQhV vd vs vt => Sys2Proof.Machine.execXorQhV vd vs vt s
  | .xorQhI vd vs imm5 => Sys2Proof.Machine.execXorQhI vd vs imm5 s
  | .norObE vd vs vt e => Sys2Proof.Machine.execNorObE vd vs vt e s
  | .norObV vd vs vt => Sys2Proof.Machine.execNorObV vd vs vt s
  | .norObI vd vs imm5 => Sys2Proof.Machine.execNorObI vd vs imm5 s
  | .norQhE vd vs vt e => Sys2Proof.Machine.execNorQhE vd vs vt e s
  | .norQhV vd vs vt => Sys2Proof.Machine.execNorQhV vd vs vt s
  | .norQhI vd vs imm5 => Sys2Proof.Machine.execNorQhI vd vs imm5 s
  | .sllObE vd vs vt e => Sys2Proof.Machine.execSllObE vd vs vt e s
  | .sllObV vd vs vt => Sys2Proof.Machine.execSllObV vd vs vt s
  | .sllObI vd vs imm5 => Sys2Proof.Machine.execSllObI vd vs imm5 s
  | .sllQhE vd vs vt e => Sys2Proof.Machine.execSllQhE vd vs vt e s
  | .sllQhV vd vs vt => Sys2Proof.Machine.execSllQhV vd vs vt s
  | .sllQhI vd vs imm5 => Sys2Proof.Machine.execSllQhI vd vs imm5 s
  | .srlObE vd vs vt e => Sys2Proof.Machine.execSrlObE vd vs vt e s
  | .srlObV vd vs vt => Sys2Proof.Machine.execSrlObV vd vs vt s
  | .srlObI vd vs imm5 => Sys2Proof.Machine.execSrlObI vd vs imm5 s
  | .srlQhE vd vs vt e => Sys2Proof.Machine.execSrlQhE vd vs vt e s
  | .srlQhV vd vs vt => Sys2Proof.Machine.execSrlQhV vd vs vt s
  | .srlQhI vd vs imm5 => Sys2Proof.Machine.execSrlQhI vd vs imm5 s
  | .sraQhE vd vs vt e => Sys2Proof.Machine.execSraQhE vd vs vt e s
  | .sraQhV vd vs vt => Sys2Proof.Machine.execSraQhV vd vs vt s
  | .sraQhI vd vs imm5 => Sys2Proof.Machine.execSraQhI vd vs imm5 s
  | .msgnQhE vd vs vt e => Sys2Proof.Machine.execMsgnQhE vd vs vt e s
  | .msgnQhV vd vs vt => Sys2Proof.Machine.execMsgnQhV vd vs vt s
  | .msgnQhI vd vs imm5 => Sys2Proof.Machine.execMsgnQhI vd vs imm5 s
  | .pabsdiffObE vd vs vt e => Sys2Proof.Machine.execPabsdiffObE vd vs vt e s
  | .pabsdiffObV vd vs vt => Sys2Proof.Machine.execPabsdiffObV vd vs vt s
  | .pabsdiffObI vd vs imm5 => Sys2Proof.Machine.execPabsdiffObI vd vs imm5 s
  | .pavgObE vd vs vt e => Sys2Proof.Machine.execPavgObE vd vs vt e s
  | .pavgObV vd vs vt => Sys2Proof.Machine.execPavgObV vd vs vt s
  | .pavgObI vd vs imm5 => Sys2Proof.Machine.execPavgObI vd vs imm5 s
  | .pickfObE vd vs vt e => Sys2Proof.Machine.execPickfObE vd vs vt e s
  | .pickfObV vd vs vt => Sys2Proof.Machine.execPickfObV vd vs vt s
  | .pickfObI vd vs imm5 => Sys2Proof.Machine.execPickfObI vd vs imm5 s
  | .pickfQhE vd vs vt e => Sys2Proof.Machine.execPickfQhE vd vs vt e s
  | .pickfQhV vd vs vt => Sys2Proof.Machine.execPickfQhV vd vs vt s
  | .pickfQhI vd vs imm5 => Sys2Proof.Machine.execPickfQhI vd vs imm5 s
  | .picktObE vd vs vt e => Sys2Proof.Machine.execPicktObE vd vs vt e s
  | .picktObV vd vs vt => Sys2Proof.Machine.execPicktObV vd vs vt s
  | .picktObI vd vs imm5 => Sys2Proof.Machine.execPicktObI vd vs imm5 s
  | .picktQhE vd vs vt e => Sys2Proof.Machine.execPicktQhE vd vs vt e s
  | .picktQhV vd vs vt => Sys2Proof.Machine.execPicktQhV vd vs vt s
  | .picktQhI vd vs imm5 => Sys2Proof.Machine.execPicktQhI vd vs imm5 s
  | .cEqObE vs vt e => Sys2Proof.Machine.execCEqObE vs vt e s
  | .cEqObV vs vt => Sys2Proof.Machine.execCEqObV vs vt s
  | .cEqObI vs imm5 => Sys2Proof.Machine.execCEqObI vs imm5 s
  | .cEqQhE vs vt e => Sys2Proof.Machine.execCEqQhE vs vt e s
  | .cEqQhV vs vt => Sys2Proof.Machine.execCEqQhV vs vt s
  | .cEqQhI vs imm5 => Sys2Proof.Machine.execCEqQhI vs imm5 s
  | .cLtObE vs vt e => Sys2Proof.Machine.execCLtObE vs vt e s
  | .cLtObV vs vt => Sys2Proof.Machine.execCLtObV vs vt s
  | .cLtObI vs imm5 => Sys2Proof.Machine.execCLtObI vs imm5 s
  | .cLtQhE vs vt e => Sys2Proof.Machine.execCLtQhE vs vt e s
  | .cLtQhV vs vt => Sys2Proof.Machine.execCLtQhV vs vt s
  | .cLtQhI vs imm5 => Sys2Proof.Machine.execCLtQhI vs imm5 s
  | .cLeObE vs vt e => Sys2Proof.Machine.execCLeObE vs vt e s
  | .cLeObV vs vt => Sys2Proof.Machine.execCLeObV vs vt s
  | .cLeObI vs imm5 => Sys2Proof.Machine.execCLeObI vs imm5 s
  | .cLeQhE vs vt e => Sys2Proof.Machine.execCLeQhE vs vt e s
  | .cLeQhV vs vt => Sys2Proof.Machine.execCLeQhV vs vt s
  | .cLeQhI vs imm5 => Sys2Proof.Machine.execCLeQhI vs imm5 s
  | .mulaObE vs vt e => Sys2Proof.Machine.execMulaObE vs vt e s
  | .mulaObV vs vt => Sys2Proof.Machine.execMulaObV vs vt s
  | .mulaObI vs imm5 => Sys2Proof.Machine.execMulaObI vs imm5 s
  | .mulaQhE vs vt e => Sys2Proof.Machine.execMulaQhE vs vt e s
  | .mulaQhV vs vt => Sys2Proof.Machine.execMulaQhV vs vt s
  | .mulaQhI vs imm5 => Sys2Proof.Machine.execMulaQhI vs imm5 s
  | .mulsObE vs vt e => Sys2Proof.Machine.execMulsObE vs vt e s
  | .mulsObV vs vt => Sys2Proof.Machine.execMulsObV vs vt s
  | .mulsObI vs imm5 => Sys2Proof.Machine.execMulsObI vs imm5 s
  | .mulsQhE vs vt e => Sys2Proof.Machine.execMulsQhE vs vt e s
  | .mulsQhV vs vt => Sys2Proof.Machine.execMulsQhV vs vt s
  | .mulsQhI vs imm5 => Sys2Proof.Machine.execMulsQhI vs imm5 s
  | .mullObE vs vt e => Sys2Proof.Machine.execMullObE vs vt e s
  | .mullObV vs vt => Sys2Proof.Machine.execMullObV vs vt s
  | .mullObI vs imm5 => Sys2Proof.Machine.execMullObI vs imm5 s
  | .mullQhE vs vt e => Sys2Proof.Machine.execMullQhE vs vt e s
  | .mullQhV vs vt => Sys2Proof.Machine.execMullQhV vs vt s
  | .mullQhI vs imm5 => Sys2Proof.Machine.execMullQhI vs imm5 s
  | .mulslObE vs vt e => Sys2Proof.Machine.execMulslObE vs vt e s
  | .mulslObV vs vt => Sys2Proof.Machine.execMulslObV vs vt s
  | .mulslObI vs imm5 => Sys2Proof.Machine.execMulslObI vs imm5 s
  | .mulslQhE vs vt e => Sys2Proof.Machine.execMulslQhE vs vt e s
  | .mulslQhV vs vt => Sys2Proof.Machine.execMulslQhV vs vt s
  | .mulslQhI vs imm5 => Sys2Proof.Machine.execMulslQhI vs imm5 s
  | .addaObE vs vt e => Sys2Proof.Machine.execAddaObE vs vt e s
  | .addaObV vs vt => Sys2Proof.Machine.execAddaObV vs vt s
  | .addaObI vs imm5 => Sys2Proof.Machine.execAddaObI vs imm5 s
  | .addaQhE vs vt e => Sys2Proof.Machine.execAddaQhE vs vt e s
  | .addaQhV vs vt => Sys2Proof.Machine.execAddaQhV vs vt s
  | .addaQhI vs imm5 => Sys2Proof.Machine.execAddaQhI vs imm5 s
  | .addlObE vs vt e => Sys2Proof.Machine.execAddlObE vs vt e s
  | .addlObV vs vt => Sys2Proof.Machine.execAddlObV vs vt s
  | .addlObI vs imm5 => Sys2Proof.Machine.execAddlObI vs imm5 s
  | .addlQhE vs vt e => Sys2Proof.Machine.execAddlQhE vs vt e s
  | .addlQhV vs vt => Sys2Proof.Machine.execAddlQhV vs vt s
  | .addlQhI vs imm5 => Sys2Proof.Machine.execAddlQhI vs imm5 s
  | .subaObE vs vt e => Sys2Proof.Machine.execSubaObE vs vt e s
  | .subaObV vs vt => Sys2Proof.Machine.execSubaObV vs vt s
  | .subaObI vs imm5 => Sys2Proof.Machine.execSubaObI vs imm5 s
  | .subaQhE vs vt e => Sys2Proof.Machine.execSubaQhE vs vt e s
  | .subaQhV vs vt => Sys2Proof.Machine.execSubaQhV vs vt s
  | .subaQhI vs imm5 => Sys2Proof.Machine.execSubaQhI vs imm5 s
  | .sublObE vs vt e => Sys2Proof.Machine.execSublObE vs vt e s
  | .sublObV vs vt => Sys2Proof.Machine.execSublObV vs vt s
  | .sublObI vs imm5 => Sys2Proof.Machine.execSublObI vs imm5 s
  | .sublQhE vs vt e => Sys2Proof.Machine.execSublQhE vs vt e s
  | .sublQhV vs vt => Sys2Proof.Machine.execSublQhV vs vt s
  | .sublQhI vs imm5 => Sys2Proof.Machine.execSublQhI vs imm5 s
  | .rzuObE vd vt e => Sys2Proof.Machine.execRzuObE vd vt e s
  | .rzuObV vd vt => Sys2Proof.Machine.execRzuObV vd vt s
  | .rzuObI vd imm5 => Sys2Proof.Machine.execRzuObI vd imm5 s
  | .rzuQhE vd vt e => Sys2Proof.Machine.execRzuQhE vd vt e s
  | .rzuQhV vd vt => Sys2Proof.Machine.execRzuQhV vd vt s
  | .rzuQhI vd imm5 => Sys2Proof.Machine.execRzuQhI vd imm5 s
  | .rnauObE vd vt e => Sys2Proof.Machine.execRnauObE vd vt e s
  | .rnauObV vd vt => Sys2Proof.Machine.execRnauObV vd vt s
  | .rnauObI vd imm5 => Sys2Proof.Machine.execRnauObI vd imm5 s
  | .rnauQhE vd vt e => Sys2Proof.Machine.execRnauQhE vd vt e s
  | .rnauQhV vd vt => Sys2Proof.Machine.execRnauQhV vd vt s
  | .rnauQhI vd imm5 => Sys2Proof.Machine.execRnauQhI vd imm5 s
  | .rneuObE vd vt e => Sys2Proof.Machine.execRneuObE vd vt e s
  | .rneuObV vd vt => Sys2Proof.Machine.execRneuObV vd vt s
  | .rneuObI vd imm5 => Sys2Proof.Machine.execRneuObI vd imm5 s
  | .rneuQhE vd vt e => Sys2Proof.Machine.execRneuQhE vd vt e s
  | .rneuQhV vd vt => Sys2Proof.Machine.execRneuQhV vd vt s
  | .rneuQhI vd imm5 => Sys2Proof.Machine.execRneuQhI vd imm5 s
  | .rzsQhE vd vt e => Sys2Proof.Machine.execRzsQhE vd vt e s
  | .rzsQhV vd vt => Sys2Proof.Machine.execRzsQhV vd vt s
  | .rzsQhI vd imm5 => Sys2Proof.Machine.execRzsQhI vd imm5 s
  | .rnasQhE vd vt e => Sys2Proof.Machine.execRnasQhE vd vt e s
  | .rnasQhV vd vt => Sys2Proof.Machine.execRnasQhV vd vt s
  | .rnasQhI vd imm5 => Sys2Proof.Machine.execRnasQhI vd imm5 s
  | .rnesQhE vd vt e => Sys2Proof.Machine.execRnesQhE vd vt e s
  | .rnesQhV vd vt => Sys2Proof.Machine.execRnesQhV vd vt s
  | .rnesQhI vd imm5 => Sys2Proof.Machine.execRnesQhI vd imm5 s
  | .shflPachOb vd vs vt => Sys2Proof.Machine.execShflPachOb vd vs vt s
  | .shflPachQh vd vs vt => Sys2Proof.Machine.execShflPachQh vd vs vt s
  | .shflPaclOb vd vs vt => Sys2Proof.Machine.execShflPaclOb vd vs vt s
  | .shflPaclQh vd vs vt => Sys2Proof.Machine.execShflPaclQh vd vs vt s
  | .shflMixhOb vd vs vt => Sys2Proof.Machine.execShflMixhOb vd vs vt s
  | .shflMixhQh vd vs vt => Sys2Proof.Machine.execShflMixhQh vd vs vt s
  | .shflMixlOb vd vs vt => Sys2Proof.Machine.execShflMixlOb vd vs vt s
  | .shflMixlQh vd vs vt => Sys2Proof.Machine.execShflMixlQh vd vs vt s
  | .shflBflaQh vd vs vt => Sys2Proof.Machine.execShflBflaQh vd vs vt s
  | .shflBflbQh vd vs vt => Sys2Proof.Machine.execShflBflbQh vd vs vt s
  | .shflRepaQh vd vs vt => Sys2Proof.Machine.execShflRepaQh vd vs vt s
  | .shflRepbQh vd vs vt => Sys2Proof.Machine.execShflRepbQh vd vs vt s
  | .wachOb vs => Sys2Proof.Machine.execWachOb vs s
  | .waclOb vs vt => Sys2Proof.Machine.execWaclOb vs vt s
  | .raclOb vd => Sys2Proof.Machine.execRaclOb vd s
  | .racmOb vd => Sys2Proof.Machine.execRacmOb vd s
  | .rachOb vd => Sys2Proof.Machine.execRachOb vd s
  | .wachQh vs => Sys2Proof.Machine.execWachQh vs s
  | .waclQh vs vt => Sys2Proof.Machine.execWaclQh vs vt s
  | .raclQh vd => Sys2Proof.Machine.execRaclQh vd s
  | .racmQh vd => Sys2Proof.Machine.execRacmQh vd s
  | .rachQh vd => Sys2Proof.Machine.execRachQh vd s

end Sys2Proof.Machine
end

