-- ==== Sys2Proof/WellFormed.lean ====
section
/-! DEFINITION. Which terms of `Instr` are instructions of CORE. Field widths are in the types; two checks remain. -/

namespace Sys2Proof

/-- The two conditions on operands that the types do not carry:
BREAK's code is not 0xFFFFF, because that word is HALT (30_encoding.md R111, R127), and the condition code of a
paired-single compare is even (45_fpu_instructions.md R371). Every other term encodes as it stands. -/
def Instr.wellFormed (i : Instr) : Bool :=
  match i with
  | .brk code => code != 0xFFFFF#20
  | .cFPs cc _ _ => cc.extractLsb' 0 1 == 0#1
  | .cUnPs cc _ _ => cc.extractLsb' 0 1 == 0#1
  | .cEqPs cc _ _ => cc.extractLsb' 0 1 == 0#1
  | .cUeqPs cc _ _ => cc.extractLsb' 0 1 == 0#1
  | .cOltPs cc _ _ => cc.extractLsb' 0 1 == 0#1
  | .cUltPs cc _ _ => cc.extractLsb' 0 1 == 0#1
  | .cOlePs cc _ _ => cc.extractLsb' 0 1 == 0#1
  | .cUlePs cc _ _ => cc.extractLsb' 0 1 == 0#1
  | .cSfPs cc _ _ => cc.extractLsb' 0 1 == 0#1
  | .cNglePs cc _ _ => cc.extractLsb' 0 1 == 0#1
  | .cSeqPs cc _ _ => cc.extractLsb' 0 1 == 0#1
  | .cNglPs cc _ _ => cc.extractLsb' 0 1 == 0#1
  | .cLtPs cc _ _ => cc.extractLsb' 0 1 == 0#1
  | .cNgePs cc _ _ => cc.extractLsb' 0 1 == 0#1
  | .cLePs cc _ _ => cc.extractLsb' 0 1 == 0#1
  | .cNgtPs cc _ _ => cc.extractLsb' 0 1 == 0#1
  | .sll .. | .srl .. | .sra .. | .dsll .. | .dsrl .. | .dsra .. | .dsll32 .. | .dsrl32 .. | .dsra32 .. | .sllv ..
  | .srlv .. | .srav .. | .dsllv .. | .dsrlv .. | .dsrav .. | .add .. | .addu .. | .sub .. | .subu .. | .and ..
  | .or .. | .xor .. | .nor .. | .slt .. | .sltu .. | .dadd .. | .daddu .. | .dsub .. | .dsubu .. | .jr .. | .jalr ..
  | .syscall .. | .halt | .sync | .bltz .. | .bgez .. | .j .. | .jal .. | .beq .. | .bne .. | .blez .. | .bgtz ..
  | .addi .. | .addiu .. | .slti .. | .sltiu .. | .andi .. | .ori .. | .xori .. | .daddi .. | .daddiu .. | .lui ..
  | .lb .. | .lbu .. | .lh .. | .lhu .. | .lw .. | .lwu .. | .ld .. | .sb .. | .sh .. | .sw .. | .sd .. | .ll ..
  | .lld .. | .sc .. | .scd .. | .lwl .. | .lwr .. | .ldl .. | .ldr .. | .swl .. | .swr .. | .sdl .. | .sdr ..
  | .lwc1 .. | .ldc1 .. | .swc1 .. | .sdc1 .. | .mfc0 .. | .dmfc0 .. | .mtc0 .. | .dmtc0 .. | .eret | .mfc1 ..
  | .dmfc1 .. | .cfc1 .. | .mtc1 .. | .dmtc1 .. | .ctc1 .. | .bc1f .. | .bc1t .. | .addS .. | .addD .. | .addPs ..
  | .subS .. | .subD .. | .subPs .. | .mulS .. | .mulD .. | .mulPs .. | .divS .. | .divD .. | .divPs .. | .recip2S ..
  | .recip2D .. | .recip2Ps .. | .rsqrt2S .. | .rsqrt2D .. | .rsqrt2Ps .. | .sqrtS .. | .sqrtD .. | .sqrtPs ..
  | .absS .. | .absD .. | .absPs .. | .movS .. | .movD .. | .movPs .. | .negS .. | .negD .. | .negPs .. | .recipS ..
  | .recipD .. | .recipPs .. | .roundLS .. | .roundLD .. | .truncLS .. | .truncLD .. | .ceilLS .. | .ceilLD ..
  | .floorLS .. | .floorLD .. | .roundWS .. | .roundWD .. | .truncWS .. | .truncWD .. | .ceilWS .. | .ceilWD ..
  | .floorWS .. | .floorWD .. | .cvtWS .. | .cvtWD .. | .cvtLS .. | .cvtLD .. | .cvtSD .. | .cvtSW .. | .cvtSL ..
  | .cvtDS .. | .cvtDW .. | .cvtDL .. | .cFS .. | .cFD .. | .cUnS .. | .cUnD .. | .cEqS .. | .cEqD .. | .cUeqS ..
  | .cUeqD .. | .cOltS .. | .cOltD .. | .cUltS .. | .cUltD .. | .cOleS .. | .cOleD .. | .cUleS .. | .cUleD ..
  | .cSfS .. | .cSfD .. | .cNgleS .. | .cNgleD .. | .cSeqS .. | .cSeqD .. | .cNglS .. | .cNglD .. | .cLtS ..
  | .cLtD .. | .cNgeS .. | .cNgeD .. | .cLeS .. | .cLeD .. | .cNgtS .. | .cNgtD .. | .maddS .. | .maddD ..
  | .maddPs .. | .msubS .. | .msubD .. | .msubPs .. | .nmaddS .. | .nmaddD .. | .nmaddPs .. | .nmsubS .. | .nmsubD ..
  | .nmsubPs .. | .addObE .. | .addObV .. | .addObI .. | .addQhE .. | .addQhV .. | .addQhI .. | .subObE ..
  | .subObV .. | .subObI .. | .subQhE .. | .subQhV .. | .subQhI .. | .mulObE .. | .mulObV .. | .mulObI ..
  | .mulQhE .. | .mulQhV .. | .mulQhI .. | .minObE .. | .minObV .. | .minObI .. | .minQhE .. | .minQhV ..
  | .minQhI .. | .maxObE .. | .maxObV .. | .maxObI .. | .maxQhE .. | .maxQhV .. | .maxQhI .. | .andObE ..
  | .andObV .. | .andObI .. | .andQhE .. | .andQhV .. | .andQhI .. | .orObE .. | .orObV .. | .orObI .. | .orQhE ..
  | .orQhV .. | .orQhI .. | .xorObE .. | .xorObV .. | .xorObI .. | .xorQhE .. | .xorQhV .. | .xorQhI .. | .norObE ..
  | .norObV .. | .norObI .. | .norQhE .. | .norQhV .. | .norQhI .. | .sllObE .. | .sllObV .. | .sllObI ..
  | .sllQhE .. | .sllQhV .. | .sllQhI .. | .srlObE .. | .srlObV .. | .srlObI .. | .srlQhE .. | .srlQhV ..
  | .srlQhI .. | .sraQhE .. | .sraQhV .. | .sraQhI .. | .msgnQhE .. | .msgnQhV .. | .msgnQhI .. | .pabsdiffObE ..
  | .pabsdiffObV .. | .pabsdiffObI .. | .pavgObE .. | .pavgObV .. | .pavgObI .. | .pickfObE .. | .pickfObV ..
  | .pickfObI .. | .pickfQhE .. | .pickfQhV .. | .pickfQhI .. | .picktObE .. | .picktObV .. | .picktObI ..
  | .picktQhE .. | .picktQhV .. | .picktQhI .. | .cEqObE .. | .cEqObV .. | .cEqObI .. | .cEqQhE .. | .cEqQhV ..
  | .cEqQhI .. | .cLtObE .. | .cLtObV .. | .cLtObI .. | .cLtQhE .. | .cLtQhV .. | .cLtQhI .. | .cLeObE ..
  | .cLeObV .. | .cLeObI .. | .cLeQhE .. | .cLeQhV .. | .cLeQhI .. | .mulaObE .. | .mulaObV .. | .mulaObI ..
  | .mulaQhE .. | .mulaQhV .. | .mulaQhI .. | .mulsObE .. | .mulsObV .. | .mulsObI .. | .mulsQhE .. | .mulsQhV ..
  | .mulsQhI .. | .mullObE .. | .mullObV .. | .mullObI .. | .mullQhE .. | .mullQhV .. | .mullQhI .. | .mulslObE ..
  | .mulslObV .. | .mulslObI .. | .mulslQhE .. | .mulslQhV .. | .mulslQhI .. | .addaObE .. | .addaObV ..
  | .addaObI .. | .addaQhE .. | .addaQhV .. | .addaQhI .. | .addlObE .. | .addlObV .. | .addlObI .. | .addlQhE ..
  | .addlQhV .. | .addlQhI .. | .subaObE .. | .subaObV .. | .subaObI .. | .subaQhE .. | .subaQhV .. | .subaQhI ..
  | .sublObE .. | .sublObV .. | .sublObI .. | .sublQhE .. | .sublQhV .. | .sublQhI .. | .rzuObE .. | .rzuObV ..
  | .rzuObI .. | .rzuQhE .. | .rzuQhV .. | .rzuQhI .. | .rnauObE .. | .rnauObV .. | .rnauObI .. | .rnauQhE ..
  | .rnauQhV .. | .rnauQhI .. | .rneuObE .. | .rneuObV .. | .rneuObI .. | .rneuQhE .. | .rneuQhV .. | .rneuQhI ..
  | .rzsQhE .. | .rzsQhV .. | .rzsQhI .. | .rnasQhE .. | .rnasQhV .. | .rnasQhI .. | .rnesQhE .. | .rnesQhV ..
  | .rnesQhI .. | .shflPachOb .. | .shflPachQh .. | .shflPaclOb .. | .shflPaclQh .. | .shflMixhOb .. | .shflMixhQh ..
  | .shflMixlOb .. | .shflMixlQh .. | .shflBflaQh .. | .shflBflbQh .. | .shflRepaQh .. | .shflRepbQh .. | .wachOb ..
  | .waclOb .. | .raclOb .. | .racmOb .. | .rachOb .. | .wachQh .. | .waclQh .. | .raclQh .. | .racmQh ..
  | .rachQh .. => true

end Sys2Proof
end

