-- ==== Sys2Proof/Decode.lean ====
section
/-! DEFINITION. Decoding and encoding instruction words (30_encoding.md). The decoder is total (R111, R126): a word that
matches no row is rejected under the name of the map that has no row for it.

`noncomputable` below says nothing of the model: Lean's compiled code has no object tag for a constructor past the
244th, and `Instr` has one constructor for each of 417 rows. Lean's kernel evaluates these definitions as it does any
other. -/

namespace Sys2Proof

/-- Why a word decodes to `RESERVED` (R126): the map in which it has no row. Executing such a word raises
ReservedInstruction, whatever the name (R489). -/
inductive Reserved where
  /-- The primary opcode is not in R117. -/
  | primaryOpcode
  /-- SPECIAL function not in R119. -/
  | special
  /-- REGIMM sub-operation not in R120. -/
  | regimm
  /-- COP0 word not in R121. -/
  | cop0
  /-- COP1 sub-operation, function or `fmt` not in R115 and R122. -/
  | cop1
  /-- COP1X function not in R122. -/
  | cop1x
  /-- MDMX function, selector or sub-operation not in R116 and R123. -/
  | mdmx
  /-- A field that must be zero is not (R119, R121, R122, R123). -/
  | mustBeZero
  /-- Fewer bytes than the four of an instruction word (R110). -/
  | truncated
  deriving DecidableEq, Repr

/-- What the decoder answers: an instruction, or the name under which it rejects. -/
abbrev Decoded := Except Reserved Instr

/-- A row that matches only where its must-be-zero fields are zero. -/
def whenZero (ok : Bool) (i : Instr) : Decoded := if ok then .ok i else .error .mustBeZero

/-- SPECIAL, selected by `funct` (R119). -/
def decodeSpecial (rs rt rd sa : BitVec 5) (funct : BitVec 6) : Decoded :=
  match funct with
  | 0x00#6 => whenZero (rs == 0#5) (.sll rd rt sa)
  | 0x02#6 => whenZero (rs == 0#5) (.srl rd rt sa)
  | 0x03#6 => whenZero (rs == 0#5) (.sra rd rt sa)
  | 0x04#6 => whenZero (sa == 0#5) (.sllv rd rt rs)
  | 0x06#6 => whenZero (sa == 0#5) (.srlv rd rt rs)
  | 0x07#6 => whenZero (sa == 0#5) (.srav rd rt rs)
  | 0x08#6 => whenZero (rt == 0#5 && rd == 0#5 && sa == 0#5) (.jr rs)
  | 0x09#6 => whenZero (rt == 0#5 && sa == 0#5) (.jalr rd rs)
  | 0x0C#6 => .ok (.syscall (rs ++ rt ++ rd ++ sa))
  | 0x0D#6 => if rs ++ rt ++ rd ++ sa = 0xFFFFF#20 then .ok .halt else .ok (.brk (rs ++ rt ++ rd ++ sa))
  | 0x0F#6 => whenZero (rs == 0#5 && rt == 0#5 && rd == 0#5 && sa == 0#5) .sync
  | 0x14#6 => whenZero (sa == 0#5) (.dsllv rd rt rs)
  | 0x16#6 => whenZero (sa == 0#5) (.dsrlv rd rt rs)
  | 0x17#6 => whenZero (sa == 0#5) (.dsrav rd rt rs)
  | 0x20#6 => whenZero (sa == 0#5) (.add rd rs rt)
  | 0x21#6 => whenZero (sa == 0#5) (.addu rd rs rt)
  | 0x22#6 => whenZero (sa == 0#5) (.sub rd rs rt)
  | 0x23#6 => whenZero (sa == 0#5) (.subu rd rs rt)
  | 0x24#6 => whenZero (sa == 0#5) (.and rd rs rt)
  | 0x25#6 => whenZero (sa == 0#5) (.or rd rs rt)
  | 0x26#6 => whenZero (sa == 0#5) (.xor rd rs rt)
  | 0x27#6 => whenZero (sa == 0#5) (.nor rd rs rt)
  | 0x2A#6 => whenZero (sa == 0#5) (.slt rd rs rt)
  | 0x2B#6 => whenZero (sa == 0#5) (.sltu rd rs rt)
  | 0x2C#6 => whenZero (sa == 0#5) (.dadd rd rs rt)
  | 0x2D#6 => whenZero (sa == 0#5) (.daddu rd rs rt)
  | 0x2E#6 => whenZero (sa == 0#5) (.dsub rd rs rt)
  | 0x2F#6 => whenZero (sa == 0#5) (.dsubu rd rs rt)
  | 0x38#6 => whenZero (rs == 0#5) (.dsll rd rt sa)
  | 0x3A#6 => whenZero (rs == 0#5) (.dsrl rd rt sa)
  | 0x3B#6 => whenZero (rs == 0#5) (.dsra rd rt sa)
  | 0x3C#6 => whenZero (rs == 0#5) (.dsll32 rd rt sa)
  | 0x3E#6 => whenZero (rs == 0#5) (.dsrl32 rd rt sa)
  | 0x3F#6 => whenZero (rs == 0#5) (.dsra32 rd rt sa)
  | _ => .error .special

/-- REGIMM, selected by `sub` in bits 20:16 (R120). -/
def decodeRegimm (rs sub : BitVec 5) (imm : BitVec 16) : Decoded :=
  match sub with
  | 0x00#5 => .ok (.bltz rs imm)
  | 0x01#5 => .ok (.bgez rs imm)
  | _ => .error .regimm

/-- COP0: the four moves with bits 10:0 zero, and the one word ERET (R121). -/
def decodeCop0 (sub rt rd sa : BitVec 5) (funct : BitVec 6) : Decoded :=
  let low := sa == 0#5 && funct == 0#6
  match sub with
  | 0x00#5 => whenZero low (.mfc0 rt rd)
  | 0x01#5 => whenZero low (.dmfc0 rt rd)
  | 0x04#5 => whenZero low (.mtc0 rt rd)
  | 0x05#5 => whenZero low (.dmtc0 rt rd)
  | 0x10#5 => if funct = 0x18#6 then whenZero (rt == 0#5 && rd == 0#5 && sa == 0#5) .eret else .error .cop0
  | _ => .error .cop0

/-- The row of a `fmt` that accepts S, D and PS (R115). -/
def byFmt (fmt : BitVec 5) (s d ps : Decoded) : Decoded :=
  match fmt with
  | 16#5 => s
  | 17#5 => d
  | 22#5 => ps
  | _ => .error .cop1

/-- A compare row: bits 7:6 are zero, and for PS bit 8 too (R122, R371). `sa` holds bits 10:6. -/
def compareRow (fmt sa : BitVec 5) (s d ps : BitVec 3 → Instr) : Decoded :=
  let cc := sa.extractLsb' 2 3
  let low := sa.extractLsb' 0 2 == 0#2
  byFmt fmt (whenZero low (s cc)) (whenZero low (d cc)) (whenZero (low && cc.extractLsb' 0 1 == 0#1) (ps cc))

/-- COP1 arithmetic, conversions and compares, selected by `funct` and then by `fmt` (R122). -/
def decodeCop1Arith (fmt ft fs sa : BitVec 5) (funct : BitVec 6) : Decoded :=
  let one := whenZero (ft == 0#5)
  let fd := sa
  match funct with
  | 0x00#6 => byFmt fmt (.ok (.addS fd fs ft)) (.ok (.addD fd fs ft)) (.ok (.addPs fd fs ft))
  | 0x01#6 => byFmt fmt (.ok (.subS fd fs ft)) (.ok (.subD fd fs ft)) (.ok (.subPs fd fs ft))
  | 0x02#6 => byFmt fmt (.ok (.mulS fd fs ft)) (.ok (.mulD fd fs ft)) (.ok (.mulPs fd fs ft))
  | 0x03#6 => byFmt fmt (.ok (.divS fd fs ft)) (.ok (.divD fd fs ft)) (.ok (.divPs fd fs ft))
  | 0x04#6 => byFmt fmt (one (.sqrtS fd fs)) (one (.sqrtD fd fs)) (one (.sqrtPs fd fs))
  | 0x05#6 => byFmt fmt (one (.absS fd fs)) (one (.absD fd fs)) (one (.absPs fd fs))
  | 0x06#6 => byFmt fmt (one (.movS fd fs)) (one (.movD fd fs)) (one (.movPs fd fs))
  | 0x07#6 => byFmt fmt (one (.negS fd fs)) (one (.negD fd fs)) (one (.negPs fd fs))
  | 0x08#6 => byFmt fmt (one (.roundLS fd fs)) (one (.roundLD fd fs)) (.error .cop1)
  | 0x09#6 => byFmt fmt (one (.truncLS fd fs)) (one (.truncLD fd fs)) (.error .cop1)
  | 0x0A#6 => byFmt fmt (one (.ceilLS fd fs)) (one (.ceilLD fd fs)) (.error .cop1)
  | 0x0B#6 => byFmt fmt (one (.floorLS fd fs)) (one (.floorLD fd fs)) (.error .cop1)
  | 0x0C#6 => byFmt fmt (one (.roundWS fd fs)) (one (.roundWD fd fs)) (.error .cop1)
  | 0x0D#6 => byFmt fmt (one (.truncWS fd fs)) (one (.truncWD fd fs)) (.error .cop1)
  | 0x0E#6 => byFmt fmt (one (.ceilWS fd fs)) (one (.ceilWD fd fs)) (.error .cop1)
  | 0x0F#6 => byFmt fmt (one (.floorWS fd fs)) (one (.floorWD fd fs)) (.error .cop1)
  | 0x15#6 => byFmt fmt (one (.recipS fd fs)) (one (.recipD fd fs)) (one (.recipPs fd fs))
  | 0x1C#6 => byFmt fmt (.ok (.recip2S fd fs ft)) (.ok (.recip2D fd fs ft)) (.ok (.recip2Ps fd fs ft))
  | 0x1F#6 => byFmt fmt (.ok (.rsqrt2S fd fs ft)) (.ok (.rsqrt2D fd fs ft)) (.ok (.rsqrt2Ps fd fs ft))
  | 0x20#6 =>
    match fmt with
    | 17#5 => one (.cvtSD fd fs)
    | 20#5 => one (.cvtSW fd fs)
    | 21#5 => one (.cvtSL fd fs)
    | _ => .error .cop1
  | 0x21#6 =>
    match fmt with
    | 16#5 => one (.cvtDS fd fs)
    | 20#5 => one (.cvtDW fd fs)
    | 21#5 => one (.cvtDL fd fs)
    | _ => .error .cop1
  | 0x24#6 => byFmt fmt (one (.cvtWS fd fs)) (one (.cvtWD fd fs)) (.error .cop1)
  | 0x25#6 => byFmt fmt (one (.cvtLS fd fs)) (one (.cvtLD fd fs)) (.error .cop1)
  | 0x30#6 => compareRow fmt sa (.cFS · fs ft) (.cFD · fs ft) (.cFPs · fs ft)
  | 0x31#6 => compareRow fmt sa (.cUnS · fs ft) (.cUnD · fs ft) (.cUnPs · fs ft)
  | 0x32#6 => compareRow fmt sa (.cEqS · fs ft) (.cEqD · fs ft) (.cEqPs · fs ft)
  | 0x33#6 => compareRow fmt sa (.cUeqS · fs ft) (.cUeqD · fs ft) (.cUeqPs · fs ft)
  | 0x34#6 => compareRow fmt sa (.cOltS · fs ft) (.cOltD · fs ft) (.cOltPs · fs ft)
  | 0x35#6 => compareRow fmt sa (.cUltS · fs ft) (.cUltD · fs ft) (.cUltPs · fs ft)
  | 0x36#6 => compareRow fmt sa (.cOleS · fs ft) (.cOleD · fs ft) (.cOlePs · fs ft)
  | 0x37#6 => compareRow fmt sa (.cUleS · fs ft) (.cUleD · fs ft) (.cUlePs · fs ft)
  | 0x38#6 => compareRow fmt sa (.cSfS · fs ft) (.cSfD · fs ft) (.cSfPs · fs ft)
  | 0x39#6 => compareRow fmt sa (.cNgleS · fs ft) (.cNgleD · fs ft) (.cNglePs · fs ft)
  | 0x3A#6 => compareRow fmt sa (.cSeqS · fs ft) (.cSeqD · fs ft) (.cSeqPs · fs ft)
  | 0x3B#6 => compareRow fmt sa (.cNglS · fs ft) (.cNglD · fs ft) (.cNglPs · fs ft)
  | 0x3C#6 => compareRow fmt sa (.cLtS · fs ft) (.cLtD · fs ft) (.cLtPs · fs ft)
  | 0x3D#6 => compareRow fmt sa (.cNgeS · fs ft) (.cNgeD · fs ft) (.cNgePs · fs ft)
  | 0x3E#6 => compareRow fmt sa (.cLeS · fs ft) (.cLeD · fs ft) (.cLePs · fs ft)
  | 0x3F#6 => compareRow fmt sa (.cNgtS · fs ft) (.cNgtD · fs ft) (.cNgtPs · fs ft)
  | _ => .error .cop1

/-- COP1 (R122): the moves with bits 10:0 zero, the branches with `nd` = 0, and the `fmt` rows. -/
def decodeCop1 (sub rt rd sa : BitVec 5) (funct : BitVec 6) : Decoded :=
  let low := sa == 0#5 && funct == 0#6
  match sub with
  | 0x00#5 => whenZero low (.mfc1 rt rd)
  | 0x01#5 => whenZero low (.dmfc1 rt rd)
  | 0x02#5 => whenZero low (.cfc1 rt rd)
  | 0x04#5 => whenZero low (.mtc1 rt rd)
  | 0x05#5 => whenZero low (.dmtc1 rt rd)
  | 0x06#5 => whenZero low (.ctc1 rt rd)
  | 0x08#5 =>
    let cc := rt.extractLsb' 2 3
    let imm := rd ++ sa ++ funct
    match rt.extractLsb' 0 2 with
    | 0#2 => .ok (.bc1f cc imm)
    | 1#2 => .ok (.bc1t cc imm)
    | _ => .error .mustBeZero
  | _ => decodeCop1Arith sub rt rd sa funct

/-- COP1X, selected by `op4` and `fmt3`, that is by `funct` (R122). -/
def decodeCop1x (fr ft fs fd : BitVec 5) (funct : BitVec 6) : Decoded :=
  match funct with
  | 0x20#6 => .ok (.maddS fd fr fs ft)
  | 0x21#6 => .ok (.maddD fd fr fs ft)
  | 0x26#6 => .ok (.maddPs fd fr fs ft)
  | 0x28#6 => .ok (.msubS fd fr fs ft)
  | 0x29#6 => .ok (.msubD fd fr fs ft)
  | 0x2E#6 => .ok (.msubPs fd fr fs ft)
  | 0x30#6 => .ok (.nmaddS fd fr fs ft)
  | 0x31#6 => .ok (.nmaddD fd fr fs ft)
  | 0x36#6 => .ok (.nmaddPs fd fr fs ft)
  | 0x38#6 => .ok (.nmsubS fd fr fs ft)
  | 0x39#6 => .ok (.nmsubD fd fr fs ft)
  | 0x3E#6 => .ok (.nmsubPs fd fr fs ft)
  | _ => .error .cop1x

/-- What the five bits of `fmtsel` select (R116). -/
inductive LaneSel where
  /-- OB lanes, lane `e` of `vt` broadcast. -/
  | obE (e : BitVec 3)
  /-- OB lanes, `vt` lane by lane. -/
  | obV
  /-- OB lanes, the `vt` field broadcast. -/
  | obI
  /-- QH lanes, lane `e` of `vt` broadcast. -/
  | qhE (e : BitVec 2)
  /-- QH lanes, `vt` lane by lane. -/
  | qhV
  /-- QH lanes, the `vt` field broadcast. -/
  | qhI
  deriving DecidableEq, Repr

/-- The table of R116; the values it does not list select nothing. -/
def decodeSel (fmtsel : BitVec 5) : Option LaneSel :=
  match fmtsel with
  | 22#5 => some .obV
  | 21#5 => some .qhV
  | 30#5 => some .obI
  | 29#5 => some .qhI
  | f =>
    if f.extractLsb' 4 1 = 0#1 ∧ f.extractLsb' 0 1 = 0#1 then some (.obE (f.extractLsb' 1 3))
    else if f.extractLsb' 4 1 = 0#1 ∧ f.extractLsb' 0 2 = 1#2 then some (.qhE (f.extractLsb' 2 2))
    else none

/-- The row of an MDMX instruction that accepts OB only (R123). -/
def selOb (sel : Option LaneSel) (e : BitVec 3 → Instr) (v i : Instr) : Decoded :=
  match sel with
  | some (.obE n) => .ok (e n)
  | some .obV => .ok v
  | some .obI => .ok i
  | _ => .error .mdmx

/-- The row of an MDMX instruction that accepts QH only (R123). -/
def selQh (sel : Option LaneSel) (e : BitVec 2 → Instr) (v i : Instr) : Decoded :=
  match sel with
  | some (.qhE n) => .ok (e n)
  | some .qhV => .ok v
  | some .qhI => .ok i
  | _ => .error .mdmx

/-- The row of an MDMX instruction that accepts both lane formats (R123). -/
def selBoth (sel : Option LaneSel) (obE : BitVec 3 → Instr) (obV obI : Instr) (qhE : BitVec 2 → Instr)
    (qhV qhI : Instr) : Decoded :=
  match sel with
  | some (.obE n) => .ok (obE n)
  | some .obV => .ok obV
  | some .obI => .ok obI
  | some (.qhE n) => .ok (qhE n)
  | some .qhV => .ok qhV
  | some .qhI => .ok qhI
  | none => .error .mdmx

/-- A row whose field must be zero, in front of the selection of its operand. -/
def guardZero (ok : Bool) (d : Decoded) : Decoded := if ok then d else .error .mustBeZero

/-- MDMX shuffles: `fmtsel` is the sub-operation and the lane format (R123). -/
noncomputable def decodeShuffle (op vt vs vd : BitVec 5) : Decoded :=
  match op with
  | 0b00100#5 => .ok (.shflPachOb vd vs vt)
  | 0b00101#5 => .ok (.shflPachQh vd vs vt)
  | 0b00110#5 => .ok (.shflPaclOb vd vs vt)
  | 0b00111#5 => .ok (.shflPaclQh vd vs vt)
  | 0b01000#5 => .ok (.shflMixhOb vd vs vt)
  | 0b01001#5 => .ok (.shflMixhQh vd vs vt)
  | 0b01010#5 => .ok (.shflMixlOb vd vs vt)
  | 0b01011#5 => .ok (.shflMixlQh vd vs vt)
  | 0b01101#5 => .ok (.shflBflaQh vd vs vt)
  | 0b01111#5 => .ok (.shflBflbQh vd vs vt)
  | 0b10001#5 => .ok (.shflRepaQh vd vs vt)
  | 0b10011#5 => .ok (.shflRepbQh vd vs vt)
  | _ => .error .mdmx

/-- MDMX (R123), selected by `funct`; `fmtsel` is bits 25:21 (R116). -/
noncomputable def decodeMdmx (fmtsel vt vs vd : BitVec 5) (funct : BitVec 6) : Decoded :=
  let sel := decodeSel fmtsel
  match funct with
  | 0x00#6 =>
    selQh sel (.msgnQhE vd vs vt) (.msgnQhV vd vs vt) (.msgnQhI vd vs vt)
  | 0x01#6 =>
    guardZero (vd == 0#5) (selBoth sel (.cEqObE vs vt) (.cEqObV vs vt) (.cEqObI vs vt)
      (.cEqQhE vs vt) (.cEqQhV vs vt) (.cEqQhI vs vt))
  | 0x02#6 =>
    selBoth sel (.pickfObE vd vs vt) (.pickfObV vd vs vt) (.pickfObI vd vs vt)
      (.pickfQhE vd vs vt) (.pickfQhV vd vs vt) (.pickfQhI vd vs vt)
  | 0x03#6 =>
    selBoth sel (.picktObE vd vs vt) (.picktObV vd vs vt) (.picktObI vd vs vt)
      (.picktQhE vd vs vt) (.picktQhV vd vs vt) (.picktQhI vd vs vt)
  | 0x04#6 =>
    guardZero (vd == 0#5) (selBoth sel (.cLtObE vs vt) (.cLtObV vs vt) (.cLtObI vs vt)
      (.cLtQhE vs vt) (.cLtQhV vs vt) (.cLtQhI vs vt))
  | 0x05#6 =>
    guardZero (vd == 0#5) (selBoth sel (.cLeObE vs vt) (.cLeObV vs vt) (.cLeObI vs vt)
      (.cLeQhE vs vt) (.cLeQhV vs vt) (.cLeQhI vs vt))
  | 0x06#6 =>
    selBoth sel (.minObE vd vs vt) (.minObV vd vs vt) (.minObI vd vs vt)
      (.minQhE vd vs vt) (.minQhV vd vs vt) (.minQhI vd vs vt)
  | 0x07#6 =>
    selBoth sel (.maxObE vd vs vt) (.maxObV vd vs vt) (.maxObI vd vs vt)
      (.maxQhE vd vs vt) (.maxQhV vd vs vt) (.maxQhI vd vs vt)
  | 0x08#6 =>
    selOb sel (.pavgObE vd vs vt) (.pavgObV vd vs vt) (.pavgObI vd vs vt)
  | 0x09#6 =>
    selOb sel (.pabsdiffObE vd vs vt) (.pabsdiffObV vd vs vt) (.pabsdiffObI vd vs vt)
  | 0x0A#6 =>
    selBoth sel (.subObE vd vs vt) (.subObV vd vs vt) (.subObI vd vs vt)
      (.subQhE vd vs vt) (.subQhV vd vs vt) (.subQhI vd vs vt)
  | 0x0B#6 =>
    selBoth sel (.addObE vd vs vt) (.addObV vd vs vt) (.addObI vd vs vt)
      (.addQhE vd vs vt) (.addQhV vd vs vt) (.addQhI vd vs vt)
  | 0x0C#6 =>
    selBoth sel (.andObE vd vs vt) (.andObV vd vs vt) (.andObI vd vs vt)
      (.andQhE vd vs vt) (.andQhV vd vs vt) (.andQhI vd vs vt)
  | 0x0D#6 =>
    selBoth sel (.xorObE vd vs vt) (.xorObV vd vs vt) (.xorObI vd vs vt)
      (.xorQhE vd vs vt) (.xorQhV vd vs vt) (.xorQhI vd vs vt)
  | 0x0E#6 =>
    selBoth sel (.orObE vd vs vt) (.orObV vd vs vt) (.orObI vd vs vt)
      (.orQhE vd vs vt) (.orQhV vd vs vt) (.orQhI vd vs vt)
  | 0x0F#6 =>
    selBoth sel (.norObE vd vs vt) (.norObV vd vs vt) (.norObI vd vs vt)
      (.norQhE vd vs vt) (.norQhV vd vs vt) (.norQhI vd vs vt)
  | 0x10#6 =>
    selBoth sel (.sllObE vd vs vt) (.sllObV vd vs vt) (.sllObI vd vs vt)
      (.sllQhE vd vs vt) (.sllQhV vd vs vt) (.sllQhI vd vs vt)
  | 0x12#6 =>
    selBoth sel (.srlObE vd vs vt) (.srlObV vd vs vt) (.srlObI vd vs vt)
      (.srlQhE vd vs vt) (.srlQhV vd vs vt) (.srlQhI vd vs vt)
  | 0x13#6 =>
    selQh sel (.sraQhE vd vs vt) (.sraQhV vd vs vt) (.sraQhI vd vs vt)
  | 0x1F#6 => decodeShuffle fmtsel vt vs vd
  | 0x20#6 =>
    guardZero (vs == 0#5) (selBoth sel (.rzuObE vd vt) (.rzuObV vd vt) (.rzuObI vd vt)
      (.rzuQhE vd vt) (.rzuQhV vd vt) (.rzuQhI vd vt))
  | 0x21#6 =>
    guardZero (vs == 0#5) (selBoth sel (.rnauObE vd vt) (.rnauObV vd vt) (.rnauObI vd vt)
      (.rnauQhE vd vt) (.rnauQhV vd vt) (.rnauQhI vd vt))
  | 0x22#6 =>
    guardZero (vs == 0#5) (selBoth sel (.rneuObE vd vt) (.rneuObV vd vt) (.rneuObI vd vt)
      (.rneuQhE vd vt) (.rneuQhV vd vt) (.rneuQhI vd vt))
  | 0x24#6 =>
    guardZero (vs == 0#5) (selQh sel (.rzsQhE vd vt) (.rzsQhV vd vt) (.rzsQhI vd vt))
  | 0x25#6 =>
    guardZero (vs == 0#5) (selQh sel (.rnasQhE vd vt) (.rnasQhV vd vt) (.rnasQhI vd vt))
  | 0x26#6 =>
    guardZero (vs == 0#5) (selQh sel (.rnesQhE vd vt) (.rnesQhV vd vt) (.rnesQhI vd vt))
  | 0x30#6 =>
    selBoth sel (.mulObE vd vs vt) (.mulObV vd vs vt) (.mulObI vd vs vt)
      (.mulQhE vd vs vt) (.mulQhV vd vs vt) (.mulQhI vd vs vt)
  | 0x32#6 =>
    match vd with
    | 0b00000#5 =>
      selBoth sel (.mulsObE vs vt) (.mulsObV vs vt) (.mulsObI vs vt)
        (.mulsQhE vs vt) (.mulsQhV vs vt) (.mulsQhI vs vt)
    | 0b10000#5 =>
      selBoth sel (.mulslObE vs vt) (.mulslObV vs vt) (.mulslObI vs vt)
        (.mulslQhE vs vt) (.mulslQhV vs vt) (.mulslQhI vs vt)
    | _ => .error .mustBeZero
  | 0x33#6 =>
    match vd with
    | 0b00000#5 =>
      selBoth sel (.mulaObE vs vt) (.mulaObV vs vt) (.mulaObI vs vt)
        (.mulaQhE vs vt) (.mulaQhV vs vt) (.mulaQhI vs vt)
    | 0b10000#5 =>
      selBoth sel (.mullObE vs vt) (.mullObV vs vt) (.mullObI vs vt)
        (.mullQhE vs vt) (.mullQhV vs vt) (.mullQhI vs vt)
    | _ => .error .mustBeZero
  | 0x36#6 =>
    match vd with
    | 0b00000#5 =>
      selBoth sel (.subaObE vs vt) (.subaObV vs vt) (.subaObI vs vt)
        (.subaQhE vs vt) (.subaQhV vs vt) (.subaQhI vs vt)
    | 0b10000#5 =>
      selBoth sel (.sublObE vs vt) (.sublObV vs vt) (.sublObI vs vt)
        (.sublQhE vs vt) (.sublQhV vs vt) (.sublQhI vs vt)
    | _ => .error .mustBeZero
  | 0x37#6 =>
    match vd with
    | 0b00000#5 =>
      selBoth sel (.addaObE vs vt) (.addaObV vs vt) (.addaObI vs vt)
        (.addaQhE vs vt) (.addaQhV vs vt) (.addaQhI vs vt)
    | 0b10000#5 =>
      selBoth sel (.addlObE vs vt) (.addlObV vs vt) (.addlObI vs vt)
        (.addlQhE vs vt) (.addlQhV vs vt) (.addlQhI vs vt)
    | _ => .error .mustBeZero
  | 0x3E#6 =>
    match fmtsel with
    | 0b00000#5 => whenZero (vt == 0#5 && vd == 0#5) (.wachOb vs)
    | 0b00001#5 => whenZero (vt == 0#5 && vd == 0#5) (.wachQh vs)
    | 0b10000#5 => whenZero (vd == 0#5) (.waclOb vs vt)
    | 0b10001#5 => whenZero (vd == 0#5) (.waclQh vs vt)
    | _ => .error .mdmx
  | 0x3F#6 =>
    match fmtsel with
    | 0b00000#5 => whenZero (vt == 0#5 && vs == 0#5) (.raclOb vd)
    | 0b00001#5 => whenZero (vt == 0#5 && vs == 0#5) (.raclQh vd)
    | 0b01000#5 => whenZero (vt == 0#5 && vs == 0#5) (.racmOb vd)
    | 0b01001#5 => whenZero (vt == 0#5 && vs == 0#5) (.racmQh vd)
    | 0b10000#5 => whenZero (vt == 0#5 && vs == 0#5) (.rachOb vd)
    | 0b10001#5 => whenZero (vt == 0#5 && vs == 0#5) (.rachQh vd)
    | _ => .error .mdmx
  | _ => .error .mdmx

/-- The decoder over the six fields of format R (R112): every other format's fields are these or their concatenations,
`imm = rd ‖ sa ‖ funct`, `index = rs ‖ rt ‖ rd ‖ sa ‖ funct`. Primary opcodes by R117. -/
noncomputable def decodeFields (op : BitVec 6) (rs rt rd sa : BitVec 5) (funct : BitVec 6) : Decoded :=
  let imm := rd ++ sa ++ funct
  match op with
  | 0x00#6 => decodeSpecial rs rt rd sa funct
  | 0x01#6 => decodeRegimm rs rt imm
  | 0x02#6 => .ok (.j (rs ++ rt ++ rd ++ sa ++ funct))
  | 0x03#6 => .ok (.jal (rs ++ rt ++ rd ++ sa ++ funct))
  | 0x04#6 => .ok (.beq rs rt imm)
  | 0x05#6 => .ok (.bne rs rt imm)
  | 0x06#6 => whenZero (rt == 0#5) (.blez rs imm)
  | 0x07#6 => whenZero (rt == 0#5) (.bgtz rs imm)
  | 0x08#6 => .ok (.addi rt rs imm)
  | 0x09#6 => .ok (.addiu rt rs imm)
  | 0x0A#6 => .ok (.slti rt rs imm)
  | 0x0B#6 => .ok (.sltiu rt rs imm)
  | 0x0C#6 => .ok (.andi rt rs imm)
  | 0x0D#6 => .ok (.ori rt rs imm)
  | 0x0E#6 => .ok (.xori rt rs imm)
  | 0x0F#6 => whenZero (rs == 0#5) (.lui rt imm)
  | 0x10#6 => decodeCop0 rs rt rd sa funct
  | 0x11#6 => decodeCop1 rs rt rd sa funct
  | 0x13#6 => decodeCop1x rs rt rd sa funct
  | 0x18#6 => .ok (.daddi rt rs imm)
  | 0x19#6 => .ok (.daddiu rt rs imm)
  | 0x1A#6 => .ok (.ldl rt rs imm)
  | 0x1B#6 => .ok (.ldr rt rs imm)
  | 0x1E#6 => decodeMdmx rs rt rd sa funct
  | 0x20#6 => .ok (.lb rt rs imm)
  | 0x21#6 => .ok (.lh rt rs imm)
  | 0x22#6 => .ok (.lwl rt rs imm)
  | 0x23#6 => .ok (.lw rt rs imm)
  | 0x24#6 => .ok (.lbu rt rs imm)
  | 0x25#6 => .ok (.lhu rt rs imm)
  | 0x26#6 => .ok (.lwr rt rs imm)
  | 0x27#6 => .ok (.lwu rt rs imm)
  | 0x28#6 => .ok (.sb rt rs imm)
  | 0x29#6 => .ok (.sh rt rs imm)
  | 0x2A#6 => .ok (.swl rt rs imm)
  | 0x2B#6 => .ok (.sw rt rs imm)
  | 0x2C#6 => .ok (.sdl rt rs imm)
  | 0x2D#6 => .ok (.sdr rt rs imm)
  | 0x2E#6 => .ok (.swr rt rs imm)
  | 0x30#6 => .ok (.ll rt rs imm)
  | 0x31#6 => .ok (.lwc1 rt rs imm)
  | 0x34#6 => .ok (.lld rt rs imm)
  | 0x35#6 => .ok (.ldc1 rt rs imm)
  | 0x37#6 => .ok (.ld rt rs imm)
  | 0x38#6 => .ok (.sc rt rs imm)
  | 0x39#6 => .ok (.swc1 rt rs imm)
  | 0x3C#6 => .ok (.scd rt rs imm)
  | 0x3D#6 => .ok (.sdc1 rt rs imm)
  | 0x3F#6 => .ok (.sd rt rs imm)
  | _ => .error .primaryOpcode

/-- Decodes a 32-bit word (R110, R111). -/
noncomputable def decode (w : BitVec 32) : Decoded :=
  decodeFields (w.extractLsb' 26 6) (w.extractLsb' 21 5) (w.extractLsb' 16 5) (w.extractLsb' 11 5)
    (w.extractLsb' 6 5) (w.extractLsb' 0 6)

/-- Four bytes as a word, lowest address first: big-endian or little-endian (20_memory.md R90). -/
def wordOfBytes (bigEndian : Bool) (b0 b1 b2 b3 : Byte) : BitVec 32 :=
  if bigEndian then b0 ++ b1 ++ b2 ++ b3 else b3 ++ b2 ++ b1 ++ b0

/-- A word as four bytes, lowest address first: the inverse of `wordOfBytes`. -/
def bytesOfWord (bigEndian : Bool) (w : BitVec 32) : List Byte :=
  let be := [w.extractLsb' 24 8, w.extractLsb' 16 8, w.extractLsb' 8 8, w.extractLsb' 0 8]
  if bigEndian then be else be.reverse

/-- Decodes the instruction at the head of a list of bytes, lowest address first, and gives the bytes after it.
Every instruction is four bytes long (R110). -/
noncomputable def decodeBytes (bigEndian : Bool) : List Byte → Except Reserved (Instr × List Byte)
  | b0 :: b1 :: b2 :: b3 :: rest =>
    match decode (wordOfBytes bigEndian b0 b1 b2 b3) with
    | .ok i => .ok (i, rest)
    | .error r => .error r
  | _ => .error .truncated

/-- The instruction the decoder reads from a word whose bits are `w` (numbered as spec/opcode_table.json numbers them:
bit 0 the least significant) of which the table gives `nbits` bits; none where the decoder rejects. The word is laid
out in memory order of a default (big-endian) core and read back by `decodeBytes`. -/
noncomputable def decodeTableWord (nbits w : Nat) : Option Instr :=
  match decodeBytes Config.default.bigEndian
      (bytesOfWord Config.default.bigEndian (BitVec.ofNat 32 (w % 2 ^ nbits))) with
  | .ok (i, _) => some i
  | .error _ => none

/-- A word in format R (R112). -/
def rType (op : BitVec 6) (rs rt rd sa : BitVec 5) (funct : BitVec 6) : BitVec 32 :=
  op ++ rs ++ rt ++ rd ++ sa ++ funct

/-- A word in format I, and in formats RI and FB, whose bits 25:16 are two five-bit fields (R112). -/
def iType (op : BitVec 6) (rs rt : BitVec 5) (imm : BitVec 16) : BitVec 32 := op ++ rs ++ rt ++ imm

/-- A word in format J (R112). -/
def jType (op : BitVec 6) (index : BitVec 26) : BitVec 32 := op ++ index

/-- A SPECIAL word whose bits 25:6 are a code (R119). -/
def codeType (code : BitVec 20) (funct : BitVec 6) : BitVec 32 := 0x00#6 ++ code ++ funct

/-- A word in format MX (R112): `fmtsel` is written out by R116 in each form below. -/
def mxType (fmtsel vt vs vd : BitVec 5) (funct : BitVec 6) : BitVec 32 := 0x1E#6 ++ fmtsel ++ vt ++ vs ++ vd ++ funct

/-- `fmtsel` of the OB form by element `e` (R116). -/
def fmtObE (e : BitVec 3) : BitVec 5 := 0#1 ++ e ++ 0#1

/-- `fmtsel` of the QH form by element `e` (R116). -/
def fmtQhE (e : BitVec 2) : BitVec 5 := 0#1 ++ e ++ 1#2

/-- Bits 10:6 of a compare: the condition code and two zero bits (R112, format FC). -/
def ccField (cc : BitVec 3) : BitVec 5 := cc ++ 0#2

/-- Bits 20:16 of an FPU branch: the condition code, `nd` = 0 and `tf` (R112, format FB). -/
def branchField (cc : BitVec 3) (tf : BitVec 1) : BitVec 5 := cc ++ 0#1 ++ tf

/-- The word of an instruction, from the tables of R117 and R119-R123. For a well-formed instruction the decoder reads
it back. -/
def encode (i : Instr) : BitVec 32 :=
  match i with
  | .sll rd rt sa => rType 0x00#6 0x00#5 rt rd sa 0x00#6
  | .srl rd rt sa => rType 0x00#6 0x00#5 rt rd sa 0x02#6
  | .sra rd rt sa => rType 0x00#6 0x00#5 rt rd sa 0x03#6
  | .dsll rd rt sa => rType 0x00#6 0x00#5 rt rd sa 0x38#6
  | .dsrl rd rt sa => rType 0x00#6 0x00#5 rt rd sa 0x3A#6
  | .dsra rd rt sa => rType 0x00#6 0x00#5 rt rd sa 0x3B#6
  | .dsll32 rd rt sa => rType 0x00#6 0x00#5 rt rd sa 0x3C#6
  | .dsrl32 rd rt sa => rType 0x00#6 0x00#5 rt rd sa 0x3E#6
  | .dsra32 rd rt sa => rType 0x00#6 0x00#5 rt rd sa 0x3F#6
  | .sllv rd rt rs => rType 0x00#6 rs rt rd 0x00#5 0x04#6
  | .srlv rd rt rs => rType 0x00#6 rs rt rd 0x00#5 0x06#6
  | .srav rd rt rs => rType 0x00#6 rs rt rd 0x00#5 0x07#6
  | .dsllv rd rt rs => rType 0x00#6 rs rt rd 0x00#5 0x14#6
  | .dsrlv rd rt rs => rType 0x00#6 rs rt rd 0x00#5 0x16#6
  | .dsrav rd rt rs => rType 0x00#6 rs rt rd 0x00#5 0x17#6
  | .add rd rs rt => rType 0x00#6 rs rt rd 0x00#5 0x20#6
  | .addu rd rs rt => rType 0x00#6 rs rt rd 0x00#5 0x21#6
  | .sub rd rs rt => rType 0x00#6 rs rt rd 0x00#5 0x22#6
  | .subu rd rs rt => rType 0x00#6 rs rt rd 0x00#5 0x23#6
  | .and rd rs rt => rType 0x00#6 rs rt rd 0x00#5 0x24#6
  | .or rd rs rt => rType 0x00#6 rs rt rd 0x00#5 0x25#6
  | .xor rd rs rt => rType 0x00#6 rs rt rd 0x00#5 0x26#6
  | .nor rd rs rt => rType 0x00#6 rs rt rd 0x00#5 0x27#6
  | .slt rd rs rt => rType 0x00#6 rs rt rd 0x00#5 0x2A#6
  | .sltu rd rs rt => rType 0x00#6 rs rt rd 0x00#5 0x2B#6
  | .dadd rd rs rt => rType 0x00#6 rs rt rd 0x00#5 0x2C#6
  | .daddu rd rs rt => rType 0x00#6 rs rt rd 0x00#5 0x2D#6
  | .dsub rd rs rt => rType 0x00#6 rs rt rd 0x00#5 0x2E#6
  | .dsubu rd rs rt => rType 0x00#6 rs rt rd 0x00#5 0x2F#6
  | .jr rs => rType 0x00#6 rs 0x00#5 0x00#5 0x00#5 0x08#6
  | .jalr rd rs => rType 0x00#6 rs 0x00#5 rd 0x00#5 0x09#6
  | .syscall code => codeType code 0x0C#6
  | .brk code => codeType code 0x0D#6
  | .halt => codeType 0xFFFFF#20 0x0D#6
  | .sync => rType 0x00#6 0x00#5 0x00#5 0x00#5 0x00#5 0x0F#6
  | .bltz rs imm => iType 0x01#6 rs 0x00#5 imm
  | .bgez rs imm => iType 0x01#6 rs 0x01#5 imm
  | .j index => jType 0x02#6 index
  | .jal index => jType 0x03#6 index
  | .beq rs rt imm => iType 0x04#6 rs rt imm
  | .bne rs rt imm => iType 0x05#6 rs rt imm
  | .blez rs imm => iType 0x06#6 rs 0x00#5 imm
  | .bgtz rs imm => iType 0x07#6 rs 0x00#5 imm
  | .addi rt rs imm => iType 0x08#6 rs rt imm
  | .addiu rt rs imm => iType 0x09#6 rs rt imm
  | .slti rt rs imm => iType 0x0A#6 rs rt imm
  | .sltiu rt rs imm => iType 0x0B#6 rs rt imm
  | .andi rt rs imm => iType 0x0C#6 rs rt imm
  | .ori rt rs imm => iType 0x0D#6 rs rt imm
  | .xori rt rs imm => iType 0x0E#6 rs rt imm
  | .daddi rt rs imm => iType 0x18#6 rs rt imm
  | .daddiu rt rs imm => iType 0x19#6 rs rt imm
  | .lui rt imm => iType 0x0F#6 0x00#5 rt imm
  | .lb rt base imm => iType 0x20#6 base rt imm
  | .lbu rt base imm => iType 0x24#6 base rt imm
  | .lh rt base imm => iType 0x21#6 base rt imm
  | .lhu rt base imm => iType 0x25#6 base rt imm
  | .lw rt base imm => iType 0x23#6 base rt imm
  | .lwu rt base imm => iType 0x27#6 base rt imm
  | .ld rt base imm => iType 0x37#6 base rt imm
  | .sb rt base imm => iType 0x28#6 base rt imm
  | .sh rt base imm => iType 0x29#6 base rt imm
  | .sw rt base imm => iType 0x2B#6 base rt imm
  | .sd rt base imm => iType 0x3F#6 base rt imm
  | .ll rt base imm => iType 0x30#6 base rt imm
  | .lld rt base imm => iType 0x34#6 base rt imm
  | .sc rt base imm => iType 0x38#6 base rt imm
  | .scd rt base imm => iType 0x3C#6 base rt imm
  | .lwl rt base imm => iType 0x22#6 base rt imm
  | .lwr rt base imm => iType 0x26#6 base rt imm
  | .ldl rt base imm => iType 0x1A#6 base rt imm
  | .ldr rt base imm => iType 0x1B#6 base rt imm
  | .swl rt base imm => iType 0x2A#6 base rt imm
  | .swr rt base imm => iType 0x2E#6 base rt imm
  | .sdl rt base imm => iType 0x2C#6 base rt imm
  | .sdr rt base imm => iType 0x2D#6 base rt imm
  | .lwc1 ft base imm => iType 0x31#6 base ft imm
  | .ldc1 ft base imm => iType 0x35#6 base ft imm
  | .swc1 ft base imm => iType 0x39#6 base ft imm
  | .sdc1 ft base imm => iType 0x3D#6 base ft imm
  | .mfc0 rt rd => rType 0x10#6 0x00#5 rt rd 0x00#5 0x00#6
  | .dmfc0 rt rd => rType 0x10#6 0x01#5 rt rd 0x00#5 0x00#6
  | .mtc0 rt rd => rType 0x10#6 0x04#5 rt rd 0x00#5 0x00#6
  | .dmtc0 rt rd => rType 0x10#6 0x05#5 rt rd 0x00#5 0x00#6
  | .eret => rType 0x10#6 0x10#5 0x00#5 0x00#5 0x00#5 0x18#6
  | .mfc1 rt fs => rType 0x11#6 0x00#5 rt fs 0x00#5 0x00#6
  | .dmfc1 rt fs => rType 0x11#6 0x01#5 rt fs 0x00#5 0x00#6
  | .cfc1 rt fs => rType 0x11#6 0x02#5 rt fs 0x00#5 0x00#6
  | .mtc1 rt fs => rType 0x11#6 0x04#5 rt fs 0x00#5 0x00#6
  | .dmtc1 rt fs => rType 0x11#6 0x05#5 rt fs 0x00#5 0x00#6
  | .ctc1 rt fs => rType 0x11#6 0x06#5 rt fs 0x00#5 0x00#6
  | .bc1f cc imm => iType 0x11#6 0x08#5 (branchField cc 0#1) imm
  | .bc1t cc imm => iType 0x11#6 0x08#5 (branchField cc 1#1) imm
  | .addS fd fs ft => rType 0x11#6 0x10#5 ft fs fd 0x00#6
  | .addD fd fs ft => rType 0x11#6 0x11#5 ft fs fd 0x00#6
  | .addPs fd fs ft => rType 0x11#6 0x16#5 ft fs fd 0x00#6
  | .subS fd fs ft => rType 0x11#6 0x10#5 ft fs fd 0x01#6
  | .subD fd fs ft => rType 0x11#6 0x11#5 ft fs fd 0x01#6
  | .subPs fd fs ft => rType 0x11#6 0x16#5 ft fs fd 0x01#6
  | .mulS fd fs ft => rType 0x11#6 0x10#5 ft fs fd 0x02#6
  | .mulD fd fs ft => rType 0x11#6 0x11#5 ft fs fd 0x02#6
  | .mulPs fd fs ft => rType 0x11#6 0x16#5 ft fs fd 0x02#6
  | .divS fd fs ft => rType 0x11#6 0x10#5 ft fs fd 0x03#6
  | .divD fd fs ft => rType 0x11#6 0x11#5 ft fs fd 0x03#6
  | .divPs fd fs ft => rType 0x11#6 0x16#5 ft fs fd 0x03#6
  | .recip2S fd fs ft => rType 0x11#6 0x10#5 ft fs fd 0x1C#6
  | .recip2D fd fs ft => rType 0x11#6 0x11#5 ft fs fd 0x1C#6
  | .recip2Ps fd fs ft => rType 0x11#6 0x16#5 ft fs fd 0x1C#6
  | .rsqrt2S fd fs ft => rType 0x11#6 0x10#5 ft fs fd 0x1F#6
  | .rsqrt2D fd fs ft => rType 0x11#6 0x11#5 ft fs fd 0x1F#6
  | .rsqrt2Ps fd fs ft => rType 0x11#6 0x16#5 ft fs fd 0x1F#6
  | .sqrtS fd fs => rType 0x11#6 0x10#5 0x00#5 fs fd 0x04#6
  | .sqrtD fd fs => rType 0x11#6 0x11#5 0x00#5 fs fd 0x04#6
  | .sqrtPs fd fs => rType 0x11#6 0x16#5 0x00#5 fs fd 0x04#6
  | .absS fd fs => rType 0x11#6 0x10#5 0x00#5 fs fd 0x05#6
  | .absD fd fs => rType 0x11#6 0x11#5 0x00#5 fs fd 0x05#6
  | .absPs fd fs => rType 0x11#6 0x16#5 0x00#5 fs fd 0x05#6
  | .movS fd fs => rType 0x11#6 0x10#5 0x00#5 fs fd 0x06#6
  | .movD fd fs => rType 0x11#6 0x11#5 0x00#5 fs fd 0x06#6
  | .movPs fd fs => rType 0x11#6 0x16#5 0x00#5 fs fd 0x06#6
  | .negS fd fs => rType 0x11#6 0x10#5 0x00#5 fs fd 0x07#6
  | .negD fd fs => rType 0x11#6 0x11#5 0x00#5 fs fd 0x07#6
  | .negPs fd fs => rType 0x11#6 0x16#5 0x00#5 fs fd 0x07#6
  | .recipS fd fs => rType 0x11#6 0x10#5 0x00#5 fs fd 0x15#6
  | .recipD fd fs => rType 0x11#6 0x11#5 0x00#5 fs fd 0x15#6
  | .recipPs fd fs => rType 0x11#6 0x16#5 0x00#5 fs fd 0x15#6
  | .roundLS fd fs => rType 0x11#6 0x10#5 0x00#5 fs fd 0x08#6
  | .roundLD fd fs => rType 0x11#6 0x11#5 0x00#5 fs fd 0x08#6
  | .truncLS fd fs => rType 0x11#6 0x10#5 0x00#5 fs fd 0x09#6
  | .truncLD fd fs => rType 0x11#6 0x11#5 0x00#5 fs fd 0x09#6
  | .ceilLS fd fs => rType 0x11#6 0x10#5 0x00#5 fs fd 0x0A#6
  | .ceilLD fd fs => rType 0x11#6 0x11#5 0x00#5 fs fd 0x0A#6
  | .floorLS fd fs => rType 0x11#6 0x10#5 0x00#5 fs fd 0x0B#6
  | .floorLD fd fs => rType 0x11#6 0x11#5 0x00#5 fs fd 0x0B#6
  | .roundWS fd fs => rType 0x11#6 0x10#5 0x00#5 fs fd 0x0C#6
  | .roundWD fd fs => rType 0x11#6 0x11#5 0x00#5 fs fd 0x0C#6
  | .truncWS fd fs => rType 0x11#6 0x10#5 0x00#5 fs fd 0x0D#6
  | .truncWD fd fs => rType 0x11#6 0x11#5 0x00#5 fs fd 0x0D#6
  | .ceilWS fd fs => rType 0x11#6 0x10#5 0x00#5 fs fd 0x0E#6
  | .ceilWD fd fs => rType 0x11#6 0x11#5 0x00#5 fs fd 0x0E#6
  | .floorWS fd fs => rType 0x11#6 0x10#5 0x00#5 fs fd 0x0F#6
  | .floorWD fd fs => rType 0x11#6 0x11#5 0x00#5 fs fd 0x0F#6
  | .cvtWS fd fs => rType 0x11#6 0x10#5 0x00#5 fs fd 0x24#6
  | .cvtWD fd fs => rType 0x11#6 0x11#5 0x00#5 fs fd 0x24#6
  | .cvtLS fd fs => rType 0x11#6 0x10#5 0x00#5 fs fd 0x25#6
  | .cvtLD fd fs => rType 0x11#6 0x11#5 0x00#5 fs fd 0x25#6
  | .cvtSD fd fs => rType 0x11#6 0x11#5 0x00#5 fs fd 0x20#6
  | .cvtSW fd fs => rType 0x11#6 0x14#5 0x00#5 fs fd 0x20#6
  | .cvtSL fd fs => rType 0x11#6 0x15#5 0x00#5 fs fd 0x20#6
  | .cvtDS fd fs => rType 0x11#6 0x10#5 0x00#5 fs fd 0x21#6
  | .cvtDW fd fs => rType 0x11#6 0x14#5 0x00#5 fs fd 0x21#6
  | .cvtDL fd fs => rType 0x11#6 0x15#5 0x00#5 fs fd 0x21#6
  | .cFS cc fs ft => rType 0x11#6 0x10#5 ft fs (ccField cc) 0x30#6
  | .cFD cc fs ft => rType 0x11#6 0x11#5 ft fs (ccField cc) 0x30#6
  | .cFPs cc fs ft => rType 0x11#6 0x16#5 ft fs (ccField cc) 0x30#6
  | .cUnS cc fs ft => rType 0x11#6 0x10#5 ft fs (ccField cc) 0x31#6
  | .cUnD cc fs ft => rType 0x11#6 0x11#5 ft fs (ccField cc) 0x31#6
  | .cUnPs cc fs ft => rType 0x11#6 0x16#5 ft fs (ccField cc) 0x31#6
  | .cEqS cc fs ft => rType 0x11#6 0x10#5 ft fs (ccField cc) 0x32#6
  | .cEqD cc fs ft => rType 0x11#6 0x11#5 ft fs (ccField cc) 0x32#6
  | .cEqPs cc fs ft => rType 0x11#6 0x16#5 ft fs (ccField cc) 0x32#6
  | .cUeqS cc fs ft => rType 0x11#6 0x10#5 ft fs (ccField cc) 0x33#6
  | .cUeqD cc fs ft => rType 0x11#6 0x11#5 ft fs (ccField cc) 0x33#6
  | .cUeqPs cc fs ft => rType 0x11#6 0x16#5 ft fs (ccField cc) 0x33#6
  | .cOltS cc fs ft => rType 0x11#6 0x10#5 ft fs (ccField cc) 0x34#6
  | .cOltD cc fs ft => rType 0x11#6 0x11#5 ft fs (ccField cc) 0x34#6
  | .cOltPs cc fs ft => rType 0x11#6 0x16#5 ft fs (ccField cc) 0x34#6
  | .cUltS cc fs ft => rType 0x11#6 0x10#5 ft fs (ccField cc) 0x35#6
  | .cUltD cc fs ft => rType 0x11#6 0x11#5 ft fs (ccField cc) 0x35#6
  | .cUltPs cc fs ft => rType 0x11#6 0x16#5 ft fs (ccField cc) 0x35#6
  | .cOleS cc fs ft => rType 0x11#6 0x10#5 ft fs (ccField cc) 0x36#6
  | .cOleD cc fs ft => rType 0x11#6 0x11#5 ft fs (ccField cc) 0x36#6
  | .cOlePs cc fs ft => rType 0x11#6 0x16#5 ft fs (ccField cc) 0x36#6
  | .cUleS cc fs ft => rType 0x11#6 0x10#5 ft fs (ccField cc) 0x37#6
  | .cUleD cc fs ft => rType 0x11#6 0x11#5 ft fs (ccField cc) 0x37#6
  | .cUlePs cc fs ft => rType 0x11#6 0x16#5 ft fs (ccField cc) 0x37#6
  | .cSfS cc fs ft => rType 0x11#6 0x10#5 ft fs (ccField cc) 0x38#6
  | .cSfD cc fs ft => rType 0x11#6 0x11#5 ft fs (ccField cc) 0x38#6
  | .cSfPs cc fs ft => rType 0x11#6 0x16#5 ft fs (ccField cc) 0x38#6
  | .cNgleS cc fs ft => rType 0x11#6 0x10#5 ft fs (ccField cc) 0x39#6
  | .cNgleD cc fs ft => rType 0x11#6 0x11#5 ft fs (ccField cc) 0x39#6
  | .cNglePs cc fs ft => rType 0x11#6 0x16#5 ft fs (ccField cc) 0x39#6
  | .cSeqS cc fs ft => rType 0x11#6 0x10#5 ft fs (ccField cc) 0x3A#6
  | .cSeqD cc fs ft => rType 0x11#6 0x11#5 ft fs (ccField cc) 0x3A#6
  | .cSeqPs cc fs ft => rType 0x11#6 0x16#5 ft fs (ccField cc) 0x3A#6
  | .cNglS cc fs ft => rType 0x11#6 0x10#5 ft fs (ccField cc) 0x3B#6
  | .cNglD cc fs ft => rType 0x11#6 0x11#5 ft fs (ccField cc) 0x3B#6
  | .cNglPs cc fs ft => rType 0x11#6 0x16#5 ft fs (ccField cc) 0x3B#6
  | .cLtS cc fs ft => rType 0x11#6 0x10#5 ft fs (ccField cc) 0x3C#6
  | .cLtD cc fs ft => rType 0x11#6 0x11#5 ft fs (ccField cc) 0x3C#6
  | .cLtPs cc fs ft => rType 0x11#6 0x16#5 ft fs (ccField cc) 0x3C#6
  | .cNgeS cc fs ft => rType 0x11#6 0x10#5 ft fs (ccField cc) 0x3D#6
  | .cNgeD cc fs ft => rType 0x11#6 0x11#5 ft fs (ccField cc) 0x3D#6
  | .cNgePs cc fs ft => rType 0x11#6 0x16#5 ft fs (ccField cc) 0x3D#6
  | .cLeS cc fs ft => rType 0x11#6 0x10#5 ft fs (ccField cc) 0x3E#6
  | .cLeD cc fs ft => rType 0x11#6 0x11#5 ft fs (ccField cc) 0x3E#6
  | .cLePs cc fs ft => rType 0x11#6 0x16#5 ft fs (ccField cc) 0x3E#6
  | .cNgtS cc fs ft => rType 0x11#6 0x10#5 ft fs (ccField cc) 0x3F#6
  | .cNgtD cc fs ft => rType 0x11#6 0x11#5 ft fs (ccField cc) 0x3F#6
  | .cNgtPs cc fs ft => rType 0x11#6 0x16#5 ft fs (ccField cc) 0x3F#6
  | .maddS fd fr fs ft => rType 0x13#6 fr ft fs fd 0x20#6
  | .maddD fd fr fs ft => rType 0x13#6 fr ft fs fd 0x21#6
  | .maddPs fd fr fs ft => rType 0x13#6 fr ft fs fd 0x26#6
  | .msubS fd fr fs ft => rType 0x13#6 fr ft fs fd 0x28#6
  | .msubD fd fr fs ft => rType 0x13#6 fr ft fs fd 0x29#6
  | .msubPs fd fr fs ft => rType 0x13#6 fr ft fs fd 0x2E#6
  | .nmaddS fd fr fs ft => rType 0x13#6 fr ft fs fd 0x30#6
  | .nmaddD fd fr fs ft => rType 0x13#6 fr ft fs fd 0x31#6
  | .nmaddPs fd fr fs ft => rType 0x13#6 fr ft fs fd 0x36#6
  | .nmsubS fd fr fs ft => rType 0x13#6 fr ft fs fd 0x38#6
  | .nmsubD fd fr fs ft => rType 0x13#6 fr ft fs fd 0x39#6
  | .nmsubPs fd fr fs ft => rType 0x13#6 fr ft fs fd 0x3E#6
  | .addObE vd vs vt e => mxType (fmtObE e) vt vs vd 0x0B#6
  | .addObV vd vs vt => mxType 22#5 vt vs vd 0x0B#6
  | .addObI vd vs imm5 => mxType 30#5 imm5 vs vd 0x0B#6
  | .addQhE vd vs vt e => mxType (fmtQhE e) vt vs vd 0x0B#6
  | .addQhV vd vs vt => mxType 21#5 vt vs vd 0x0B#6
  | .addQhI vd vs imm5 => mxType 29#5 imm5 vs vd 0x0B#6
  | .subObE vd vs vt e => mxType (fmtObE e) vt vs vd 0x0A#6
  | .subObV vd vs vt => mxType 22#5 vt vs vd 0x0A#6
  | .subObI vd vs imm5 => mxType 30#5 imm5 vs vd 0x0A#6
  | .subQhE vd vs vt e => mxType (fmtQhE e) vt vs vd 0x0A#6
  | .subQhV vd vs vt => mxType 21#5 vt vs vd 0x0A#6
  | .subQhI vd vs imm5 => mxType 29#5 imm5 vs vd 0x0A#6
  | .mulObE vd vs vt e => mxType (fmtObE e) vt vs vd 0x30#6
  | .mulObV vd vs vt => mxType 22#5 vt vs vd 0x30#6
  | .mulObI vd vs imm5 => mxType 30#5 imm5 vs vd 0x30#6
  | .mulQhE vd vs vt e => mxType (fmtQhE e) vt vs vd 0x30#6
  | .mulQhV vd vs vt => mxType 21#5 vt vs vd 0x30#6
  | .mulQhI vd vs imm5 => mxType 29#5 imm5 vs vd 0x30#6
  | .minObE vd vs vt e => mxType (fmtObE e) vt vs vd 0x06#6
  | .minObV vd vs vt => mxType 22#5 vt vs vd 0x06#6
  | .minObI vd vs imm5 => mxType 30#5 imm5 vs vd 0x06#6
  | .minQhE vd vs vt e => mxType (fmtQhE e) vt vs vd 0x06#6
  | .minQhV vd vs vt => mxType 21#5 vt vs vd 0x06#6
  | .minQhI vd vs imm5 => mxType 29#5 imm5 vs vd 0x06#6
  | .maxObE vd vs vt e => mxType (fmtObE e) vt vs vd 0x07#6
  | .maxObV vd vs vt => mxType 22#5 vt vs vd 0x07#6
  | .maxObI vd vs imm5 => mxType 30#5 imm5 vs vd 0x07#6
  | .maxQhE vd vs vt e => mxType (fmtQhE e) vt vs vd 0x07#6
  | .maxQhV vd vs vt => mxType 21#5 vt vs vd 0x07#6
  | .maxQhI vd vs imm5 => mxType 29#5 imm5 vs vd 0x07#6
  | .andObE vd vs vt e => mxType (fmtObE e) vt vs vd 0x0C#6
  | .andObV vd vs vt => mxType 22#5 vt vs vd 0x0C#6
  | .andObI vd vs imm5 => mxType 30#5 imm5 vs vd 0x0C#6
  | .andQhE vd vs vt e => mxType (fmtQhE e) vt vs vd 0x0C#6
  | .andQhV vd vs vt => mxType 21#5 vt vs vd 0x0C#6
  | .andQhI vd vs imm5 => mxType 29#5 imm5 vs vd 0x0C#6
  | .orObE vd vs vt e => mxType (fmtObE e) vt vs vd 0x0E#6
  | .orObV vd vs vt => mxType 22#5 vt vs vd 0x0E#6
  | .orObI vd vs imm5 => mxType 30#5 imm5 vs vd 0x0E#6
  | .orQhE vd vs vt e => mxType (fmtQhE e) vt vs vd 0x0E#6
  | .orQhV vd vs vt => mxType 21#5 vt vs vd 0x0E#6
  | .orQhI vd vs imm5 => mxType 29#5 imm5 vs vd 0x0E#6
  | .xorObE vd vs vt e => mxType (fmtObE e) vt vs vd 0x0D#6
  | .xorObV vd vs vt => mxType 22#5 vt vs vd 0x0D#6
  | .xorObI vd vs imm5 => mxType 30#5 imm5 vs vd 0x0D#6
  | .xorQhE vd vs vt e => mxType (fmtQhE e) vt vs vd 0x0D#6
  | .xorQhV vd vs vt => mxType 21#5 vt vs vd 0x0D#6
  | .xorQhI vd vs imm5 => mxType 29#5 imm5 vs vd 0x0D#6
  | .norObE vd vs vt e => mxType (fmtObE e) vt vs vd 0x0F#6
  | .norObV vd vs vt => mxType 22#5 vt vs vd 0x0F#6
  | .norObI vd vs imm5 => mxType 30#5 imm5 vs vd 0x0F#6
  | .norQhE vd vs vt e => mxType (fmtQhE e) vt vs vd 0x0F#6
  | .norQhV vd vs vt => mxType 21#5 vt vs vd 0x0F#6
  | .norQhI vd vs imm5 => mxType 29#5 imm5 vs vd 0x0F#6
  | .sllObE vd vs vt e => mxType (fmtObE e) vt vs vd 0x10#6
  | .sllObV vd vs vt => mxType 22#5 vt vs vd 0x10#6
  | .sllObI vd vs imm5 => mxType 30#5 imm5 vs vd 0x10#6
  | .sllQhE vd vs vt e => mxType (fmtQhE e) vt vs vd 0x10#6
  | .sllQhV vd vs vt => mxType 21#5 vt vs vd 0x10#6
  | .sllQhI vd vs imm5 => mxType 29#5 imm5 vs vd 0x10#6
  | .srlObE vd vs vt e => mxType (fmtObE e) vt vs vd 0x12#6
  | .srlObV vd vs vt => mxType 22#5 vt vs vd 0x12#6
  | .srlObI vd vs imm5 => mxType 30#5 imm5 vs vd 0x12#6
  | .srlQhE vd vs vt e => mxType (fmtQhE e) vt vs vd 0x12#6
  | .srlQhV vd vs vt => mxType 21#5 vt vs vd 0x12#6
  | .srlQhI vd vs imm5 => mxType 29#5 imm5 vs vd 0x12#6
  | .sraQhE vd vs vt e => mxType (fmtQhE e) vt vs vd 0x13#6
  | .sraQhV vd vs vt => mxType 21#5 vt vs vd 0x13#6
  | .sraQhI vd vs imm5 => mxType 29#5 imm5 vs vd 0x13#6
  | .msgnQhE vd vs vt e => mxType (fmtQhE e) vt vs vd 0x00#6
  | .msgnQhV vd vs vt => mxType 21#5 vt vs vd 0x00#6
  | .msgnQhI vd vs imm5 => mxType 29#5 imm5 vs vd 0x00#6
  | .pabsdiffObE vd vs vt e => mxType (fmtObE e) vt vs vd 0x09#6
  | .pabsdiffObV vd vs vt => mxType 22#5 vt vs vd 0x09#6
  | .pabsdiffObI vd vs imm5 => mxType 30#5 imm5 vs vd 0x09#6
  | .pavgObE vd vs vt e => mxType (fmtObE e) vt vs vd 0x08#6
  | .pavgObV vd vs vt => mxType 22#5 vt vs vd 0x08#6
  | .pavgObI vd vs imm5 => mxType 30#5 imm5 vs vd 0x08#6
  | .pickfObE vd vs vt e => mxType (fmtObE e) vt vs vd 0x02#6
  | .pickfObV vd vs vt => mxType 22#5 vt vs vd 0x02#6
  | .pickfObI vd vs imm5 => mxType 30#5 imm5 vs vd 0x02#6
  | .pickfQhE vd vs vt e => mxType (fmtQhE e) vt vs vd 0x02#6
  | .pickfQhV vd vs vt => mxType 21#5 vt vs vd 0x02#6
  | .pickfQhI vd vs imm5 => mxType 29#5 imm5 vs vd 0x02#6
  | .picktObE vd vs vt e => mxType (fmtObE e) vt vs vd 0x03#6
  | .picktObV vd vs vt => mxType 22#5 vt vs vd 0x03#6
  | .picktObI vd vs imm5 => mxType 30#5 imm5 vs vd 0x03#6
  | .picktQhE vd vs vt e => mxType (fmtQhE e) vt vs vd 0x03#6
  | .picktQhV vd vs vt => mxType 21#5 vt vs vd 0x03#6
  | .picktQhI vd vs imm5 => mxType 29#5 imm5 vs vd 0x03#6
  | .cEqObE vs vt e => mxType (fmtObE e) vt vs 0x00#5 0x01#6
  | .cEqObV vs vt => mxType 22#5 vt vs 0x00#5 0x01#6
  | .cEqObI vs imm5 => mxType 30#5 imm5 vs 0x00#5 0x01#6
  | .cEqQhE vs vt e => mxType (fmtQhE e) vt vs 0x00#5 0x01#6
  | .cEqQhV vs vt => mxType 21#5 vt vs 0x00#5 0x01#6
  | .cEqQhI vs imm5 => mxType 29#5 imm5 vs 0x00#5 0x01#6
  | .cLtObE vs vt e => mxType (fmtObE e) vt vs 0x00#5 0x04#6
  | .cLtObV vs vt => mxType 22#5 vt vs 0x00#5 0x04#6
  | .cLtObI vs imm5 => mxType 30#5 imm5 vs 0x00#5 0x04#6
  | .cLtQhE vs vt e => mxType (fmtQhE e) vt vs 0x00#5 0x04#6
  | .cLtQhV vs vt => mxType 21#5 vt vs 0x00#5 0x04#6
  | .cLtQhI vs imm5 => mxType 29#5 imm5 vs 0x00#5 0x04#6
  | .cLeObE vs vt e => mxType (fmtObE e) vt vs 0x00#5 0x05#6
  | .cLeObV vs vt => mxType 22#5 vt vs 0x00#5 0x05#6
  | .cLeObI vs imm5 => mxType 30#5 imm5 vs 0x00#5 0x05#6
  | .cLeQhE vs vt e => mxType (fmtQhE e) vt vs 0x00#5 0x05#6
  | .cLeQhV vs vt => mxType 21#5 vt vs 0x00#5 0x05#6
  | .cLeQhI vs imm5 => mxType 29#5 imm5 vs 0x00#5 0x05#6
  | .mulaObE vs vt e => mxType (fmtObE e) vt vs 0x00#5 0x33#6
  | .mulaObV vs vt => mxType 22#5 vt vs 0x00#5 0x33#6
  | .mulaObI vs imm5 => mxType 30#5 imm5 vs 0x00#5 0x33#6
  | .mulaQhE vs vt e => mxType (fmtQhE e) vt vs 0x00#5 0x33#6
  | .mulaQhV vs vt => mxType 21#5 vt vs 0x00#5 0x33#6
  | .mulaQhI vs imm5 => mxType 29#5 imm5 vs 0x00#5 0x33#6
  | .mulsObE vs vt e => mxType (fmtObE e) vt vs 0x00#5 0x32#6
  | .mulsObV vs vt => mxType 22#5 vt vs 0x00#5 0x32#6
  | .mulsObI vs imm5 => mxType 30#5 imm5 vs 0x00#5 0x32#6
  | .mulsQhE vs vt e => mxType (fmtQhE e) vt vs 0x00#5 0x32#6
  | .mulsQhV vs vt => mxType 21#5 vt vs 0x00#5 0x32#6
  | .mulsQhI vs imm5 => mxType 29#5 imm5 vs 0x00#5 0x32#6
  | .mullObE vs vt e => mxType (fmtObE e) vt vs 0x10#5 0x33#6
  | .mullObV vs vt => mxType 22#5 vt vs 0x10#5 0x33#6
  | .mullObI vs imm5 => mxType 30#5 imm5 vs 0x10#5 0x33#6
  | .mullQhE vs vt e => mxType (fmtQhE e) vt vs 0x10#5 0x33#6
  | .mullQhV vs vt => mxType 21#5 vt vs 0x10#5 0x33#6
  | .mullQhI vs imm5 => mxType 29#5 imm5 vs 0x10#5 0x33#6
  | .mulslObE vs vt e => mxType (fmtObE e) vt vs 0x10#5 0x32#6
  | .mulslObV vs vt => mxType 22#5 vt vs 0x10#5 0x32#6
  | .mulslObI vs imm5 => mxType 30#5 imm5 vs 0x10#5 0x32#6
  | .mulslQhE vs vt e => mxType (fmtQhE e) vt vs 0x10#5 0x32#6
  | .mulslQhV vs vt => mxType 21#5 vt vs 0x10#5 0x32#6
  | .mulslQhI vs imm5 => mxType 29#5 imm5 vs 0x10#5 0x32#6
  | .addaObE vs vt e => mxType (fmtObE e) vt vs 0x00#5 0x37#6
  | .addaObV vs vt => mxType 22#5 vt vs 0x00#5 0x37#6
  | .addaObI vs imm5 => mxType 30#5 imm5 vs 0x00#5 0x37#6
  | .addaQhE vs vt e => mxType (fmtQhE e) vt vs 0x00#5 0x37#6
  | .addaQhV vs vt => mxType 21#5 vt vs 0x00#5 0x37#6
  | .addaQhI vs imm5 => mxType 29#5 imm5 vs 0x00#5 0x37#6
  | .addlObE vs vt e => mxType (fmtObE e) vt vs 0x10#5 0x37#6
  | .addlObV vs vt => mxType 22#5 vt vs 0x10#5 0x37#6
  | .addlObI vs imm5 => mxType 30#5 imm5 vs 0x10#5 0x37#6
  | .addlQhE vs vt e => mxType (fmtQhE e) vt vs 0x10#5 0x37#6
  | .addlQhV vs vt => mxType 21#5 vt vs 0x10#5 0x37#6
  | .addlQhI vs imm5 => mxType 29#5 imm5 vs 0x10#5 0x37#6
  | .subaObE vs vt e => mxType (fmtObE e) vt vs 0x00#5 0x36#6
  | .subaObV vs vt => mxType 22#5 vt vs 0x00#5 0x36#6
  | .subaObI vs imm5 => mxType 30#5 imm5 vs 0x00#5 0x36#6
  | .subaQhE vs vt e => mxType (fmtQhE e) vt vs 0x00#5 0x36#6
  | .subaQhV vs vt => mxType 21#5 vt vs 0x00#5 0x36#6
  | .subaQhI vs imm5 => mxType 29#5 imm5 vs 0x00#5 0x36#6
  | .sublObE vs vt e => mxType (fmtObE e) vt vs 0x10#5 0x36#6
  | .sublObV vs vt => mxType 22#5 vt vs 0x10#5 0x36#6
  | .sublObI vs imm5 => mxType 30#5 imm5 vs 0x10#5 0x36#6
  | .sublQhE vs vt e => mxType (fmtQhE e) vt vs 0x10#5 0x36#6
  | .sublQhV vs vt => mxType 21#5 vt vs 0x10#5 0x36#6
  | .sublQhI vs imm5 => mxType 29#5 imm5 vs 0x10#5 0x36#6
  | .rzuObE vd vt e => mxType (fmtObE e) vt 0x00#5 vd 0x20#6
  | .rzuObV vd vt => mxType 22#5 vt 0x00#5 vd 0x20#6
  | .rzuObI vd imm5 => mxType 30#5 imm5 0x00#5 vd 0x20#6
  | .rzuQhE vd vt e => mxType (fmtQhE e) vt 0x00#5 vd 0x20#6
  | .rzuQhV vd vt => mxType 21#5 vt 0x00#5 vd 0x20#6
  | .rzuQhI vd imm5 => mxType 29#5 imm5 0x00#5 vd 0x20#6
  | .rnauObE vd vt e => mxType (fmtObE e) vt 0x00#5 vd 0x21#6
  | .rnauObV vd vt => mxType 22#5 vt 0x00#5 vd 0x21#6
  | .rnauObI vd imm5 => mxType 30#5 imm5 0x00#5 vd 0x21#6
  | .rnauQhE vd vt e => mxType (fmtQhE e) vt 0x00#5 vd 0x21#6
  | .rnauQhV vd vt => mxType 21#5 vt 0x00#5 vd 0x21#6
  | .rnauQhI vd imm5 => mxType 29#5 imm5 0x00#5 vd 0x21#6
  | .rneuObE vd vt e => mxType (fmtObE e) vt 0x00#5 vd 0x22#6
  | .rneuObV vd vt => mxType 22#5 vt 0x00#5 vd 0x22#6
  | .rneuObI vd imm5 => mxType 30#5 imm5 0x00#5 vd 0x22#6
  | .rneuQhE vd vt e => mxType (fmtQhE e) vt 0x00#5 vd 0x22#6
  | .rneuQhV vd vt => mxType 21#5 vt 0x00#5 vd 0x22#6
  | .rneuQhI vd imm5 => mxType 29#5 imm5 0x00#5 vd 0x22#6
  | .rzsQhE vd vt e => mxType (fmtQhE e) vt 0x00#5 vd 0x24#6
  | .rzsQhV vd vt => mxType 21#5 vt 0x00#5 vd 0x24#6
  | .rzsQhI vd imm5 => mxType 29#5 imm5 0x00#5 vd 0x24#6
  | .rnasQhE vd vt e => mxType (fmtQhE e) vt 0x00#5 vd 0x25#6
  | .rnasQhV vd vt => mxType 21#5 vt 0x00#5 vd 0x25#6
  | .rnasQhI vd imm5 => mxType 29#5 imm5 0x00#5 vd 0x25#6
  | .rnesQhE vd vt e => mxType (fmtQhE e) vt 0x00#5 vd 0x26#6
  | .rnesQhV vd vt => mxType 21#5 vt 0x00#5 vd 0x26#6
  | .rnesQhI vd imm5 => mxType 29#5 imm5 0x00#5 vd 0x26#6
  | .shflPachOb vd vs vt => mxType 0b00100#5 vt vs vd 0x1F#6
  | .shflPachQh vd vs vt => mxType 0b00101#5 vt vs vd 0x1F#6
  | .shflPaclOb vd vs vt => mxType 0b00110#5 vt vs vd 0x1F#6
  | .shflPaclQh vd vs vt => mxType 0b00111#5 vt vs vd 0x1F#6
  | .shflMixhOb vd vs vt => mxType 0b01000#5 vt vs vd 0x1F#6
  | .shflMixhQh vd vs vt => mxType 0b01001#5 vt vs vd 0x1F#6
  | .shflMixlOb vd vs vt => mxType 0b01010#5 vt vs vd 0x1F#6
  | .shflMixlQh vd vs vt => mxType 0b01011#5 vt vs vd 0x1F#6
  | .shflBflaQh vd vs vt => mxType 0b01101#5 vt vs vd 0x1F#6
  | .shflBflbQh vd vs vt => mxType 0b01111#5 vt vs vd 0x1F#6
  | .shflRepaQh vd vs vt => mxType 0b10001#5 vt vs vd 0x1F#6
  | .shflRepbQh vd vs vt => mxType 0b10011#5 vt vs vd 0x1F#6
  | .wachOb vs => mxType 0b00000#5 0x00#5 vs 0x00#5 0x3E#6
  | .waclOb vs vt => mxType 0b10000#5 vt vs 0x00#5 0x3E#6
  | .raclOb vd => mxType 0b00000#5 0x00#5 0x00#5 vd 0x3F#6
  | .racmOb vd => mxType 0b01000#5 0x00#5 0x00#5 vd 0x3F#6
  | .rachOb vd => mxType 0b10000#5 0x00#5 0x00#5 vd 0x3F#6
  | .wachQh vs => mxType 0b00001#5 0x00#5 vs 0x00#5 0x3E#6
  | .waclQh vs vt => mxType 0b10001#5 vt vs 0x00#5 0x3E#6
  | .raclQh vd => mxType 0b00001#5 0x00#5 0x00#5 vd 0x3F#6
  | .racmQh vd => mxType 0b01001#5 0x00#5 0x00#5 vd 0x3F#6
  | .rachQh vd => mxType 0b10001#5 0x00#5 0x00#5 vd 0x3F#6

end Sys2Proof
end

