-- ==== Sys2Proof/Machine/Tick.lean ====
section
/-! DEFINITION. What a step does around the instruction: the inputs, the fetch, the tick and reset (10_state.md R58,
R59; 20_memory.md R90, R92; 60_exceptions.md R520-R522; 70_reset_and_hazards.md R550-R563). -/

namespace Sys2Proof.Machine

/-- `Apply` of one entry; none is the check-stop of an impossible entry (R59). -/
def applyPending (e : Pending) (s : State) : Option State :=
  match e.dest, e.bit with
  | .gpr i, none => some (s.writeGpr i e.value)
  | .fpr32 i, none => some (s.rawWrite32 i (e.value.extractLsb' 0 32))
  | .fpr64 i, none => some (s.rawWrite64 i e.value)
  | .fcsr, some b => some (s.setFcsrBit b (e.value.getLsbD 0))
  | .gpr i, some b => some (s.writeGpr i (putBit (s.readGpr i) b.toNat (e.value.getLsbD 0)))
  | _, _ => none

/-- Step 1 of `PendingTick`: the due entries at the head, oldest first. What is left stays in the queue (R58). An
impossible entry stops the core with the queue as it is then (R59, R530, log 8). -/
def drainPending : List Pending → State → State
  | [], s => { s with pq := [] }
  | e :: q, s =>
    if e.remaining = 0 then
      match applyPending e s with
      | some t => drainPending q t
      | none => { s with pq := e :: q, run := .checkStop }
    else { s with pq := e :: q }

/-- An entry one tick older. -/
def Pending.age (e : Pending) : Pending := { e with remaining := e.remaining - 1 }

/-- `PendingTick()` (R58). -/
def pendingTick (s : State) : State :=
  let t := drainPending s.pq s
  if t.run = .checkStop then t else { t with pq := t.pq.map Pending.age }

/-- The interrupt condition (R521). -/
def interruptCondition (s : State) : Bool :=
  s.ie && !s.exl && s.pins.intLevel != 0#3 && s.im s.pins.intLevel

/-- The tick after an instruction: the queue, then the interrupt check if the core still runs (R562, R563 step 3). A
core that has check-stopped does nothing more (R530). -/
def tick (s : State) : State :=
  if s.run = .checkStop then s
  else
    let t := pendingTick s
    if t.run = .running ∧ interruptCondition t then takeException .int t else t

/-- The levels on the pins at this step: the next entry of the input stream, or the levels as they were where the
stream has ended (R62, R63, log 4). -/
def samplePins (s : State) : State :=
  match s.pinQueue with
  | [] => s
  | p :: q => { s with pins := p, pinQueue := q }

/-- What the `RESET` pin makes of a state: the state of R64, memory unchanged (R53, R550), the inputs as they are. -/
def resetCore (s : State) : State :=
  { State.resetWith s.cfg with mem := s.mem, pins := s.pins, pinQueue := s.pinQueue }

/-- Fetch and decode (R90, R92, R111): the word at `PC` in the configured byte order, never the reversed one; a
misaligned `PC` raises AddressErrorLoad, a word that decodes to `RESERVED` raises ReservedInstruction (R489). -/
noncomputable def fetchDecode (s : State) : Except Exc Instr :=
  if s.pc.extractLsb' 0 2 = 0#2 then
    match decodeBytes (s.bigEndianCPU true) (s.bytesFrom (translate s.pc) 4) with
    | .ok (i, _) => .ok i
    | .error _ => .error .ri
  else .error (.adEL s.pc)

/-- Stores a word where the next instruction is fetched from. -/
def placeWord (s : State) (w : BitVec 32) : State :=
  s.storeBytes (translate s.pc) (bytesOfWord (s.bigEndianCPU true) w)

end Sys2Proof.Machine
end

