-- ==== Sys2Proof/Machine/Step.lean ====
section
/-! DEFINITION. One step of the machine (70_reset_and_hazards.md R563). -/

namespace Sys2Proof.Machine

/-- Step 2 of R563: fetch, decode and execute one instruction; a raise in the fetch takes its exception. -/
noncomputable def fetchExecute (s : State) : Host.Outcome State Fault Refusal :=
  match fetchDecode s with
  | .ok i => exec i s
  | .error e => .next (takeException e s)

/-- Step 3 of R563: the tick, after an instruction that has completed or trapped. -/
def thenTick (o : Host.Outcome State Fault Refusal) : Host.Outcome State Fault Refusal :=
  match o with
  | .next s => .next (tick s)
  | .fault f => .fault f
  | .refused r => .refused r

/-- Steps 0 to 3 of R563 at the present levels of the pins, with the `RESET` level in front of them (R550) and the
one refusal that is not an instruction's: `ISAMODE` = 1 (log 9). -/
noncomputable def stepNow (s : State) : Host.Outcome State Fault Refusal :=
  if s.pins.reset then .next (resetCore s)
  else if s.run ≠ .running then .next s
  else if s.pins.stop then .next { s with run := .halted }
  else if s.isaMode then .refused .isaMode16
  else thenTick (fetchExecute s)

/-- One step: the inputs of this step, then R563. -/
noncomputable def step (s : State) : Host.Outcome State Fault Refusal := stepNow (samplePins s)

/-- `s` with a word of the opcode table stored where `step` fetches its next instruction (log 14). -/
def State.withFetchWord (s : State) (nbits w : Nat) : State := placeWord s (BitVec.ofNat 32 (w % 2 ^ nbits))

end Sys2Proof.Machine
end

