-- ==== Sys2Proof/Safety.lean ====
section
/-! DEFINITION. What counts as a well-formed state and a safe run, in the terms the statements use. -/

namespace Sys2Proof.Machine

/-- The bits of Status that are not listed read 0 (R39). -/
abbrev State.StatusLegal (s : State) : Prop := s.status &&& ~~~statusMask = 0#32

/-- Bits 22:18 of the FCSR read 0 (R47). -/
abbrev State.FcsrLegal (s : State) : Prop := s.fcsr.extractLsb' 18 5 = 0#5

/-- The memory image is in canonical form. -/
abbrev State.MemoryCanonical (s : State) : Prop := Memory.wf s.mem = true

/-- Whether a queue entry is one that the instructions of 70_reset_and_hazards.md R564 make, as it stands between two
steps: due at the next tick, for a whole register or for a condition code of the FCSR. -/
def Pending.legal (e : Pending) : Bool :=
  e.remaining == 0 &&
    match e.dest, e.bit with
    | .gpr _, none => true
    | .fpr32 _, none => true
    | .fpr64 _, none => true
    | .fcsr, some b => b == 23#5 || decide (25#5 ≤ b)
    | _, _ => false

/-- The queue as it stands between two steps (R56, R58): at most the entries of one instruction. -/
abbrev State.QueueLegal (s : State) : Prop := s.pq.length ≤ 2 ∧ ∀ e ∈ s.pq, e.legal = true

/-- `ExcCode` is one of the codes of R500, and `CE` is 0 or 1 (R505). -/
abbrev State.CauseLegal (s : State) : Prop :=
  s.excCode ∈ [0#5, 4#5, 5#5, 8#5, 9#5, 10#5, 11#5, 12#5, 15#5] ∧ s.ce ∈ [0#2, 1#2]

/-- The invariant of the machine: what every step keeps. -/
structure State.Inv (s : State) : Prop where
  /-- The parameters are in their ranges. -/
  config : s.cfg.Valid
  /-- Reserved bits of Status are 0. -/
  status : s.StatusLegal
  /-- Reserved bits of the FCSR are 0. -/
  fcsr : s.FcsrLegal
  /-- `Cause` holds a code and a coprocessor of the spec. -/
  cause : s.CauseLegal
  /-- Memory is canonical. -/
  memory : s.MemoryCanonical
  /-- The queue holds at most the entries of one instruction, all due. -/
  queue : s.QueueLegal
  /-- `ISAMODE` is 0 (R25). -/
  isaMode : s.isaMode = false
  /-- `Config.BE` is the strap (R41). -/
  endian : s.configBE = s.cfg.bigEndian

/-- A state in which the core has not check-stopped (R530). -/
abbrev State.Safe (s : State) : Prop := s.run ≠ .checkStop

end Sys2Proof.Machine
end

