-- ==== Sys2Proof/Families.lean ====
section
/-! DEFINITION. The terms of the statements: families of instructions with what the spec says of each, and what an
instruction may touch (the frames). Nothing in the machine uses this file. A table lists every form of every
instruction of its family; its values are written from the rules again, not over the machine's own operations. -/

namespace Sys2Proof.Machine

/-! ### Small terms -/

/-- An integer is in the range of `n` bits, signed. -/
abbrev fitsSigned (n : Nat) (v : Int) : Prop := -2 ^ (n - 1) ≤ v ∧ v < 2 ^ (n - 1)

/-- The levels and the run state let the core execute an instruction at this step (R550, R563). -/
abbrev State.Ready (s : State) : Prop :=
  s.pins.reset = false ∧ s.pins.stop = false ∧ s.run = .running ∧ s.isaMode = false

/-- The effective address `trunc_64(u(x[base]) + u(sext_64(imm)))` (R240). -/
abbrev State.va (s : State) (base : GprNo) (imm : BitVec 16) : Word := s.readGpr base + imm.signExtend 64

/-- The state after an instruction that appends one entry to the queue and advances (R241). -/
abbrev State.scheduled (s : State) (dest : PendDest) (v : Word) : State :=
  { s with pc := s.pc + 4#64, pq := s.pq ++ [{ dest := dest, value := v, remaining := 1, bit := none }] }

/-- There is room in the queue (R57). -/
abbrev State.Room (s : State) : Prop := s.pq.length < s.cfg.pendingCapacity

/-- The register numbers that a 64-bit operand in this format may have (R36). -/
abbrev State.WideOk (s : State) (fmt : Fmt) (regs : List FprNo) : Prop :=
  fmt.wide = true → s.fr = true ∨ ∀ r ∈ regs, r.toNat % 2 = 0

/-- The bit of the FCSR that holds condition code `i` (R47). -/
abbrev codeBit (i : Nat) : Nat := if i = 0 then 23 else 24 + i

/-- The state after a raw write of a whole 64-bit register, with `FR` = 1 (R32), and the advance. -/
abbrev State.vectorWritten (s : State) (vd : FprNo) (v : Word) : State :=
  ((s.setFgr vd v).setTag vd .uninterpreted).advance

/-- The number at `va`, `n` bytes, in the effective order of a data access (R84). -/
abbrev State.loaded (s : State) (va : Word) (n : Nat) : Word :=
  valueOfBytes 64 (s.bigEndianCPU false) (s.bytesFrom va n)

/-! ### One instruction in its forms -/

/-- The form of an OB instruction with `vd` and `vs` that the second operand selects (R402). -/
def obForm (e : FprNo → FprNo → FprNo → BitVec 3 → Instr) (v : FprNo → FprNo → FprNo → Instr)
    (imm : FprNo → FprNo → BitVec 5 → Instr) (vd vs : FprNo) : ObOperand → Instr
  | .element vt k => e vd vs vt k
  | .vector vt => v vd vs vt
  | .immediate x => imm vd vs x

/-- The form of a QH instruction with `vd` and `vs` that the second operand selects (R402). -/
def qhForm (e : FprNo → FprNo → FprNo → BitVec 2 → Instr) (v : FprNo → FprNo → FprNo → Instr)
    (imm : FprNo → FprNo → BitVec 5 → Instr) (vd vs : FprNo) : QhOperand → Instr
  | .element vt k => e vd vs vt k
  | .vector vt => v vd vs vt
  | .immediate x => imm vd vs x

/-- The form of an OB instruction with one register beside the second operand. -/
def obPair (e : FprNo → FprNo → BitVec 3 → Instr) (v : FprNo → FprNo → Instr) (imm : FprNo → BitVec 5 → Instr)
    (r : FprNo) : ObOperand → Instr
  | .element vt k => e r vt k
  | .vector vt => v r vt
  | .immediate x => imm r x

/-- The form of a QH instruction with one register beside the second operand. -/
def qhPair (e : FprNo → FprNo → BitVec 2 → Instr) (v : FprNo → FprNo → Instr) (imm : FprNo → BitVec 5 → Instr)
    (r : FprNo) : QhOperand → Instr
  | .element vt k => e r vt k
  | .vector vt => v r vt
  | .immediate x => imm r x

/-- The form of an FPU instruction in S, D or PS. -/
def fmtForm {α : Type} (s d ps : α) : ArithFmt → α
  | .s => s
  | .d => d
  | .ps => ps

/-- A shuffle's table: from the lanes of `vs` and of `vt` to the lanes of the result, lane 0 first (R435). -/
abbrev LaneTable (n w : Nat) := (Fin n → BitVec w) → (Fin n → BitVec w) → List (BitVec w)

/-- A conversion instruction. -/
structure Conversion where
  /-- The instruction, by `fd` and `fs`. -/
  instr : FprNo → FprNo → Instr
  /-- The source format. -/
  src : Fmt
  /-- The destination format. -/
  dst : Fmt
  /-- The operation, by the rounding mode and the flush-to-zero policy of the FCSR. -/
  op : RoundingMode → Bool → BitVec 64 → BitVec 64 × FpExcs

/-! ### Coprocessors, by the primary opcode of the instruction's word -/

/-- The primary opcode (R112). -/
def primaryOpcode (i : Instr) : BitVec 6 := (encode i).extractLsb' 26 6

/-- COP0: MFC0, DMFC0, MTC0, DMTC0, ERET (R505). -/
def usesCp0 (i : Instr) : Bool := primaryOpcode i == 0x10#6

/-- MDMX (R117). -/
def usesMdmx (i : Instr) : Bool := primaryOpcode i == 0x1E#6

/-- COP1, COP1X, LWC1, LDC1, SWC1, SDC1 or MDMX (R505). -/
def usesCop1 (i : Instr) : Bool :=
  [0x11#6, 0x13#6, 0x31#6, 0x35#6, 0x39#6, 0x3D#6, 0x1E#6].contains (primaryOpcode i)

/-! ### Loads and stores -/

/-- The aligned loads into a general register: bytes, and whether the value is sign-extended (R242-R248). -/
def loadTable : List ((GprNo → GprNo → BitVec 16 → Instr) × Nat × Bool) :=
  [(.lb, 1, true), (.lbu, 1, false), (.lh, 2, true), (.lhu, 2, false), (.lw, 4, true), (.lwu, 4, false), (.ld, 8, true)]

/-- The aligned stores of a general register (R249-R252). -/
def storeTable : List ((GprNo → GprNo → BitVec 16 → Instr) × Nat) := [(.sb, 1), (.sh, 2), (.sw, 4), (.sd, 8)]

/-- The value an aligned load delivers (R241). -/
def extended (signed : Bool) (n : Nat) (m : Word) : Word :=
  if signed then BitVec.ofInt 64 (Int.bmod m.toNat (2 ^ (8 * n))) else m

/-- `addr` and `n` of the *left* part of a merge access (R256). -/
def leftPart (w : Nat) (be : Bool) (va : Word) : Word × Nat :=
  if be then (va, w - va.toNat % w) else (va - BitVec.ofNat 64 (va.toNat % w), va.toNat % w + 1)

/-- `addr` and `n` of the *right* part of a merge access (R256). -/
def rightPart (w : Nat) (be : Bool) (va : Word) : Word × Nat :=
  if be then (va - BitVec.ofNat 64 (va.toNat % w), va.toNat % w + 1) else (va, w - va.toNat % w)

/-- `m ‖ old[w − 8n − 1 : 0]` as a number (R257). -/
def mergedLeft (w n old m : Nat) : Nat := m * 2 ^ (w - 8 * n) + old % 2 ^ (w - 8 * n)

/-- `old[w − 1 : 8n] ‖ m` as a number (R258). -/
def mergedRight (n old m : Nat) : Nat := old / 2 ^ (8 * n) * 2 ^ (8 * n) + m

/-- A load into a general register: its register, and the value it delivers from the state it finds (R242-R248, R253,
R254, R257-R260). -/
def gprLoad (i : Instr) (s : State) : Option (GprNo × Word) :=
  let be := s.bigEndianCPU false
  let aligned := fun (rt base : GprNo) (imm : BitVec 16) (n : Nat) (signed : Bool) =>
    some (rt, extended signed n (s.loaded (s.va base imm) n))
  let bytes := fun (p : Word × Nat) => (s.loaded p.1 p.2).toNat
  let left := fun (rt : GprNo) (w : Nat) (p : Word × Nat) =>
    mergedLeft w p.2 (s.pendingOrCurrent rt).toNat (bytes p)
  let right := fun (rt : GprNo) (w : Nat) (p : Word × Nat) =>
    mergedRight p.2 ((s.pendingOrCurrent rt).toNat % 2 ^ w) (bytes p)
  match i with
  | .lb rt base imm => aligned rt base imm 1 true
  | .lbu rt base imm => aligned rt base imm 1 false
  | .lh rt base imm => aligned rt base imm 2 true
  | .lhu rt base imm => aligned rt base imm 2 false
  | .lw rt base imm => aligned rt base imm 4 true
  | .lwu rt base imm => aligned rt base imm 4 false
  | .ld rt base imm => aligned rt base imm 8 true
  | .ll rt base imm => aligned rt base imm 4 true
  | .lld rt base imm => aligned rt base imm 8 true
  | .lwl rt base imm => some (rt, (BitVec.ofNat 32 (left rt 32 (leftPart 4 be (s.va base imm)))).signExtend 64)
  | .lwr rt base imm => some (rt, (BitVec.ofNat 32 (right rt 32 (rightPart 4 be (s.va base imm)))).signExtend 64)
  | .ldl rt base imm => some (rt, BitVec.ofNat 64 (left rt 64 (leftPart 8 be (s.va base imm))))
  | .ldr rt base imm => some (rt, BitVec.ofNat 64 (right rt 64 (rightPart 8 be (s.va base imm))))
  | _ => none

/-- An integer is a rational rounded by a mode: to nearest with ties to even, toward zero, up, down (R283, R311). -/
def roundsTo (rm : RoundingMode) (r : Rat) (n : Int) : Prop :=
  match rm with
  | .nearestEven => -1 / 2 ≤ r - n ∧ r - n ≤ 1 / 2 ∧ (r - n = 1 / 2 ∨ r - n = -1 / 2 → n % 2 = 0)
  | .towardZero => (0 ≤ r → n ≤ r ∧ r < n + 1) ∧ (r < 0 → n - 1 < r ∧ r ≤ n)
  | .towardPlus => n - 1 < r ∧ r ≤ n
  | .towardMinus => n ≤ r ∧ r < n + 1

/-- What a compare computes: its results, that of the lower half first, and its flags (R294, R305, R371). -/
def State.compared (s : State) (fmt : ArithFmt) (cond : BitVec 4) (fs ft : FprNo) : List Bool × FpExcs :=
  let a := s.fprValue fs fmt.toFmt
  let b := (s.retag fs fmt.toFmt).fprValue ft fmt.toFmt
  let l := fpCompare .single cond (lowerHalf a) (lowerHalf b)
  let u := fpCompare .single cond (upperHalf a) (upperHalf b)
  let d := fpCompare .double cond a b
  match fmt with
  | .s => ([l.1], l.2)
  | .d => ([d.1], d.2)
  | .ps => ([l.1, u.1], u.2 ||| l.2)

/-- `x / 2^sh` rounded by a reduction's policy: toward zero, to nearest with ties away from zero, to nearest with ties
to even (R465). -/
def roundedQuotient (op : Reduction) (a : Int) (sh : Nat) : Int :=
  match op with
  | .rzu => a.tdiv (2 ^ sh)
  | .rzs => a.tdiv (2 ^ sh)
  | .rnau => a.sign * ((2 * a.natAbs + 2 ^ sh) / 2 ^ (sh + 1) : Nat)
  | .rnas => a.sign * ((2 * a.natAbs + 2 ^ sh) / 2 ^ (sh + 1) : Nat)
  | .rneu => roundToInt .nearestEven ((a : Rat) / ((2 ^ sh : Nat) : Rat))
  | .rnes => roundToInt .nearestEven ((a : Rat) / ((2 ^ sh : Nat) : Rat))

/-- The lane a QH reduction gives for a shift amount that is not negative (R465). -/
def reducedQh (op : Reduction) (a : Int) (sh : Nat) : BitVec 16 :=
  match op with
  | .rzu => BitVec.ofInt 16 (max 0 (min 65535 (roundedQuotient op a sh)))
  | .rnau => BitVec.ofInt 16 (max 0 (min 65535 (roundedQuotient op a sh)))
  | .rneu => BitVec.ofInt 16 (max 0 (min 65535 (roundedQuotient op a sh)))
  | .rzs => BitVec.ofInt 16 (max (-32768) (min 32767 (roundedQuotient op a sh)))
  | .rnas => BitVec.ofInt 16 (max (-32768) (min 32767 (roundedQuotient op a sh)))
  | .rnes => BitVec.ofInt 16 (max (-32768) (min 32767 (roundedQuotient op a sh)))

/-- The alignment an instruction requires, and its effective address, for the loads of R77. -/
def loadAlignment (i : Instr) (s : State) : Option (Word × Nat) :=
  match i with
  | .lb _ base imm => some (s.va base imm, 1)
  | .lbu _ base imm => some (s.va base imm, 1)
  | .lh _ base imm => some (s.va base imm, 2)
  | .lhu _ base imm => some (s.va base imm, 2)
  | .lw _ base imm => some (s.va base imm, 4)
  | .lwu _ base imm => some (s.va base imm, 4)
  | .ll _ base imm => some (s.va base imm, 4)
  | .lwc1 _ base imm => some (s.va base imm, 4)
  | .ld _ base imm => some (s.va base imm, 8)
  | .lld _ base imm => some (s.va base imm, 8)
  | .ldc1 _ base imm => some (s.va base imm, 8)
  | _ => none

/-- The alignment an instruction requires, and its effective address, for the stores of R77. -/
def storeAlignment (i : Instr) (s : State) : Option (Word × Nat) :=
  match i with
  | .sb _ base imm => some (s.va base imm, 1)
  | .sh _ base imm => some (s.va base imm, 2)
  | .sw _ base imm => some (s.va base imm, 4)
  | .sc _ base imm => some (s.va base imm, 4)
  | .swc1 _ base imm => some (s.va base imm, 4)
  | .sd _ base imm => some (s.va base imm, 8)
  | .scd _ base imm => some (s.va base imm, 8)
  | .sdc1 _ base imm => some (s.va base imm, 8)
  | _ => none

/-- The bytes an instruction stores to where it completes: address and count; none where it stores nothing. -/
def storeRange (i : Instr) (s : State) : Option (Word × Nat) :=
  match i with
  | .sb _ base imm => some (s.va base imm, 1)
  | .sh _ base imm => some (s.va base imm, 2)
  | .sw _ base imm => some (s.va base imm, 4)
  | .sd _ base imm => some (s.va base imm, 8)
  | .swc1 _ base imm => some (s.va base imm, 4)
  | .sdc1 _ base imm => some (s.va base imm, 8)
  | .sc _ base imm => if s.llBit then some (s.va base imm, 4) else none
  | .scd _ base imm => if s.llBit then some (s.va base imm, 8) else none
  | .swl _ base imm => some (leftPart 4 (s.bigEndianCPU false) (s.va base imm))
  | .swr _ base imm => some (rightPart 4 (s.bigEndianCPU false) (s.va base imm))
  | .sdl _ base imm => some (leftPart 8 (s.bigEndianCPU false) (s.va base imm))
  | .sdr _ base imm => some (rightPart 8 (s.bigEndianCPU false) (s.va base imm))
  | _ => none

/-- Whether an address is one of the bytes of a range, on addresses modulo 2^64. -/
def inRange (a : Word) (r : Option (Word × Nat)) : Bool :=
  match r with
  | some (addr, n) => decide ((a - addr).toNat < n)
  | none => false

/-! ### What else an instruction may touch -/


/-- The general register an instruction writes at once, if any: the destination field, or register 31 for JAL. A load
writes none at once: its write waits in the queue (R22, R564). -/
def gprDest (i : Instr) : Option GprNo :=
  match i with
  | .sll rd _ _ | .srl rd _ _ | .sra rd _ _ | .dsll rd _ _ | .dsrl rd _ _ | .dsra rd _ _ | .dsll32 rd _ _
  | .dsrl32 rd _ _ | .dsra32 rd _ _ | .sllv rd _ _ | .srlv rd _ _ | .srav rd _ _ | .dsllv rd _ _
  | .dsrlv rd _ _ | .dsrav rd _ _ | .add rd _ _ | .addu rd _ _ | .sub rd _ _ | .subu rd _ _ | .and rd _ _
  | .or rd _ _ | .xor rd _ _ | .nor rd _ _ | .slt rd _ _ | .sltu rd _ _ | .dadd rd _ _ | .daddu rd _ _
  | .dsub rd _ _ | .dsubu rd _ _ | .jalr rd _ => some rd
  | .addi rt _ _ | .addiu rt _ _ | .slti rt _ _ | .sltiu rt _ _ | .andi rt _ _ | .ori rt _ _ | .xori rt _ _
  | .daddi rt _ _ | .daddiu rt _ _ | .lui rt _ | .sc rt _ _ | .scd rt _ _ | .mfc0 rt _ | .dmfc0 rt _
  | .mfc1 rt _ | .dmfc1 rt _ | .cfc1 rt _ => some rt
  | .jal _ => some 31#5
  | _ => none

/-- The floating-point registers whose contents an instruction may change at once (R32, R34): its destination, with the
register that holds the other half where the format is 64 bits wide and `FR` = 0. -/
def fprDests (i : Instr) (s : State) : List FprNo :=
  match i with
  | .addS fd _ _ | .subS fd _ _ | .mulS fd _ _ | .divS fd _ _ | .recip2S fd _ _ | .rsqrt2S fd _ _ | .sqrtS fd _
  | .absS fd _ | .movS fd _ | .negS fd _ | .recipS fd _ | .roundWS fd _ | .roundWD fd _ | .truncWS fd _
  | .truncWD fd _ | .ceilWS fd _ | .ceilWD fd _ | .floorWS fd _ | .floorWD fd _ | .cvtWS fd _ | .cvtWD fd _
  | .cvtSD fd _ | .cvtSW fd _ | .cvtSL fd _ | .maddS fd _ _ _ | .msubS fd _ _ _ | .nmaddS fd _ _ _
  | .nmsubS fd _ _ _ => [fd]
  | .addD fd _ _ | .addPs fd _ _ | .subD fd _ _ | .subPs fd _ _ | .mulD fd _ _ | .mulPs fd _ _ | .divD fd _ _
  | .divPs fd _ _ | .recip2D fd _ _ | .recip2Ps fd _ _ | .rsqrt2D fd _ _ | .rsqrt2Ps fd _ _ | .sqrtD fd _
  | .sqrtPs fd _ | .absD fd _ | .absPs fd _ | .movD fd _ | .movPs fd _ | .negD fd _ | .negPs fd _
  | .recipD fd _ | .recipPs fd _ | .roundLS fd _ | .roundLD fd _ | .truncLS fd _ | .truncLD fd _ | .ceilLS fd _
  | .ceilLD fd _ | .floorLS fd _ | .floorLD fd _ | .cvtLS fd _ | .cvtLD fd _ | .cvtDS fd _ | .cvtDW fd _
  | .cvtDL fd _ | .maddD fd _ _ _ | .maddPs fd _ _ _ | .msubD fd _ _ _ | .msubPs fd _ _ _ | .nmaddD fd _ _ _
  | .nmaddPs fd _ _ _ | .nmsubD fd _ _ _ | .nmsubPs fd _ _ _ => s.operandRegs fd .d
  | .mtc1 _ fs => [fs]
  | .dmtc1 _ fs => s.operandRegs fs .d
  | .addObE vd _ _ _ | .addObV vd _ _ | .addObI vd _ _ | .addQhE vd _ _ _ | .addQhV vd _ _ | .addQhI vd _ _
  | .subObE vd _ _ _ | .subObV vd _ _ | .subObI vd _ _ | .subQhE vd _ _ _ | .subQhV vd _ _ | .subQhI vd _ _
  | .mulObE vd _ _ _ | .mulObV vd _ _ | .mulObI vd _ _ | .mulQhE vd _ _ _ | .mulQhV vd _ _ | .mulQhI vd _ _
  | .minObE vd _ _ _ | .minObV vd _ _ | .minObI vd _ _ | .minQhE vd _ _ _ | .minQhV vd _ _ | .minQhI vd _ _
  | .maxObE vd _ _ _ | .maxObV vd _ _ | .maxObI vd _ _ | .maxQhE vd _ _ _ | .maxQhV vd _ _ | .maxQhI vd _ _
  | .andObE vd _ _ _ | .andObV vd _ _ | .andObI vd _ _ | .andQhE vd _ _ _ | .andQhV vd _ _ | .andQhI vd _ _
  | .orObE vd _ _ _ | .orObV vd _ _ | .orObI vd _ _ | .orQhE vd _ _ _ | .orQhV vd _ _ | .orQhI vd _ _
  | .xorObE vd _ _ _ | .xorObV vd _ _ | .xorObI vd _ _ | .xorQhE vd _ _ _ | .xorQhV vd _ _ | .xorQhI vd _ _
  | .norObE vd _ _ _ | .norObV vd _ _ | .norObI vd _ _ | .norQhE vd _ _ _ | .norQhV vd _ _ | .norQhI vd _ _
  | .sllObE vd _ _ _ | .sllObV vd _ _ | .sllObI vd _ _ | .sllQhE vd _ _ _ | .sllQhV vd _ _ | .sllQhI vd _ _
  | .srlObE vd _ _ _ | .srlObV vd _ _ | .srlObI vd _ _ | .srlQhE vd _ _ _ | .srlQhV vd _ _ | .srlQhI vd _ _
  | .sraQhE vd _ _ _ | .sraQhV vd _ _ | .sraQhI vd _ _ | .msgnQhE vd _ _ _ | .msgnQhV vd _ _ | .msgnQhI vd _ _
  | .pabsdiffObE vd _ _ _ | .pabsdiffObV vd _ _ | .pabsdiffObI vd _ _ | .pavgObE vd _ _ _ | .pavgObV vd _ _
  | .pavgObI vd _ _ | .pickfObE vd _ _ _ | .pickfObV vd _ _ | .pickfObI vd _ _ | .pickfQhE vd _ _ _
  | .pickfQhV vd _ _ | .pickfQhI vd _ _ | .picktObE vd _ _ _ | .picktObV vd _ _ | .picktObI vd _ _
  | .picktQhE vd _ _ _ | .picktQhV vd _ _ | .picktQhI vd _ _ | .rzuObE vd _ _ | .rzuObV vd _ | .rzuObI vd _
  | .rzuQhE vd _ _ | .rzuQhV vd _ | .rzuQhI vd _ | .rnauObE vd _ _ | .rnauObV vd _ | .rnauObI vd _
  | .rnauQhE vd _ _ | .rnauQhV vd _ | .rnauQhI vd _ | .rneuObE vd _ _ | .rneuObV vd _ | .rneuObI vd _
  | .rneuQhE vd _ _ | .rneuQhV vd _ | .rneuQhI vd _ | .rzsQhE vd _ _ | .rzsQhV vd _ | .rzsQhI vd _
  | .rnasQhE vd _ _ | .rnasQhV vd _ | .rnasQhI vd _ | .rnesQhE vd _ _ | .rnesQhV vd _ | .rnesQhI vd _
  | .shflPachOb vd _ _ | .shflPachQh vd _ _ | .shflPaclOb vd _ _ | .shflPaclQh vd _ _ | .shflMixhOb vd _ _
  | .shflMixhQh vd _ _ | .shflMixlOb vd _ _ | .shflMixlQh vd _ _ | .shflBflaQh vd _ _ | .shflBflbQh vd _ _
  | .shflRepaQh vd _ _ | .shflRepbQh vd _ _ | .raclOb vd | .racmOb vd | .rachOb vd | .raclQh vd | .racmQh vd
  | .rachQh vd => [vd]
  | _ => []

/-- The floating-point registers an instruction reads by `ReadFPR`, which may change their tags (R33). -/
def fprSources (i : Instr) (s : State) : List FprNo :=
  match i with
  | .sqrtS _ fs | .absS _ fs | .movS _ fs | .negS _ fs | .recipS _ fs | .roundLS _ fs | .truncLS _ fs
  | .ceilLS _ fs | .floorLS _ fs | .roundWS _ fs | .truncWS _ fs | .ceilWS _ fs | .floorWS _ fs | .cvtWS _ fs
  | .cvtLS _ fs | .cvtSW _ fs | .cvtDS _ fs | .cvtDW _ fs => s.operandRegs fs .s
  | .addS _ fs ft | .subS _ fs ft | .mulS _ fs ft | .divS _ fs ft | .recip2S _ fs ft | .rsqrt2S _ fs ft
  | .cFS _ fs ft | .cUnS _ fs ft | .cEqS _ fs ft | .cUeqS _ fs ft | .cOltS _ fs ft | .cUltS _ fs ft
  | .cOleS _ fs ft | .cUleS _ fs ft | .cSfS _ fs ft | .cNgleS _ fs ft | .cSeqS _ fs ft | .cNglS _ fs ft
  | .cLtS _ fs ft | .cNgeS _ fs ft | .cLeS _ fs ft | .cNgtS _ fs ft => s.operandRegs fs .s ++ s.operandRegs ft .s
  | .maddS _ fr fs ft | .msubS _ fr fs ft | .nmaddS _ fr fs ft | .nmsubS _ fr fs ft =>
    s.operandRegs fs .s ++ s.operandRegs ft .s ++ s.operandRegs fr .s
  | .sqrtD _ fs | .sqrtPs _ fs | .absD _ fs | .absPs _ fs | .movD _ fs | .movPs _ fs | .negD _ fs | .negPs _ fs
  | .recipD _ fs | .recipPs _ fs | .roundLD _ fs | .truncLD _ fs | .ceilLD _ fs | .floorLD _ fs | .roundWD _ fs
  | .truncWD _ fs | .ceilWD _ fs | .floorWD _ fs | .cvtWD _ fs | .cvtLD _ fs | .cvtSD _ fs | .cvtSL _ fs
  | .cvtDL _ fs => s.operandRegs fs .d
  | .addD _ fs ft | .addPs _ fs ft | .subD _ fs ft | .subPs _ fs ft | .mulD _ fs ft | .mulPs _ fs ft
  | .divD _ fs ft | .divPs _ fs ft | .recip2D _ fs ft | .recip2Ps _ fs ft | .rsqrt2D _ fs ft
  | .rsqrt2Ps _ fs ft | .cFD _ fs ft | .cFPs _ fs ft | .cUnD _ fs ft | .cUnPs _ fs ft | .cEqD _ fs ft
  | .cEqPs _ fs ft | .cUeqD _ fs ft | .cUeqPs _ fs ft | .cOltD _ fs ft | .cOltPs _ fs ft | .cUltD _ fs ft
  | .cUltPs _ fs ft | .cOleD _ fs ft | .cOlePs _ fs ft | .cUleD _ fs ft | .cUlePs _ fs ft | .cSfD _ fs ft
  | .cSfPs _ fs ft | .cNgleD _ fs ft | .cNglePs _ fs ft | .cSeqD _ fs ft | .cSeqPs _ fs ft | .cNglD _ fs ft
  | .cNglPs _ fs ft | .cLtD _ fs ft | .cLtPs _ fs ft | .cNgeD _ fs ft | .cNgePs _ fs ft | .cLeD _ fs ft
  | .cLePs _ fs ft | .cNgtD _ fs ft | .cNgtPs _ fs ft => s.operandRegs fs .d ++ s.operandRegs ft .d
  | .maddD _ fr fs ft | .maddPs _ fr fs ft | .msubD _ fr fs ft | .msubPs _ fr fs ft | .nmaddD _ fr fs ft
  | .nmaddPs _ fr fs ft | .nmsubD _ fr fs ft | .nmsubPs _ fr fs ft =>
    s.operandRegs fs .d ++ s.operandRegs ft .d ++ s.operandRegs fr .d
  | _ => []

/-- The register fields of an instruction that name a 64-bit operand or result of the FPU (R36, R330). -/
def wideFields (i : Instr) : List FprNo :=
  match i with
  | .addD fd fs ft | .addPs fd fs ft | .subD fd fs ft | .subPs fd fs ft | .mulD fd fs ft | .mulPs fd fs ft
  | .divD fd fs ft | .divPs fd fs ft | .recip2D fd fs ft | .recip2Ps fd fs ft | .rsqrt2D fd fs ft
  | .rsqrt2Ps fd fs ft => [fd, fs, ft]
  | .sqrtD fd fs | .sqrtPs fd fs | .absD fd fs | .absPs fd fs | .movD fd fs | .movPs fd fs | .negD fd fs
  | .negPs fd fs | .recipD fd fs | .recipPs fd fs | .roundLD fd fs | .truncLD fd fs | .ceilLD fd fs
  | .floorLD fd fs | .cvtLD fd fs | .cvtDL fd fs => [fd, fs]
  | .roundLS fd _ | .truncLS fd _ | .ceilLS fd _ | .floorLS fd _ | .cvtLS fd _ | .cvtDS fd _ | .cvtDW fd _ => [fd]
  | .roundWD _ fs | .truncWD _ fs | .ceilWD _ fs | .floorWD _ fs | .cvtWD _ fs | .cvtSD _ fs | .cvtSL _ fs
  | .dmfc1 _ fs | .dmtc1 _ fs => [fs]
  | .cFD _ fs ft | .cFPs _ fs ft | .cUnD _ fs ft | .cUnPs _ fs ft | .cEqD _ fs ft | .cEqPs _ fs ft
  | .cUeqD _ fs ft | .cUeqPs _ fs ft | .cOltD _ fs ft | .cOltPs _ fs ft | .cUltD _ fs ft | .cUltPs _ fs ft
  | .cOleD _ fs ft | .cOlePs _ fs ft | .cUleD _ fs ft | .cUlePs _ fs ft | .cSfD _ fs ft | .cSfPs _ fs ft
  | .cNgleD _ fs ft | .cNglePs _ fs ft | .cSeqD _ fs ft | .cSeqPs _ fs ft | .cNglD _ fs ft | .cNglPs _ fs ft
  | .cLtD _ fs ft | .cLtPs _ fs ft | .cNgeD _ fs ft | .cNgePs _ fs ft | .cLeD _ fs ft | .cLePs _ fs ft
  | .cNgtD _ fs ft | .cNgtPs _ fs ft => [fs, ft]
  | .maddD fd fr fs ft | .maddPs fd fr fs ft | .msubD fd fr fs ft | .msubPs fd fr fs ft | .nmaddD fd fr fs ft
  | .nmaddPs fd fr fs ft | .nmsubD fd fr fs ft | .nmsubPs fd fr fs ft => [fd, fr, fs, ft]
  | .ldc1 ft _ _ | .sdc1 ft _ _ => [ft]
  | _ => []

/-- The bits of the FCSR an instruction may change at once (R47): Cause and Flags for one that performs `FPRaise`
(R296), condition codes for an MDMX compare (R430), every bit for CTC1 (R336). -/
def fcsrBits (i : Instr) : BitVec 32 :=
  match i with
  | .addS .. | .addD .. | .addPs .. | .subS .. | .subD .. | .subPs .. | .mulS .. | .mulD .. | .mulPs ..
  | .divS .. | .divD .. | .divPs .. | .recip2S .. | .recip2D .. | .recip2Ps .. | .rsqrt2S .. | .rsqrt2D ..
  | .rsqrt2Ps .. | .sqrtS .. | .sqrtD .. | .sqrtPs .. | .absS .. | .absD .. | .absPs .. | .negS .. | .negD ..
  | .negPs .. | .recipS .. | .recipD .. | .recipPs .. | .roundLS .. | .roundLD .. | .truncLS .. | .truncLD ..
  | .ceilLS .. | .ceilLD .. | .floorLS .. | .floorLD .. | .roundWS .. | .roundWD .. | .truncWS .. | .truncWD ..
  | .ceilWS .. | .ceilWD .. | .floorWS .. | .floorWD .. | .cvtWS .. | .cvtWD .. | .cvtLS .. | .cvtLD ..
  | .cvtSD .. | .cvtSW .. | .cvtSL .. | .cvtDS .. | .cvtDW .. | .cvtDL .. | .cFS .. | .cFD .. | .cFPs ..
  | .cUnS .. | .cUnD .. | .cUnPs .. | .cEqS .. | .cEqD .. | .cEqPs .. | .cUeqS .. | .cUeqD .. | .cUeqPs ..
  | .cOltS .. | .cOltD .. | .cOltPs .. | .cUltS .. | .cUltD .. | .cUltPs .. | .cOleS .. | .cOleD ..
  | .cOlePs .. | .cUleS .. | .cUleD .. | .cUlePs .. | .cSfS .. | .cSfD .. | .cSfPs .. | .cNgleS .. | .cNgleD ..
  | .cNglePs .. | .cSeqS .. | .cSeqD .. | .cSeqPs .. | .cNglS .. | .cNglD .. | .cNglPs .. | .cLtS .. | .cLtD ..
  | .cLtPs .. | .cNgeS .. | .cNgeD .. | .cNgePs .. | .cLeS .. | .cLeD .. | .cLePs .. | .cNgtS .. | .cNgtD ..
  | .cNgtPs .. | .maddS .. | .maddD .. | .maddPs .. | .msubS .. | .msubD .. | .msubPs .. | .nmaddS ..
  | .nmaddD .. | .nmaddPs .. | .nmsubS .. | .nmsubD .. | .nmsubPs .. => 0x0003F07C#32
  | .cEqObE .. | .cEqObV .. | .cEqObI .. | .cLtObE .. | .cLtObV .. | .cLtObI .. | .cLeObE .. | .cLeObV ..
  | .cLeObI .. => 0xFE800000#32
  | .cEqQhE .. | .cEqQhV .. | .cEqQhI .. | .cLtQhE .. | .cLtQhV .. | .cLtQhI .. | .cLeQhE .. | .cLeQhV ..
  | .cLeQhI .. => 0x0E800000#32
  | .ctc1 .. => 0xFFFFFFFF#32
  | _ => 0#32

/-- Whether an instruction writes `ACC_OB` (R51). -/
def writesAccOb (i : Instr) : Bool :=
  match i with
  | .mulaObE .. | .mulaObV .. | .mulaObI .. | .mulsObE .. | .mulsObV .. | .mulsObI .. | .mullObE ..
  | .mullObV .. | .mullObI .. | .mulslObE .. | .mulslObV .. | .mulslObI .. | .addaObE .. | .addaObV ..
  | .addaObI .. | .addlObE .. | .addlObV .. | .addlObI .. | .subaObE .. | .subaObV .. | .subaObI ..
  | .sublObE .. | .sublObV .. | .sublObI .. | .wachOb .. | .waclOb .. => true
  | _ => false

/-- Whether an instruction writes `ACC_QH` (R51). -/
def writesAccQh (i : Instr) : Bool :=
  match i with
  | .mulaQhE .. | .mulaQhV .. | .mulaQhI .. | .mulsQhE .. | .mulsQhV .. | .mulsQhI .. | .mullQhE ..
  | .mullQhV .. | .mullQhI .. | .mulslQhE .. | .mulslQhV .. | .mulslQhI .. | .addaQhE .. | .addaQhV ..
  | .addaQhI .. | .addlQhE .. | .addlQhV .. | .addlQhI .. | .subaQhE .. | .subaQhV .. | .subaQhI ..
  | .sublQhE .. | .sublQhV .. | .sublQhI .. | .wachQh .. | .waclQh .. => true
  | _ => false

/-- Whether an instruction may change `LLbit`: a linked load, a store, a conditional store, ERET (R96, R97). -/
def mayChangeLink (i : Instr) : Bool :=
  match i with
  | .ll .. | .lld .. | .sb .. | .sh .. | .sw .. | .sd .. | .swl .. | .swr .. | .sdl .. | .sdr .. | .swc1 ..
  | .sdc1 .. | .sc .. | .scd .. | .eret => true
  | _ => false

/-- How many entries an instruction appends to the pending-write queue where it completes (R564). -/
def queueEntries (i : Instr) : Nat :=
  match i with
  | .lb .. | .lbu .. | .lh .. | .lhu .. | .lw .. | .lwu .. | .ld .. | .ll .. | .lld .. | .lwl .. | .lwr ..
  | .ldl .. | .ldr .. | .lwc1 .. | .ldc1 .. | .cFS .. | .cFD .. | .cUnS .. | .cUnD .. | .cEqS .. | .cEqD ..
  | .cUeqS .. | .cUeqD .. | .cOltS .. | .cOltD .. | .cUltS .. | .cUltD .. | .cOleS .. | .cOleD .. | .cUleS ..
  | .cUleD .. | .cSfS .. | .cSfD .. | .cNgleS .. | .cNgleD .. | .cSeqS .. | .cSeqD .. | .cNglS .. | .cNglD ..
  | .cLtS .. | .cLtD .. | .cNgeS .. | .cNgeD .. | .cLeS .. | .cLeD .. | .cNgtS .. | .cNgtD .. => 1
  | .cFPs .. | .cUnPs .. | .cEqPs .. | .cUeqPs .. | .cOltPs .. | .cUltPs .. | .cOlePs .. | .cUlePs ..
  | .cSfPs .. | .cNglePs .. | .cSeqPs .. | .cNglPs .. | .cLtPs .. | .cNgePs .. | .cLePs .. | .cNgtPs .. => 2
  | _ => 0

/-! ### Tables of the MDMX unit: each instruction, in all its forms, with what the spec says of one lane -/

/-- The OB lane operations: result lane from the lanes of `vs` and of the second operand (R404-R414, R417, R418). -/
noncomputable def obLaneTable : List ((FprNo → FprNo → ObOperand → Instr) × (BitVec 8 → BitVec 8 → BitVec 8)) := [
  (obForm .addObE .addObV .addObI, fun a t => BitVec.ofNat 8 (min 255 (a.toNat + t.toNat))),
  (obForm .subObE .subObV .subObI, fun a t => BitVec.ofNat 8 (a.toNat - t.toNat)),
  (obForm .mulObE .mulObV .mulObI, fun a t => BitVec.ofNat 8 (min 255 (a.toNat * t.toNat))),
  (obForm .minObE .minObV .minObI, fun a t => BitVec.ofNat 8 (min a.toNat t.toNat)),
  (obForm .maxObE .maxObV .maxObI, fun a t => BitVec.ofNat 8 (max a.toNat t.toNat)),
  (obForm .andObE .andObV .andObI, fun a t => a &&& t),
  (obForm .orObE .orObV .orObI, fun a t => a ||| t),
  (obForm .xorObE .xorObV .xorObI, fun a t => a ^^^ t),
  (obForm .norObE .norObV .norObI, fun a t => ~~~(a ||| t)),
  (obForm .sllObE .sllObV .sllObI, fun a t => BitVec.ofNat 8 (a.toNat * 2 ^ (t.toNat % 8))),
  (obForm .srlObE .srlObV .srlObI, fun a t => BitVec.ofNat 8 (a.toNat / 2 ^ (t.toNat % 8))),
  (obForm .pabsdiffObE .pabsdiffObV .pabsdiffObI,
    fun a t => BitVec.ofNat 8 (max a.toNat t.toNat - min a.toNat t.toNat)),
  (obForm .pavgObE .pavgObV .pavgObI, fun a t => BitVec.ofNat 8 ((a.toNat + t.toNat + 1) / 2))]

/-- The QH lane operations (R404-R416). -/
noncomputable def qhLaneTable : List ((FprNo → FprNo → QhOperand → Instr) × (BitVec 16 → BitVec 16 → BitVec 16)) := [
  (qhForm .addQhE .addQhV .addQhI, fun a t => BitVec.ofInt 16 (max (-32768) (min 32767 (a.toInt + t.toInt)))),
  (qhForm .subQhE .subQhV .subQhI, fun a t => BitVec.ofInt 16 (max (-32768) (min 32767 (a.toInt - t.toInt)))),
  (qhForm .mulQhE .mulQhV .mulQhI, fun a t => BitVec.ofInt 16 (max (-32768) (min 32767 (a.toInt * t.toInt)))),
  (qhForm .minQhE .minQhV .minQhI, fun a t => BitVec.ofInt 16 (min a.toInt t.toInt)),
  (qhForm .maxQhE .maxQhV .maxQhI, fun a t => BitVec.ofInt 16 (max a.toInt t.toInt)),
  (qhForm .andQhE .andQhV .andQhI, fun a t => a &&& t),
  (qhForm .orQhE .orQhV .orQhI, fun a t => a ||| t),
  (qhForm .xorQhE .xorQhV .xorQhI, fun a t => a ^^^ t),
  (qhForm .norQhE .norQhV .norQhI, fun a t => ~~~(a ||| t)),
  (qhForm .sllQhE .sllQhV .sllQhI, fun a t => BitVec.ofNat 16 (a.toNat * 2 ^ (t.toNat % 16))),
  (qhForm .srlQhE .srlQhV .srlQhI, fun a t => BitVec.ofNat 16 (a.toNat / 2 ^ (t.toNat % 16))),
  (qhForm .sraQhE .sraQhV .sraQhI, fun a t => BitVec.ofInt 16 (a.toInt / 2 ^ (t.toNat % 16))),
  (qhForm .msgnQhE .msgnQhV .msgnQhI, fun a t => BitVec.ofInt 16 (max (-32768) (min 32767 (a.toInt * t.toInt.sign))))]

/-- The OB compares: the condition code of a lane (R430-R432). -/
noncomputable def obCompareTable : List ((FprNo → ObOperand → Instr) × (BitVec 8 → BitVec 8 → Bool)) := [
  (obPair .cEqObE .cEqObV .cEqObI, fun a t => a == t),
  (obPair .cLtObE .cLtObV .cLtObI, fun a t => a.ult t),
  (obPair .cLeObE .cLeObV .cLeObI, fun a t => a.ule t)]

/-- The QH compares (R430-R432). -/
noncomputable def qhCompareTable : List ((FprNo → QhOperand → Instr) × (BitVec 16 → BitVec 16 → Bool)) := [
  (qhPair .cEqQhE .cEqQhV .cEqQhI, fun a t => a == t),
  (qhPair .cLtQhE .cLtQhV .cLtQhI, fun a t => a.slt t),
  (qhPair .cLeQhE .cLeQhV .cLeQhI, fun a t => a.sle t)]

/-- The OB picks: the value of the condition code for which a lane is that of `vs` (R433, R434). -/
noncomputable def obPickTable : List ((FprNo → FprNo → ObOperand → Instr) × Bool) := [
  (obForm .pickfObE .pickfObV .pickfObI, false),
  (obForm .picktObE .picktObV .picktObI, true)]

/-- The QH picks (R433, R434). -/
noncomputable def qhPickTable : List ((FprNo → FprNo → QhOperand → Instr) × Bool) := [
  (qhForm .pickfQhE .pickfQhV .pickfQhI, false),
  (qhForm .picktQhE .picktQhV .picktQhI, true)]

/-- The OB shuffles: the lanes of the result, lane 0 first (R436-R439). -/
noncomputable def obShuffleTable : List ((FprNo → FprNo → FprNo → Instr) × LaneTable 8 8) := [
  (.shflPachOb, fun a t => [t 1, t 3, t 5, t 7, a 1, a 3, a 5, a 7]),
  (.shflPaclOb, fun a t => [t 0, t 2, t 4, t 6, a 0, a 2, a 4, a 6]),
  (.shflMixhOb, fun a t => [t 4, a 4, t 5, a 5, t 6, a 6, t 7, a 7]),
  (.shflMixlOb, fun a t => [t 0, a 0, t 1, a 1, t 2, a 2, t 3, a 3])]

/-- The QH shuffles (R436-R443). -/
noncomputable def qhShuffleTable : List ((FprNo → FprNo → FprNo → Instr) × LaneTable 4 16) := [
  (.shflPachQh, fun a t => [t 1, t 3, a 1, a 3]),
  (.shflPaclQh, fun a t => [t 0, t 2, a 0, a 2]),
  (.shflMixhQh, fun a t => [t 2, a 2, t 3, a 3]),
  (.shflMixlQh, fun a t => [t 0, a 0, t 1, a 1]),
  (.shflBflaQh, fun a t => [t 1, t 0, a 1, a 0]),
  (.shflBflbQh, fun a t => [t 3, t 2, a 3, a 2]),
  (.shflRepaQh, fun a t => [t 2, t 3, a 2, a 3]),
  (.shflRepbQh, fun a t => [t 0, t 1, a 0, a 1])]

/-- The OB accumulator instructions, in arithmetic modulo 2^24 on the lanes extended (R450-R459). -/
noncomputable def obAccTable : List ((FprNo → ObOperand → Instr) × (BitVec 24 → BitVec 24 → BitVec 24 → BitVec 24)) := [
  (obPair .mulaObE .mulaObV .mulaObI, fun acc a t => acc + a * t),
  (obPair .mulsObE .mulsObV .mulsObI, fun acc a t => acc - a * t),
  (obPair .mullObE .mullObV .mullObI, fun _ a t => a * t),
  (obPair .mulslObE .mulslObV .mulslObI, fun _ a t => -(a * t)),
  (obPair .addaObE .addaObV .addaObI, fun acc a t => acc + a + t),
  (obPair .addlObE .addlObV .addlObI, fun _ a t => a + t),
  (obPair .subaObE .subaObV .subaObI, fun acc a t => acc + a - t),
  (obPair .sublObE .sublObV .sublObI, fun _ a t => a - t)]

/-- The QH accumulator instructions, in arithmetic modulo 2^48 (R450-R459). -/
noncomputable def qhAccTable : List ((FprNo → QhOperand → Instr) × (BitVec 48 → BitVec 48 → BitVec 48 → BitVec 48)) := [
  (qhPair .mulaQhE .mulaQhV .mulaQhI, fun acc a t => acc + a * t),
  (qhPair .mulsQhE .mulsQhV .mulsQhI, fun acc a t => acc - a * t),
  (qhPair .mullQhE .mullQhV .mullQhI, fun _ a t => a * t),
  (qhPair .mulslQhE .mulslQhV .mulslQhI, fun _ a t => -(a * t)),
  (qhPair .addaQhE .addaQhV .addaQhI, fun acc a t => acc + a + t),
  (qhPair .addlQhE .addlQhV .addlQhI, fun _ a t => a + t),
  (qhPair .subaQhE .subaQhV .subaQhI, fun acc a t => acc + a - t),
  (qhPair .sublQhE .sublQhV .sublQhI, fun _ a t => a - t)]

/-- The OB rounding reductions (R466-R468). -/
noncomputable def obReduceTable : List ((FprNo → ObOperand → Instr) × Reduction) := [
  (obPair .rzuObE .rzuObV .rzuObI, .rzu),
  (obPair .rnauObE .rnauObV .rnauObI, .rnau),
  (obPair .rneuObE .rneuObV .rneuObI, .rneu)]

/-- The QH rounding reductions (R466-R472). -/
noncomputable def qhReduceTable : List ((FprNo → QhOperand → Instr) × Reduction) := [
  (qhPair .rzuQhE .rzuQhV .rzuQhI, .rzu),
  (qhPair .rnauQhE .rnauQhV .rnauQhI, .rnau),
  (qhPair .rneuQhE .rneuQhV .rneuQhI, .rneu),
  (qhPair .rzsQhE .rzsQhV .rzsQhI, .rzs),
  (qhPair .rnasQhE .rnasQhV .rnasQhI, .rnas),
  (qhPair .rnesQhE .rnesQhV .rnesQhI, .rnes)]

/-! ### Tables of the FPU -/

/-- The arithmetic instructions of one operand and the unit operation of each (R344-R347). -/
noncomputable def fpUnaryTable : List ((ArithFmt → FprNo → FprNo → Instr) × FpOp1) := [
  (fmtForm .sqrtS .sqrtD .sqrtPs, fpSqrt),
  (fmtForm .recipS .recipD .recipPs, fpRecip),
  (fmtForm .absS .absD .absPs, fpAbs),
  (fmtForm .negS .negD .negPs, fpNeg)]

/-- The arithmetic instructions of two operands (R340-R343, R348, R349). -/
noncomputable def fpBinaryTable : List ((ArithFmt → FprNo → FprNo → FprNo → Instr) × FpOp2) := [
  (fmtForm .addS .addD .addPs, fpAdd),
  (fmtForm .subS .subD .subPs, fpSub),
  (fmtForm .mulS .mulD .mulPs, fpMul),
  (fmtForm .divS .divD .divPs, fpDiv),
  (fmtForm .recip2S .recip2D .recip2Ps, fpRecip2),
  (fmtForm .rsqrt2S .rsqrt2D .rsqrt2Ps, fpRsqrt2)]

/-- The multiply-add instructions, operands in the order `fs`, `ft`, `fr` (R350-R353). -/
noncomputable def fpTernaryTable : List ((ArithFmt → FprNo → FprNo → FprNo → FprNo → Instr) × FpOp3) := [
  (fmtForm .maddS .maddD .maddPs, fpMadd),
  (fmtForm .msubS .msubD .msubPs, fpMsub),
  (fmtForm .nmaddS .nmaddD .nmaddPs, fpNmadd),
  (fmtForm .nmsubS .nmsubD .nmsubPs, fpNmsub)]

/-- The compares, each with its predicate `cond` (R371). -/
noncomputable def fpCompareTable : List ((ArithFmt → BitVec 3 → FprNo → FprNo → Instr) × BitVec 4) := [
  (fmtForm .cFS .cFD .cFPs, 0#4),
  (fmtForm .cUnS .cUnD .cUnPs, 1#4),
  (fmtForm .cEqS .cEqD .cEqPs, 2#4),
  (fmtForm .cUeqS .cUeqD .cUeqPs, 3#4),
  (fmtForm .cOltS .cOltD .cOltPs, 4#4),
  (fmtForm .cUltS .cUltD .cUltPs, 5#4),
  (fmtForm .cOleS .cOleD .cOlePs, 6#4),
  (fmtForm .cUleS .cUleD .cUlePs, 7#4),
  (fmtForm .cSfS .cSfD .cSfPs, 8#4),
  (fmtForm .cNgleS .cNgleD .cNglePs, 9#4),
  (fmtForm .cSeqS .cSeqD .cSeqPs, 10#4),
  (fmtForm .cNglS .cNglD .cNglPs, 11#4),
  (fmtForm .cLtS .cLtD .cLtPs, 12#4),
  (fmtForm .cNgeS .cNgeD .cNgePs, 13#4),
  (fmtForm .cLeS .cLeD .cLePs, 14#4),
  (fmtForm .cNgtS .cNgtD .cNgtPs, 15#4)]

/-- The conversions: source format, destination format and operation (R355-R370). -/
noncomputable def fpConvertTable : List Conversion := [
  ⟨.cvtSD, .d, .s, fun rm fs a => inLowHalf (fpDoubleToSingle rm fs a)⟩,
  ⟨.cvtSW, .w, .s, fun rm fs a => inLowHalf (fpOfInt .single rm fs (lowerHalf a).toInt)⟩,
  ⟨.cvtSL, .l, .s, fun rm fs a => inLowHalf (fpOfInt .single rm fs a.toInt)⟩,
  ⟨.cvtDS, .s, .d, fun _ _ a => fpSingleToDouble (lowerHalf a)⟩,
  ⟨.cvtDW, .w, .d, fun rm fs a => fpOfInt .double rm fs (lowerHalf a).toInt⟩,
  ⟨.cvtDL, .l, .d, fun rm fs a => fpOfInt .double rm fs a.toInt⟩,
  ⟨.cvtWS, .s, .w, fun rm _ a => inLowHalf (fpToInt .single 32 rm (lowerHalf a))⟩,
  ⟨.cvtWD, .d, .w, fun rm _ a => inLowHalf (fpToInt .double 32 rm a)⟩,
  ⟨.cvtLS, .s, .l, fun rm _ a => fpToInt .single 64 rm (lowerHalf a)⟩,
  ⟨.cvtLD, .d, .l, fun rm _ a => fpToInt .double 64 rm a⟩,
  ⟨.roundWS, .s, .w, fun _ _ a => inLowHalf (fpToInt .single 32 .nearestEven (lowerHalf a))⟩,
  ⟨.roundWD, .d, .w, fun _ _ a => inLowHalf (fpToInt .double 32 .nearestEven a)⟩,
  ⟨.roundLS, .s, .l, fun _ _ a => fpToInt .single 64 .nearestEven (lowerHalf a)⟩,
  ⟨.roundLD, .d, .l, fun _ _ a => fpToInt .double 64 .nearestEven a⟩,
  ⟨.truncWS, .s, .w, fun _ _ a => inLowHalf (fpToInt .single 32 .towardZero (lowerHalf a))⟩,
  ⟨.truncWD, .d, .w, fun _ _ a => inLowHalf (fpToInt .double 32 .towardZero a)⟩,
  ⟨.truncLS, .s, .l, fun _ _ a => fpToInt .single 64 .towardZero (lowerHalf a)⟩,
  ⟨.truncLD, .d, .l, fun _ _ a => fpToInt .double 64 .towardZero a⟩,
  ⟨.ceilWS, .s, .w, fun _ _ a => inLowHalf (fpToInt .single 32 .towardPlus (lowerHalf a))⟩,
  ⟨.ceilWD, .d, .w, fun _ _ a => inLowHalf (fpToInt .double 32 .towardPlus a)⟩,
  ⟨.ceilLS, .s, .l, fun _ _ a => fpToInt .single 64 .towardPlus (lowerHalf a)⟩,
  ⟨.ceilLD, .d, .l, fun _ _ a => fpToInt .double 64 .towardPlus a⟩,
  ⟨.floorWS, .s, .w, fun _ _ a => inLowHalf (fpToInt .single 32 .towardMinus (lowerHalf a))⟩,
  ⟨.floorWD, .d, .w, fun _ _ a => inLowHalf (fpToInt .double 32 .towardMinus a)⟩,
  ⟨.floorLS, .s, .l, fun _ _ a => fpToInt .single 64 .towardMinus (lowerHalf a)⟩,
  ⟨.floorLD, .d, .l, fun _ _ a => fpToInt .double 64 .towardMinus a⟩]

end Sys2Proof.Machine
end

