-- ==== Sys2Proof/Machine/Lanes.lean ====
section
/-! DEFINITION. The memory interface as the spec gives it in hardware terms: one aligned doubleword, eight byte lanes
and the byte-lane multiplexer (20_memory.md R80-R83), and the two transfers of a 16-byte access (R86). The instructions
use the byte form (`memRead`, `memWrite`); the obligations say that the two are equal (log 20). -/

namespace Sys2Proof.Machine

/-- The cache-coherence classes: CORE has no cache and one class (R71, R104). -/
inductive CoherenceClass where
  /-- UNCACHED. -/
  | uncached
  deriving DecidableEq, Repr

/-- `Translate(va)` with both of its outputs: the physical address and the class, which no rule reads (R71). -/
def translateWithClass (va : Word) : Word × CoherenceClass := (translate va, .uncached)

/-- `A8 = pa & ~7` (R80). -/
def laneBase (pa : Word) : Word := pa &&& ~~~7#64

/-- `DW`: the doubleword the interface transfers. Under big-endian order the lowest address is on lane 7, under
little-endian order on lane 0 (R80). -/
def State.doubleword (s : State) (be : Bool) (pa : Word) : BitVec 64 :=
  valueOfBytes 64 be (s.bytesFrom (laneBase pa) 8)

/-- The byte-lane positioning rule, in bits, for `n` bytes at `pa` (R81). -/
def laneShift (be : Bool) (pa : Word) (n : Nat) : Nat :=
  let o := pa.toNat % 8
  if be then (8 - o - n) * 8 else o * 8

/-- `load(pa, n, isfetch)`: the selected lanes at the low end, zero-extended (R82). -/
def laneLoad (s : State) (pa : Word) (n : Nat) (isFetch : Bool) : BitVec 64 :=
  let be := s.bigEndianCPU isFetch
  (s.doubleword be pa >>> laneShift be pa n) &&& BitVec.ofNat 64 (2 ^ (8 * n) - 1)

/-- The mask of the lanes a store writes (R83). -/
def laneMask (be : Bool) (pa : Word) (n : Nat) : BitVec 64 :=
  BitVec.ofNat 64 (2 ^ (8 * n) - 1) <<< laneShift be pa n

/-- `DW'` of R83: the doubleword after a store of the low `n` bytes of `v`. -/
def laneMerge (be : Bool) (pa : Word) (n : Nat) (dw v : BitVec 64) : BitVec 64 :=
  (dw &&& ~~~laneMask be pa n) ||| ((v <<< laneShift be pa n) &&& laneMask be pa n)

/-- The byte-enable mask of a store: bit `k` selects lane `k` (R80, R83). -/
def laneEnables (be : Bool) (pa : Word) (n : Nat) : BitVec 8 :=
  BitVec.ofNat 8 (2 ^ n - 1) <<< (laneShift be pa n / 8)

/-- `store(pa, n, v)`: the doubleword is read, merged and written back (R83). -/
def laneStore (s : State) (pa : Word) (n : Nat) (v : BitVec 64) : State :=
  let be := s.bigEndianCPU false
  s.storeBytes (laneBase pa) (bytesOfValue be 8 (laneMerge be pa n (s.doubleword be pa) v))

/-- The transfers a 16-byte access makes, in their order: each with its `A8` and the doubleword it carries. The first
is at `pa`, the second at `pa + 8`; the first carries the more significant half of the value in big-endian order and
the less significant half in little-endian order (R86). -/
def laneTransfers16 (be : Bool) (pa : Word) (v : BitVec 128) : List (Word × BitVec 64) :=
  let high := v.extractLsb' 64 64
  let low := v.extractLsb' 0 64
  if be then [(pa, high), (pa + 8#64, low)] else [(pa, low), (pa + 8#64, high)]

/-- `load(pa, 16)`: the doubleword at `pa`, then the one at `pa + 8`, each whole, with `shift` = 0 (R86). -/
def laneLoad16 (s : State) (pa : Word) : BitVec 128 :=
  let be := s.bigEndianCPU false
  let first := laneLoad s pa 8 false
  let second := laneLoad s (pa + 8#64) 8 false
  if be then first ++ second else second ++ first

/-- `store(pa, 16, v)`: its two transfers in their order, every lane enabled (R86). -/
def laneStore16 (s : State) (pa : Word) (v : BitVec 128) : State :=
  (laneTransfers16 (s.bigEndianCPU false) pa v).foldl (fun s x => laneStore s x.1 8 x.2) s

end Sys2Proof.Machine
end

