-- ==== Sys2Proof/Certificates/Slice0/Obligations.lean ====
section
/-! DEFINITION. The statements for the provers, one `Prop` each, listed in OBLIGATIONS.json in this order. -/

open Sys2Proof Sys2Proof.Machine

/-- Decoding an encoded well-formed instruction gives it back. Decoding undoes encoding (30_encoding.md R111, R112,
R117-R123): no bit of an operand is dropped. -/
def Obligations.DecodeEncode : Prop :=
  ∀ i : Instr, i.wellFormed = true → decode (encode i) = .ok i

/-- Every word the decoder accepts is the encoding of the well-formed instruction it answers. Encoding undoes decoding
(30_encoding.md R111, R126): each instruction has one word. -/
def Obligations.EncodeDecode : Prop :=
  ∀ (w : BitVec 32) (i : Instr), decode w = .ok i → encode i = w ∧ i.wellFormed = true

/-- Words the spec writes out decode to the instructions it names. Words written out in the spec (R185, R331, R332,
R335-R337, R340, R350, R371-R373, R404, R433, R436, R452, R466, R480-R484, R488) and two reserved words (R126). -/
def Obligations.DecodeWords : Prop :=
  decode 0x00000000#32 = .ok (.sll 0 0 0) ∧
    decode 0x0000000C#32 = .ok (.syscall 0) ∧
    decode 0x0000004D#32 = .ok (.brk 1) ∧
    decode 0x03FFFFCD#32 = .ok .halt ∧
    decode 0x0000000F#32 = .ok .sync ∧
    decode 0x40026000#32 = .ok (.mfc0 2 12) ∧
    decode 0x40A27000#32 = .ok (.dmtc0 2 14) ∧
    decode 0x42000018#32 = .ok .eret ∧
    decode 0x44020000#32 = .ok (.mfc1 2 0) ∧
    decode 0x44C2F800#32 = .ok (.ctc1 2 31) ∧
    decode 0x46C41182#32 = .ok (.mulPs 6 2 4) ∧
    decode 0x4C8201A9#32 = .ok (.msubD 6 4 0 2) ∧
    decode 0x4601003C#32 = .ok (.cLtS 0 0 1) ∧
    decode 0x4504FFFE#32 = .ok (.bc1f 1 0xFFFE) ∧
    decode 0x7921008B#32 = .ok (.addQhE 2 0 1 2) ∧
    decode 0x7BCA0005#32 = .ok (.cLeObI 0 10) ∧
    decode 0x7881009F#32 = .ok (.shflPachOb 2 0 1) ∧
    decode 0x7BC800A2#32 = .ok (.rneuObI 2 8) ∧
    decode 0x48000000#32 = .error .primaryOpcode ∧
    decode 0x00200000#32 = .error .mustBeZero

/-- A step runs the instruction the word at the PC decodes to, then ticks. A step runs the decoded instruction
(70_reset_and_hazards.md R563; 20_memory.md R90). The inputs are sampled first (log 4). -/
def Obligations.StepRunsDecoded : Prop :=
  ∀ (s t : State) (i : Instr),
    let u := samplePins s
    u.Ready → u.pc.toNat % 4 = 0 →
    decode (wordOfBytes u.configBE (u.byteAt u.pc) (u.byteAt (u.pc + 1#64)) (u.byteAt (u.pc + 2#64))
      (u.byteAt (u.pc + 3#64))) = .ok i →
    exec i u = .next t → step s = .next (tick t)

/-- A misaligned PC and a reserved word trap at the fetch. 20_memory.md R92; 48_system.md R489, 30_encoding.md R126.
That EPC is kept where EXL is set is 60_exceptions.md R513. That a tick follows a trap in the fetch is read from
70_reset_and_hazards.md R563 (log 22), and the inputs are sampled first (log 4): the model's reading. -/
def Obligations.FetchTraps : Prop :=
  ∀ (s : State) (r : Reserved), let u := samplePins s
    u.Ready →
    (u.pc.toNat % 4 ≠ 0 →
      step s = .next (tick (takeException (.adEL u.pc) u)) ∧ (takeException (.adEL u.pc) u).badVAddr = u.pc ∧
        (u.exl = false → (takeException (.adEL u.pc) u).epc = u.pc)) ∧
    (u.pc.toNat % 4 = 0 →
      decode (wordOfBytes u.configBE (u.byteAt u.pc) (u.byteAt (u.pc + 1#64)) (u.byteAt (u.pc + 2#64))
        (u.byteAt (u.pc + 3#64))) = .error r →
      step s = .next (tick (takeException .ri u)))

/-- RESET resets, STOP halts, and a core that is not running stands still. 10_state.md R61, 70_reset_and_hazards.md
R550, R561, R563. The input fields are the model's (log 4); values reset leaves unspecified are those of log 1 (log
5). -/
def Obligations.RunControl : Prop :=
  ∀ s : State, let u := samplePins s
    (u.pins.reset = true →
      ∃ t, step s = .next t ∧ t.pc = s.cfg.resetVector ∧ t.status = 0#32 ∧ t.fcsr = 0#32 ∧ t.excCode = 0#5 ∧
        t.ce = 0#2 ∧ t.llBit = false ∧ t.pq = [] ∧ t.run = .running ∧ t.configBE = s.cfg.bigEndian ∧
        t.isaMode = false ∧ (∀ r, t.tagAt r = .unknown) ∧ t.mem = s.mem ∧ t.cfg = s.cfg) ∧
    (u.pins.reset = false → u.run ≠ .running → step s = .next u) ∧
    (u.pins.reset = false → u.run = .running → u.pins.stop = true → step s = .next { u with run := .halted })

/-- A step of the core always gives a next state. The loop runs on for ever (70_reset_and_hazards.md R560); nothing of
the machine ends a run (10_state.md R25 for the premise). -/
def Obligations.StepAlwaysNext : Prop :=
  (∀ (i : Instr) (s : State), ∃ t, exec i s = .next t) ∧ (∀ s : State, s.isaMode = false → ∃ t, step s = .next t)

/-- Every step keeps the invariant of the machine. 10_state.md R25, R39, R41, R47, R55, R56; 60_exceptions.md R500,
R505. From every state that meets the invariant, reached or not. -/
def Obligations.StepKeepsInv : Prop :=
  ∀ s t : State, s.Inv → step s = .next t → t.Inv

/-- The check-stop is not reachable. 60_exceptions.md R530: with PENDING_CAPACITY at least 4 no check-stop is
reachable. -/
def Obligations.StepNeverCheckStops : Prop :=
  ∀ s t : State, s.Inv → s.Safe → step s = .next t → t.Safe

/-- The state after reset has the values the spec lists and meets the invariant. 10_state.md R64 (the rows that give a
value), 70_reset_and_hazards.md R552, 92_eei_decisions.md section 2. -/
def Obligations.ResetState : Prop :=
  (∀ c : Config, let s := State.resetWith c
      s.readGpr 0#5 = 0#64 ∧ s.pc = c.resetVector ∧ s.isaMode = false ∧ (∀ r, s.tagAt r = .unknown) ∧
      s.fcsr = 0#32 ∧ s.status = 0#32 ∧ s.excCode = 0#5 ∧ s.ce = 0#2 ∧ s.configBE = c.bigEndian ∧
      s.llBit = false ∧ s.pq = [] ∧ s.run = .running ∧ s.kernelMode = true ∧ (c.Valid → s.Inv ∧ s.Safe)) ∧
    State.reset.pc = 0xFFFFFFFFBFC00000#64 ∧ State.reset.Inv

/-- Trap entry saves the PC, records the cause and goes to the vector; ERET returns to EPC and clears EXL and LLbit.
60_exceptions.md R500, R510, R512, R513; 48_system.md R488. -/
def Obligations.TrapEntry : Prop :=
  (∀ (e : Exc) (s : State), let t := takeException e s
      t.pc = s.cfg.excVector ∧
      (s.exl = false → t.epc = s.pc) ∧ (s.exl = true → t.epc = s.epc) ∧
      (∀ k : Nat, t.status.getLsbD k = (k == 1 || s.status.getLsbD k)) ∧ t.kernelMode = true ∧
      (match e with
        | .int => t.excCode = 0#5 ∧ t.ce = s.ce ∧ t.badVAddr = s.badVAddr
        | .adEL va => t.excCode = 4#5 ∧ t.ce = s.ce ∧ t.badVAddr = va
        | .adES va => t.excCode = 5#5 ∧ t.ce = s.ce ∧ t.badVAddr = va
        | .sys => t.excCode = 8#5 ∧ t.ce = s.ce ∧ t.badVAddr = s.badVAddr
        | .bp => t.excCode = 9#5 ∧ t.ce = s.ce ∧ t.badVAddr = s.badVAddr
        | .ri => t.excCode = 10#5 ∧ t.ce = s.ce ∧ t.badVAddr = s.badVAddr
        | .cpU n => t.excCode = 11#5 ∧ t.ce = n ∧ t.badVAddr = s.badVAddr
        | .ov => t.excCode = 12#5 ∧ t.ce = s.ce ∧ t.badVAddr = s.badVAddr
        | .fpe => t.excCode = 15#5 ∧ t.ce = s.ce ∧ t.badVAddr = s.badVAddr) ∧
      t = { s with pc := t.pc, epc := t.epc, status := t.status, excCode := t.excCode, ce := t.ce,
                   badVAddr := t.badVAddr }) ∧
    ∀ s : State, s.um = false ∨ s.exl = true ∨ s.cu0 = true →
      ∃ t, exec .eret s = .next t ∧ t.exl = false ∧ (∀ k : Nat, k ≠ 1 → t.status.getLsbD k = s.status.getLsbD k) ∧
        t = { s with pc := s.epc, status := t.status, llBit := false }

/-- SYSCALL and BREAK trap always; HALT halts; SYNC only advances. 60_exceptions.md R503, R508; 48_system.md
R480-R483. BREAK with code 0xFFFFF is no instruction of the spec, whose word that is HALT (R481, R508): that exec
gives that ill-formed term a breakpoint too is the model's choice (log 19). -/
def Obligations.SystemInstructions : Prop :=
  ∀ (code : BitVec 20) (s : State),
    exec (.syscall code) s = .next (takeException .sys s) ∧
    exec (.brk code) s = .next (takeException .bp s) ∧
    exec .halt s = .next { s with run := .halted, pc := s.pc + 4#64 } ∧
    exec .sync s = .next { s with pc := s.pc + 4#64 }

/-- The tick takes an interrupt exactly when it is enabled and unmasked. 60_exceptions.md R521, R522;
70_reset_and_hazards.md R561, R563. -/
def Obligations.InterruptTaken : Prop :=
  ∀ s : State, let t := pendingTick s
    let wanted : Prop := t.status.getLsbD 0 = true ∧ t.status.getLsbD 1 = false ∧ 1 ≤ t.pins.intLevel.toNat ∧
      t.status.getLsbD (8 + t.pins.intLevel.toNat) = true
    (s.run = .running → t.run = .running → wanted → tick s = takeException .int t) ∧
    (s.run = .running → ¬ wanted → tick s = t) ∧ (s.run = .halted → tick s = t)

/-- An instruction of a coprocessor that may not be used raises CoprocessorUnusable. 60_exceptions.md R505,
44_fpu_unit.md R295, 46_mdmx_lane_ops.md R400. -/
def Obligations.CoprocessorUnusable : Prop :=
  ∀ (i : Instr) (s : State),
    (usesCop1 i = true → s.cu1 = false → exec i s = .next (takeException (.cpU 1#2) s)) ∧
    (usesCp0 i = true → s.um = true → s.exl = false → s.cu0 = false →
      exec i s = .next (takeException (.cpU 0#2) s))

/-- With FR = 0, MDMX instructions and odd 64-bit registers raise ReservedInstruction. 10_state.md R36,
46_mdmx_lane_ops.md R400, 60_exceptions.md R504. -/
def Obligations.RegisterFileModeTraps : Prop :=
  ∀ (i : Instr) (s : State), s.cu1 = true → s.fr = false →
    (usesMdmx i = true ∨ ∃ r ∈ wideFields i, r.toNat % 2 = 1) → exec i s = .next (takeException .ri s)

/-- An instruction changes no byte of memory but those it stores to. 20_memory.md R83, R85, R100. -/
def Obligations.FrameMemory : Prop :=
  ∀ (i : Instr) (s t : State) (a : Word), exec i s = .next t → inRange a (storeRange i s) = false →
    t.byteAt a = s.byteAt a

/-- An instruction changes no general register but its destination. 10_state.md R21, R22. -/
def Obligations.FrameGeneralRegisters : Prop :=
  ∀ (i : Instr) (s t : State) (r : GprNo), exec i s = .next t → gprDest i ≠ some r → t.readGpr r = s.readGpr r

/-- An instruction changes no FPR, tag or FCSR bit but those the spec names. 10_state.md R32-R34, R47; 44_fpu_unit.md
R296; 46_mdmx_lane_ops.md R430. -/
def Obligations.FrameFloatingPoint : Prop :=
  ∀ (i : Instr) (s t : State), exec i s = .next t →
    (∀ r, r ∉ fprDests i s → t.fgrAt r = s.fgrAt r) ∧
    (∀ r, r ∉ fprDests i s → r ∉ fprSources i s → t.tagAt r = s.tagAt r) ∧
    t.fcsr &&& ~~~fcsrBits i = s.fcsr &&& ~~~fcsrBits i

/-- Only a trap changes the control registers, but for CP0 instructions that may run. 60_exceptions.md R505, R510,
R525; 10_state.md R39-R44. -/
def Obligations.FrameControl : Prop :=
  ∀ (i : Instr) (s t : State), exec i s = .next t →
    (usesCp0 i = false ∨ (s.um = true ∧ s.exl = false ∧ s.cu0 = false)) →
    (∃ e, let u := takeException e s
      t.pc = u.pc ∧ t.status = u.status ∧ t.epc = u.epc ∧ t.excCode = u.excCode ∧ t.ce = u.ce ∧
        t.badVAddr = u.badVAddr) ∨
    (t.status = s.status ∧ t.epc = s.epc ∧ t.excCode = s.excCode ∧ t.ce = s.ce ∧ t.badVAddr = s.badVAddr)

/-- What else an instruction leaves as it is: accumulators, queue, link, run state, parameters, inputs. 10_state.md
R51, R54, 20_memory.md R96, R97, 10_state.md R56, R57, R61, R63; 47_mdmx_accumulator.md R450; 70_reset_and_hazards.md
R564. -/
def Obligations.FrameOther : Prop :=
  ∀ (i : Instr) (s t : State), exec i s = .next t →
    (writesAccOb i = false → t.accOb = s.accOb) ∧ (writesAccQh i = false → t.accQh = s.accQh) ∧
    (t.llAddr = s.llAddr ∨ ∃ rt base imm, i = .ll rt base imm ∨ i = .lld rt base imm) ∧
    (mayChangeLink i = false → t.llBit = s.llBit) ∧
    (t.pq = s.pq ∨ ∃ es, es.length = queueEntries i ∧ (∀ e ∈ es, e.remaining = 1) ∧ t.pq = s.pq ++ es) ∧
    (t.run = s.run ∨ (i = .halt ∧ t.run = .halted) ∨
      (t.run = .checkStop ∧ s.cfg.pendingCapacity < s.pq.length + queueEntries i)) ∧
    t.cfg = s.cfg ∧ t.isaMode = s.isaMode ∧ t.configBE = s.configBE ∧ t.pins = s.pins ∧ t.pinQueue = s.pinQueue

/-- The linked doubleword cannot change while LLbit stays 1. 20_memory.md R96-R98: a store that overlaps the linked
doubleword clears LLbit, whatever MayAlias is elsewhere (log 6). -/
def Obligations.LinkCleared : Prop :=
  ∀ (i : Instr) (s t : State), exec i s = .next t →
    (∀ a : Word, t.byteAt a ≠ s.byteAt a → a >>> 3 = s.llAddr >>> 3 → t.llBit = false) ∧
    (t.llBit = true → s.llBit = false → ∃ rt base imm, i = .ll rt base imm ∨ i = .lld rt base imm)

/-- The ALU addition: result, carry and signed overflow, in every form the spec gives them. 40_alu_unit.md R144, for
every width from 1 on (the unit has 8, 16, 32 and 64). -/
def Obligations.AluAdd : Prop :=
  ∀ (n : Nat) (a b : BitVec n) (ci : Bool), 0 < n →
    let u := (Alu.begin a).addWithCarryIn b ci
    let sum := a.toNat + b.toNat + ci.toNat
    u.acc.toNat = sum % 2 ^ n ∧ (u.c = true ↔ 2 ^ n ≤ sum) ∧ u.v = ((a ^^^ b ^^^ u.acc).msb ^^ u.c) ∧
    (u.v = true ↔ ¬ fitsSigned n (a.toInt + b.toInt + ci.toNat)) ∧
    (u.v = true ↔ a.msb = b.msb ∧ u.acc.msb ≠ a.msb) ∧ u.c = ((a &&& b) ||| ((a ||| b) &&& ~~~u.acc)).msb

/-- The two ALU subtractions: results, flags and their complementary carries. 40_alu_unit.md R145, R146, R147. -/
def Obligations.AluSubtract : Prop :=
  ∀ (n : Nat) (a b : BitVec n) (bin : Bool), 0 < n →
    let p := (Alu.begin a).subtractViaNegatedAdd b bin
    let d := (Alu.begin a).subtractDirect b bin
    let diff : Int := (a.toNat : Int) - b.toNat - bin.toNat
    p.acc = BitVec.ofInt n diff ∧ d.acc = p.acc ∧ d.v = p.v ∧ d.c = !p.c ∧
    (p.c = true ↔ b.toNat + bin.toNat ≤ a.toNat) ∧ (d.c = true ↔ diff < 0) ∧
    (p.v = true ↔ ¬ fitsSigned n (a.toInt - b.toInt - bin.toNat)) ∧
    d.c = ((~~~a &&& b) ||| ((~~~a ||| b) &&& d.acc)).msb ∧ d.v = ((a ^^^ b) &&& (a ^^^ d.acc)).msb

/-- The ALU negations and bitwise operations: results and flags. 40_alu_unit.md R143, R148, R149. -/
def Obligations.AluNegateAndLogic : Prop :=
  ∀ (n : Nat) (u : Alu n) (b : BitVec n), 0 < n →
    u.negateViaAdd.acc = -u.acc ∧ u.negateDirect.acc = -u.acc ∧
    (u.negateViaAdd.v = true ↔ u.acc = BitVec.intMin n) ∧ (u.negateDirect.v = true ↔ u.acc = BitVec.intMin n) ∧
    (u.negateViaAdd.c = true ↔ u.acc = 0#n) ∧ (u.negateDirect.c = true ↔ u.acc ≠ 0#n) ∧
    u.or b = ⟨u.acc ||| b, false, false⟩ ∧ u.xor b = ⟨u.acc ^^^ b, false, false⟩ ∧
    u.and b = ⟨u.acc &&& b, false, false⟩ ∧ u.not = ⟨~~~u.acc, false, false⟩ ∧ Alu.begin b = ⟨b, false, false⟩

/-- x[0] reads 0 and discards writes; another register holds what was last written. 10_state.md R21. -/
def Obligations.GeneralRegisterFile : Prop :=
  ∀ (s : State) (i j : GprNo) (v : Word),
    s.readGpr 0#5 = 0#64 ∧ s.writeGpr 0#5 v = s ∧
    (i ≠ 0#5 → (s.writeGpr i v).readGpr i = v) ∧ (j ≠ i → (s.writeGpr i v).readGpr j = s.readGpr j) ∧
    s.writeGpr i v = { s with gpr := (s.writeGpr i v).gpr }

/-- Integer add and subtract: exact value, wrap, and the overflow trap before the write. 41_integer.md R160-R172,
R200; 60_exceptions.md R506. -/
def Obligations.AddSubtract : Prop :=
  ∀ (rd rs rt : GprNo) (imm : BitVec 16) (s : State),
    let a32 := (s.readGprLow rs).toInt
    let b32 := (s.readGprLow rt).toInt
    let a := (s.readGpr rs).toInt
    let b := (s.readGpr rt).toInt
    let k := imm.toInt
    let wraps := fun (i : Instr) (d : GprNo) (w : Nat) (v : Int) =>
      exec i s = .next (s.writeGpr d ((BitVec.ofInt w v).signExtend 64)).advance
    let traps := fun (i : Instr) (d : GprNo) (w : Nat) (v : Int) =>
      (fitsSigned w v → exec i s = .next (s.writeGpr d (BitVec.ofInt 64 v)).advance) ∧
      (¬ fitsSigned w v → exec i s = .next (takeException .ov s))
    wraps (.addu rd rs rt) rd 32 (a32 + b32) ∧ wraps (.subu rd rs rt) rd 32 (a32 - b32) ∧
    wraps (.addiu rt rs imm) rt 32 (a32 + k) ∧
    wraps (.daddu rd rs rt) rd 64 (a + b) ∧ wraps (.dsubu rd rs rt) rd 64 (a - b) ∧
    wraps (.daddiu rt rs imm) rt 64 (a + k) ∧
    traps (.add rd rs rt) rd 32 (a32 + b32) ∧ traps (.sub rd rs rt) rd 32 (a32 - b32) ∧
    traps (.addi rt rs imm) rt 32 (a32 + k) ∧
    traps (.dadd rd rs rt) rd 64 (a + b) ∧ traps (.dsub rd rs rt) rd 64 (a - b) ∧
    traps (.daddi rt rs imm) rt 64 (a + k)

/-- Logic, LUI and set on less than write the values the spec gives. 41_integer.md R173-R184. -/
def Obligations.LogicAndSetOnLessThan : Prop :=
  ∀ (rd rs rt : GprNo) (imm : BitVec 16) (s : State),
    let x := s.readGpr rs
    let y := s.readGpr rt
    let sx : Word := imm.signExtend 64
    let zx : Word := imm.setWidth 64
    let writes := fun (i : Instr) (d : GprNo) (v : Word) => exec i s = .next (s.writeGpr d v).advance
    writes (.slt rd rs rt) rd (if x.toInt < y.toInt then 1#64 else 0#64) ∧
    writes (.sltu rd rs rt) rd (if x.toNat < y.toNat then 1#64 else 0#64) ∧
    writes (.slti rt rs imm) rt (if x.toInt < sx.toInt then 1#64 else 0#64) ∧
    writes (.sltiu rt rs imm) rt (if x.toNat < sx.toNat then 1#64 else 0#64) ∧
    writes (.and rd rs rt) rd (x &&& y) ∧ writes (.or rd rs rt) rd (x ||| y) ∧ writes (.xor rd rs rt) rd (x ^^^ y) ∧
    writes (.nor rd rs rt) rd (~~~(x ||| y)) ∧ writes (.andi rt rs imm) rt (x &&& zx) ∧
    writes (.ori rt rs imm) rt (x ||| zx) ∧ writes (.xori rt rs imm) rt (x ^^^ zx) ∧
    writes (.lui rt imm) rt (BitVec.ofInt 64 (imm.toInt * 65536))

/-- The shift instructions multiply or divide by a power of two. 41_integer.md R185-R199, R200. -/
def Obligations.Shifts : Prop :=
  ∀ (rd rt rs : GprNo) (sa : BitVec 5) (s : State),
    let w := s.readGprLow rt
    let x := s.readGpr rt
    let n5 := (s.readGpr rs).toNat % 32
    let n6 := (s.readGpr rs).toNat % 64
    let word := fun (i : Instr) (v : BitVec 32) => exec i s = .next (s.writeGpr rd (v.signExtend 64)).advance
    let double := fun (i : Instr) (v : Word) => exec i s = .next (s.writeGpr rd v).advance
    word (.sll rd rt sa) (BitVec.ofNat 32 (w.toNat * 2 ^ sa.toNat)) ∧
    word (.srl rd rt sa) (BitVec.ofNat 32 (w.toNat / 2 ^ sa.toNat)) ∧
    word (.sra rd rt sa) (BitVec.ofInt 32 (w.toInt / 2 ^ sa.toNat)) ∧
    word (.sllv rd rt rs) (BitVec.ofNat 32 (w.toNat * 2 ^ n5)) ∧
    word (.srlv rd rt rs) (BitVec.ofNat 32 (w.toNat / 2 ^ n5)) ∧
    word (.srav rd rt rs) (BitVec.ofInt 32 (w.toInt / 2 ^ n5)) ∧
    double (.dsll rd rt sa) (BitVec.ofNat 64 (x.toNat * 2 ^ sa.toNat)) ∧
    double (.dsrl rd rt sa) (BitVec.ofNat 64 (x.toNat / 2 ^ sa.toNat)) ∧
    double (.dsra rd rt sa) (BitVec.ofInt 64 (x.toInt / 2 ^ sa.toNat)) ∧
    double (.dsll32 rd rt sa) (BitVec.ofNat 64 (x.toNat * 2 ^ (sa.toNat + 32))) ∧
    double (.dsrl32 rd rt sa) (BitVec.ofNat 64 (x.toNat / 2 ^ (sa.toNat + 32))) ∧
    double (.dsra32 rd rt sa) (BitVec.ofInt 64 (x.toInt / 2 ^ (sa.toNat + 32))) ∧
    double (.dsllv rd rt rs) (BitVec.ofNat 64 (x.toNat * 2 ^ n6)) ∧
    double (.dsrlv rd rt rs) (BitVec.ofNat 64 (x.toNat / 2 ^ n6)) ∧
    double (.dsrav rd rt rs) (BitVec.ofInt 64 (x.toInt / 2 ^ n6))

/-- The jumps go to their targets and write their links. 42_control_transfer.md R221-R225. -/
def Obligations.Jumps : Prop :=
  ∀ (rd rs : GprNo) (index : BitVec 26) (s : State),
    let next := s.pc + 4#64
    let target := BitVec.ofNat 64 (next.toNat / 2 ^ 28 * 2 ^ 28 + index.toNat * 4)
    exec (.j index) s = .next { s with pc := target } ∧
    exec (.jal index) s = .next { s.writeGpr 31#5 next with pc := target } ∧
    exec (.jr rs) s = .next { s with pc := s.readGpr rs } ∧
    exec (.jalr rd rs) s = .next { s.writeGpr rd next with pc := s.readGpr rs }

/-- The branches go to their target exactly when their condition holds. 42_control_transfer.md R220, R226-R231;
45_fpu_instructions.md R372, R373. -/
def Obligations.Branches : Prop :=
  ∀ (rs rt : GprNo) (cc : BitVec 3) (imm : BitVec 16) (s : State),
    let x := s.readGpr rs
    let y := s.readGpr rt
    let code := s.fcsr.getLsbD (codeBit cc.toNat)
    let goes := fun (i : Instr) (taken : Bool) =>
      exec i s = .next { s with
        pc := if taken then s.pc + 4#64 + BitVec.ofInt 64 (4 * imm.toInt) else s.pc + 4#64 }
    goes (.beq rs rt imm) (decide (x = y)) ∧ goes (.bne rs rt imm) (decide (x ≠ y)) ∧
    goes (.blez rs imm) (decide (x.toInt ≤ 0)) ∧ goes (.bgtz rs imm) (decide (0 < x.toInt)) ∧
    goes (.bltz rs imm) (decide (x.toInt < 0)) ∧ goes (.bgez rs imm) (decide (0 ≤ x.toInt)) ∧
    (s.cu1 = true → goes (.bc1f cc imm) (!code) ∧ goes (.bc1t cc imm) code)

/-- MemRead assembles the bytes in the effective order. 20_memory.md R84. -/
def Obligations.MemReadBytes : Prop :=
  ∀ (s : State) (va : Word) (n : Nat), 1 ≤ n → n ≤ 8 →
    (va.toNat % 8 + n ≤ 8 → ∃ m, memRead s va n = .ok m ∧
      m.toNat = ((List.range n).map fun j => (s.byteAt (va + BitVec.ofNat 64 j)).toNat *
        256 ^ (if s.bigEndianCPU false then n - 1 - j else j)).sum) ∧
    (8 < va.toNat % 8 + n → memRead s va n = .error (.adEL va))

/-- MemWrite stores the bytes in the effective order and clears LLbit where it may alias. 20_memory.md R85; MayAlias
by R98 (log 6). -/
def Obligations.MemWriteBytes : Prop :=
  ∀ (s : State) (va : Word) (n : Nat) (v : Word), 1 ≤ n → n ≤ 8 →
    (va.toNat % 8 + n ≤ 8 → ∃ t, memWrite s va n v = .ok t ∧
      (∀ j < n, (t.byteAt (va + BitVec.ofNat 64 j)).toNat =
        v.toNat / 256 ^ (if s.bigEndianCPU false then n - 1 - j else j) % 256) ∧
      (∀ a, n ≤ (a - va).toNat → t.byteAt a = s.byteAt a) ∧
      t.llBit = (s.llBit && !mayAlias s.cfg s.llAddr va n) ∧
      t = { s with mem := t.mem, llBit := t.llBit }) ∧
    (8 < va.toNat % 8 + n → memWrite s va n v = .error (.adES va))

/-- A value stored and loaded back under the same order is the same value. 20_memory.md R86, R87. -/
def Obligations.EndianRoundTrip : Prop :=
  (∀ (s t : State) (va : Word) (n : Nat) (v : Word), memWrite s va n v = .ok t →
      memRead t va n = .ok (BitVec.ofNat 64 (v.toNat % 2 ^ (8 * n)))) ∧
    (∀ (s t : State) (va : Word) (v : BitVec 128), memWrite16 s va v = .ok t → memRead16 t va = .ok v)

/-- The byte-lane multiplexer does what the byte form does, for every length. 20_memory.md R80-R86, R90: the
derivation the spec marks in R84 and R85. Both forms are modelled (log 20). -/
def Obligations.LaneMultiplexer : Prop :=
  ∀ (s : State) (pa : Word),
    let be := s.bigEndianCPU false
    (∀ (n : Nat) (v : Word), 1 ≤ n → pa.toNat % 8 + n ≤ 8 →
      memRead s pa n = .ok (laneLoad s pa n false) ∧
      (∀ a, (laneStore s pa n v).byteAt a = (storeValue s pa n v).byteAt a) ∧
      (∀ k : Nat, (laneEnables be pa n).getLsbD k =
        (decide (laneShift be pa n / 8 ≤ k) && decide (k < laneShift be pa n / 8 + n))) ∧
      (pa.toNat % 4 = 0 → (laneLoad s pa 4 true).setWidth 32 =
        wordOfBytes s.configBE (s.byteAt pa) (s.byteAt (pa + 1#64)) (s.byteAt (pa + 2#64)) (s.byteAt (pa + 3#64)))) ∧
    (∀ v : BitVec 128, pa.toNat % 16 = 0 →
      let t := laneStore16 s pa v
      let high := v.extractLsb' 64 64
      let low := v.extractLsb' 0 64
      memRead16 s pa = .ok (laneLoad16 s pa) ∧
      (∃ u, memWrite16 s pa v = .ok u ∧ ∀ a, t.byteAt a = u.byteAt a) ∧
      (laneTransfers16 be pa v).map Prod.fst = [pa, pa + 8#64] ∧
      t.doubleword be pa = (if be then high else low) ∧
      t.doubleword be (pa + 8#64) = (if be then low else high))

/-- An aligned load schedules the extended value for its register; an aligned store writes the low bytes of its
register. 43_load_store.md R240-R252; 10_state.md R57. -/
def Obligations.AlignedLoadsAndStores : Prop :=
  (∀ p ∈ loadTable, ∀ (rt base : GprNo) (imm : BitVec 16) (s : State),
      (s.va base imm).toNat % p.2.1 = 0 → s.Room →
      exec (p.1 rt base imm) s =
        .next (s.scheduled (.gpr rt) (extended p.2.2 p.2.1 (s.loaded (s.va base imm) p.2.1)))) ∧
    ∀ p ∈ storeTable, ∀ (rt base : GprNo) (imm : BitVec 16) (s : State), (s.va base imm).toNat % p.2 = 0 →
      ∃ t, memWrite s (s.va base imm) p.2 (s.readGpr rt) = .ok t ∧
        exec (p.1 rt base imm) s = .next { t with pc := s.pc + 4#64 }

/-- A misaligned access raises the address error and does nothing else. 20_memory.md R77, R78; 60_exceptions.md R501,
R502, R515. -/
def Obligations.MisalignedAccessTraps : Prop :=
  ∀ (i : Instr) (s : State) (va : Word) (n : Nat),
    (usesCop1 i = true → s.cu1 = true ∧ (s.fr = true ∨ ∀ r ∈ wideFields i, r.toNat % 2 = 0)) → va.toNat % n ≠ 0 →
    (loadAlignment i s = some (va, n) → exec i s = .next (takeException (.adEL va) s)) ∧
    (storeAlignment i s = some (va, n) → exec i s = .next (takeException (.adES va) s))

/-- LL and LLD link; SC and SCD store and write 1 exactly when linked. 43_load_store.md R253-R255, R265; 20_memory.md
R96, R97, R99. -/
def Obligations.LinkedAccess : Prop :=
  ∀ (rt base : GprNo) (imm : BitVec 16) (s : State),
    let va := s.va base imm
    let links := fun (i : Instr) (n : Nat) => va.toNat % n = 0 → s.Room →
      exec i s = .next { s.scheduled (.gpr rt) (extended true n (s.loaded va n)) with llBit := true, llAddr := va }
    let stores := fun (i : Instr) (n : Nat) => va.toNat % n = 0 →
      (s.llBit = false → exec i s = .next (s.writeGpr rt 0#64).advance) ∧
      (s.llBit = true → ∃ t, memWrite s va n (s.readGpr rt) = .ok t ∧
        exec i s = .next (({ t with llBit := false } : State).writeGpr rt 1#64).advance)
    links (.ll rt base imm) 4 ∧ links (.lld rt base imm) 8 ∧ stores (.sc rt base imm) 4 ∧ stores (.scd rt base imm) 8

/-- A merge load replaces the named bytes of the pending or current register; a merge store writes those of its
register. 43_load_store.md R256-R264; 10_state.md R60. -/
def Obligations.MergeLoadsAndStores : Prop :=
  ∀ (rt base : GprNo) (imm : BitVec 16) (s : State),
    let be := s.bigEndianCPU false
    let va := s.va base imm
    let x := s.readGpr rt
    let old := s.pendingOrCurrent rt
    let bytes := fun (p : Word × Nat) => (s.loaded p.1 p.2).toNat
    let word := fun (v : Nat) => (BitVec.ofNat 32 v).signExtend 64
    let loads := fun (i : Instr) (v : Word) => s.Room → exec i s = .next (s.scheduled (.gpr rt) v)
    let stores := fun (i : Instr) (p : Word × Nat) (v : Nat) =>
      ∃ t, memWrite s p.1 p.2 (BitVec.ofNat 64 v) = .ok t ∧ exec i s = .next { t with pc := s.pc + 4#64 }
    loads (.lwl rt base imm) (word (mergedLeft 32 (leftPart 4 be va).2 old.toNat (bytes (leftPart 4 be va)))) ∧
    loads (.lwr rt base imm)
      (word (mergedRight (rightPart 4 be va).2 (old.toNat % 2 ^ 32) (bytes (rightPart 4 be va)))) ∧
    loads (.ldl rt base imm)
      (BitVec.ofNat 64 (mergedLeft 64 (leftPart 8 be va).2 old.toNat (bytes (leftPart 8 be va)))) ∧
    loads (.ldr rt base imm)
      (BitVec.ofNat 64 (mergedRight (rightPart 8 be va).2 old.toNat (bytes (rightPart 8 be va)))) ∧
    stores (.swl rt base imm) (leftPart 4 be va) (x.toNat % 2 ^ 32 / 2 ^ (32 - 8 * (leftPart 4 be va).2)) ∧
    stores (.swr rt base imm) (rightPart 4 be va) x.toNat ∧
    stores (.sdl rt base imm) (leftPart 8 be va) (x.toNat / 2 ^ (64 - 8 * (leftPart 8 be va).2)) ∧
    stores (.sdr rt base imm) (rightPart 8 be va) x.toNat

/-- A merge-load pair, back to back, delivers the word or doubleword at any address in its register. 43_load_store.md
R256-R260, 70_reset_and_hazards.md R565, R568. The inputs are sampled first in each step (log 4); that the effective
byte order is the same in both steps is a premise, because an interrupt between them may change the mode. -/
def Obligations.UnalignedLoadPair : Prop :=
  ∀ (rt base : GprNo) (k1 k2 : BitVec 16) (s t : State), s.Inv → step s = .next t →
    let u := samplePins s
    let v := samplePins t
    u.Ready → v.Ready → v.bigEndianCPU false = u.bigEndianCPU false →
    let left := u.va base k1
    let right := v.va base k2
    let lo := if u.bigEndianCPU false then left else right
    let hi := if u.bigEndianCPU false then right else left
    let delivers := fun (i j : Instr) (n : Nat) => fetchDecode u = .ok i → fetchDecode v = .ok j →
      hi = lo + BitVec.ofNat 64 (n - 1) →
      ∃ w, step t = .next w ∧ ∀ w', (samplePins w).Ready → step w = .next w' →
        w'.readGpr rt = if rt = 0#5 then 0#64 else extended true n (u.loaded lo n)
    delivers (.lwl rt base k1) (.lwr rt base k2) 4 ∧ delivers (.ldl rt base k1) (.ldr rt base k2) 8

/-- The FPU loads schedule raw bits and the FPU stores write them. 43_load_store.md R266-R269; 10_state.md R30, R32.
-/
def Obligations.FpuLoadsAndStores : Prop :=
  ∀ (ft : FprNo) (base : GprNo) (imm : BitVec 16) (s : State), s.cu1 = true →
    let va := s.va base imm
    let stores := fun (i : Instr) (n : Nat) (v : Word) =>
      ∃ t, memWrite s va n v = .ok t ∧ exec i s = .next { t with pc := s.pc + 4#64 }
    (va.toNat % 4 = 0 → s.Room → exec (.lwc1 ft base imm) s = .next (s.scheduled (.fpr32 ft) (s.loaded va 4))) ∧
    (va.toNat % 4 = 0 → stores (.swc1 ft base imm) 4 (BitVec.ofNat 64 ((s.fgrAt ft).toNat % 2 ^ 32))) ∧
    (s.fr = true ∨ ft.toNat % 2 = 0 → va.toNat % 8 = 0 →
      (s.Room → exec (.ldc1 ft base imm) s = .next (s.scheduled (.fpr64 ft) (s.loaded va 8))) ∧
      stores (.sdc1 ft base imm) 8 (if s.fr then s.fgrAt ft else
        BitVec.ofNat 64 ((s.fgrAt (ft + 1#5)).toNat % 2 ^ 32 * 2 ^ 32 + (s.fgrAt ft).toNat % 2 ^ 32)))

/-- The tick applies every due entry, oldest first, and ages what is not due. 10_state.md R56-R60;
70_reset_and_hazards.md R564, R565, R567. What applying one entry does is stated in QueueEntries. -/
def Obligations.PendingTick : Prop :=
  ∀ s : State, s.QueueLegal → s.run ≠ .checkStop →
    (∃ t, s.pq.foldlM (fun u e => applyPending e u) s = some t ∧ pendingTick s = { t with pq := [] }) ∧
    (∀ i : GprNo, i ≠ 0#5 → (pendingTick s).readGpr i = s.pendingOrCurrent i) ∧
    (∀ es : List Pending, (∀ e ∈ es, e.remaining = 1) →
      pendingTick { s with pq := s.pq ++ es } =
        { pendingTick s with pq := es.map fun e => { e with remaining := 0 } })

/-- Applying an entry writes the register it is for; a load on a full queue check-stops. 10_state.md R57, R59;
60_exceptions.md R530. What a check-stop keeps is read from R530 (log 8). -/
def Obligations.QueueEntries : Prop :=
  ∀ (s : State) (v : Word) (n : Nat) (i : GprNo) (r : FprNo) (b : BitVec 5),
    applyPending ⟨.gpr i, v, n, none⟩ s = some (s.writeGpr i v) ∧
    applyPending ⟨.fpr32 r, v, n, none⟩ s = some (s.rawWrite32 r (v.extractLsb' 0 32)) ∧
    applyPending ⟨.fpr64 r, v, n, none⟩ s = some (s.rawWrite64 r v) ∧
    (∃ t, applyPending ⟨.fcsr, v, n, some b⟩ s = some t ∧ t = { s with fcsr := t.fcsr } ∧
      ∀ k < 32, t.fcsr.getLsbD k = if k = b.toNat then v.getLsbD 0 else s.fcsr.getLsbD k) ∧
    (∃ t, applyPending ⟨.gpr i, v, n, some b⟩ s = some (s.writeGpr i t) ∧
      ∀ k < 64, t.getLsbD k = if k = b.toNat then v.getLsbD 0 else (s.readGpr i).getLsbD k) ∧
    applyPending ⟨.fcsr, v, n, none⟩ s = none ∧ applyPending ⟨.fpr32 r, v, n, some b⟩ s = none ∧
    applyPending ⟨.fpr64 r, v, n, some b⟩ s = none ∧
    ∀ p ∈ loadTable, ∀ (rt base : GprNo) (imm : BitVec 16),
      (s.va base imm).toNat % p.2.1 = 0 → s.cfg.pendingCapacity ≤ s.pq.length →
      exec (p.1 rt base imm) s = .next { s with run := .checkStop }

/-- A load's value and a compare's condition code are visible to the second instruction after and not before.
70_reset_and_hazards.md R564-R568. The inputs are sampled first in each step (log 4). With FR = 0 when the write is
applied, LDC1 to register 31 is left out: where its high half goes is a free value (log 11). -/
def Obligations.LoadDelay : Prop :=
  ∀ s : State, s.Inv →
    let u := samplePins s
    let due := pendingTick s
    let delivers := fun (i : Instr) (old new : State → Prop) => fetchDecode u = .ok i →
      ∃ t, step s = .next t ∧ old t ∧ ∀ t', (samplePins t).Ready → step t = .next t' → new t'
    u.Ready →
    (∀ (i : Instr) (rt : GprNo) (v : Word), gprLoad i u = some (rt, v) →
      (∀ va n, loadAlignment i u = some (va, n) → va.toNat % n = 0) →
      delivers i (fun t => ∀ r, t.readGpr r = if r = 0#5 then 0#64 else s.pendingOrCurrent r)
        (fun t' => t'.readGpr rt = if rt = 0#5 then 0#64 else v)) ∧
    (u.cu1 = true → ∀ (ft : FprNo) (base : GprNo) (imm : BitVec 16),
      let va := u.va base imm
      (va.toNat % 4 = 0 → delivers (.lwc1 ft base imm) (fun t => t.fgr = due.fgr ∧ t.tag = due.tag) fun t' =>
        (t'.fgrAt ft).toNat % 2 ^ 32 = (u.loaded va 4).toNat ∧ t'.tagAt ft = .uninterpreted) ∧
      (va.toNat % 8 = 0 → u.fr = true ∨ ft.toNat % 2 = 0 →
        delivers (.ldc1 ft base imm) (fun t => t.fgr = due.fgr ∧ t.tag = due.tag) fun t' =>
          (t'.fr = true → t'.fgrAt ft = u.loaded va 8 ∧ t'.tagAt ft = .uninterpreted) ∧
          (t'.fr = false → ft ≠ 31#5 →
            (t'.fgrAt ft).toNat % 2 ^ 32 = (u.loaded va 8).toNat % 2 ^ 32 ∧ t'.tagAt ft = .uninterpreted ∧
            (t'.fgrAt (ft + 1#5)).toNat % 2 ^ 32 = (u.loaded va 8).toNat / 2 ^ 32 ∧
            t'.tagAt (ft + 1#5) = .uninterpreted))) ∧
    (u.cu1 = true → ∀ p ∈ fpCompareTable, ∀ (fmt : ArithFmt) (cc : BitVec 3) (fs ft : FprNo),
      let r := u.compared fmt p.2 fs ft
      u.WideOk fmt.toFmt [fs, ft] → (fmt = .ps → cc.toNat % 2 = 0) → r.2 &&& u.fpEnables = 0#5 →
      delivers (p.1 fmt cc fs ft) (fun t => ∀ k < 8, t.fcsr.getLsbD (codeBit k) = due.fcsr.getLsbD (codeBit k))
        fun t' => ∀ k v, r.1[k]? = some v → t'.fcsr.getLsbD (codeBit (cc.toNat + k)) = v)

/-- The CP0 moves read and write the six registers, and no other. 48_system.md R484-R487; 10_state.md R38-R44. -/
def Obligations.Cp0Moves : Prop :=
  ∀ (rt : GprNo) (rd : BitVec 5) (s : State), s.um = false ∨ s.exl = true ∨ s.cu0 = true →
    let value : Option Word :=
      if rd = 8#5 then some s.badVAddr
      else if rd = 12#5 then some (s.status.setWidth 64)
      else if rd = 13#5 then some (BitVec.ofNat 64 (s.excCode.toNat * 2 ^ 2 + s.ce.toNat * 2 ^ 28 +
        (if s.pins.intLevel.toNat = 0 then 0 else 2 ^ (8 + s.pins.intLevel.toNat))))
      else if rd = 14#5 then some s.epc
      else if rd = 15#5 then some (s.cfg.prid.setWidth 64)
      else if rd = 16#5 then some (if s.configBE then 0x8000#64 else 0#64)
      else none
    let written := fun (epc : Word) =>
      if rd = 12#5 then { s with status := (s.readGpr rt).setWidth 32 &&& 0x3600FF13#32 }
      else if rd = 14#5 then { s with epc := epc } else s
    (∀ v, value = some v →
      exec (.mfc0 rt rd) s = .next (s.writeGpr rt ((v.setWidth 32).signExtend 64)).advance ∧
      exec (.dmfc0 rt rd) s = .next (s.writeGpr rt v).advance ∧
      exec (.mtc0 rt rd) s = .next (written (((s.readGpr rt).setWidth 32).signExtend 64)).advance ∧
      exec (.dmtc0 rt rd) s = .next (written (s.readGpr rt)).advance) ∧
    (value = none → ∀ i, i = .mfc0 rt rd ∨ i = .dmfc0 rt rd ∨ i = .mtc0 rt rd ∨ i = .dmtc0 rt rd →
      exec i s = .next (takeException .ri s))

/-- The FPU moves transfer raw bits, and CTC1 traps on what it enables. 45_fpu_instructions.md R331-R336; 10_state.md
R32, R45, R47. -/
def Obligations.FpuMoves : Prop :=
  ∀ (rt : GprNo) (r : FprNo) (s : State), s.cu1 = true →
    let x := s.readGpr rt
    let f := s.fgrAt r
    let low := BitVec.ofNat 64 (f.toNat / 2 ^ 32 * 2 ^ 32 + x.toNat % 2 ^ 32)
    let g := s.fgrAt (r + 1#5)
    let high := BitVec.ofNat 64 (g.toNat / 2 ^ 32 * 2 ^ 32 + x.toNat / 2 ^ 32)
    let fcsr : BitVec 32 := x.setWidth 32 &&& 0xFF83FFFF#32
    exec (.mfc1 rt r) s = .next (s.writeGpr rt ((f.setWidth 32).signExtend 64)).advance ∧
    exec (.mtc1 rt r) s = .next ((s.setFgr r low).setTag r .uninterpreted).advance ∧
    (s.fr = true → exec (.dmfc1 rt r) s = .next (s.writeGpr rt f).advance ∧
      exec (.dmtc1 rt r) s = .next ((s.setFgr r x).setTag r .uninterpreted).advance) ∧
    (s.fr = false → r.toNat % 2 = 0 →
      exec (.dmfc1 rt r) s = .next (s.writeGpr rt (g.setWidth 32 ++ f.setWidth 32)).advance ∧
      exec (.dmtc1 rt r) s = .next ((((s.setFgr r low).setTag r .uninterpreted).setFgr (r + 1#5) high).setTag
        (r + 1#5) .uninterpreted).advance) ∧
    (r = 0#5 → exec (.cfc1 rt r) s = .next (s.writeGpr rt (s.cfg.fir.signExtend 64)).advance) ∧
    (r = 31#5 → exec (.cfc1 rt r) s = .next (s.writeGpr rt (s.fcsr.signExtend 64)).advance ∧
      ((fcsr.extractLsb' 12 5 &&& fcsr.extractLsb' 7 5 = 0#5 ∧ fcsr.getLsbD 17 = false) →
        exec (.ctc1 rt r) s = .next { s with fcsr := fcsr, pc := s.pc + 4#64 }) ∧
      (¬ (fcsr.extractLsb' 12 5 &&& fcsr.extractLsb' 7 5 = 0#5 ∧ fcsr.getLsbD 17 = false) →
        exec (.ctc1 rt r) s = .next (takeException .fpe { s with fcsr := fcsr }))) ∧
    (r ≠ 31#5 → exec (.ctc1 rt r) s = .next (takeException .ri s)) ∧
    (r ≠ 0#5 → r ≠ 31#5 → exec (.cfc1 rt r) s = .next (takeException .ri s))

/-- A formatted read checks and sets the tag; a formatted write is read back. 10_state.md R33, R34, R35. -/
def Obligations.FormattedAccess : Prop :=
  ∀ (s : State) (i : FprNo) (fmt : Fmt) (v : Word), s.WideOk fmt [i] →
    let regs := if fmt.wide = true ∧ s.fr = false then [i, i + 1#5] else [i]
    let raw : Word :=
      if fmt.wide = false then ((s.fgrAt i).setWidth 32).setWidth 64
      else if s.fr then s.fgrAt i else (s.fgrAt (i + 1#5)).setWidth 32 ++ (s.fgrAt i).setWidth 32
    let t := s.retag i fmt
    ((∀ r ∈ regs, s.tagAt r = fmt.tag ∨ s.tagAt r = .uninterpreted) →
      s.fprValue i fmt = raw ∧ ∀ r ∈ regs, t.tagAt r = fmt.tag) ∧
    (¬ (∀ r ∈ regs, s.tagAt r = fmt.tag ∨ s.tagAt r = .uninterpreted) →
      s.fprValue i fmt = fmt.canonNaN ∧ (∀ r ∈ regs, t.tagAt r = .unknown) ∧
      ∀ fmt', t.WideOk fmt' [i] → t.fprValue i fmt' = fmt'.canonNaN) ∧
    t = { s with tag := t.tag } ∧ (∀ r, r ∉ regs → t.tagAt r = s.tagAt r) ∧
    (s.writeFpr i fmt v).fprValue i fmt = (if fmt.wide then v else BitVec.ofNat 64 (v.toNat % 2 ^ 32)) ∧
    (∀ r ∈ regs, (s.writeFpr i fmt v).tagAt r = fmt.tag) ∧
    (fmt.wide = false → ((s.writeFpr i fmt v).fgrAt i).toNat / 2 ^ 32 = (s.fgrAt i).toNat / 2 ^ 32)

/-- FPRaise records the flags and traps exactly when one is enabled. 44_fpu_unit.md R296. -/
def Obligations.FpRaise : Prop :=
  ∀ (s : State) (flags : FpExcs), let t := s.recordFlags flags
    (∀ k : Nat, t.fcsr.getLsbD k =
      if 12 ≤ k ∧ k < 17 then flags.getLsbD (k - 12)
      else if k = 17 then false
      else if 2 ≤ k ∧ k < 7 then s.fcsr.getLsbD k || flags.getLsbD (k - 2)
      else s.fcsr.getLsbD k) ∧
    t = { s with fcsr := t.fcsr } ∧
    (flags &&& s.fcsr.extractLsb' 7 5 = 0#5 → fpRaise s flags = .completes t) ∧
    (flags &&& s.fcsr.extractLsb' 7 5 ≠ 0#5 → fpRaise s flags = .raises .fpe t)

/-- FPU arithmetic reads its operands, records the flags and writes the result, or traps. 45_fpu_instructions.md R330,
R337, R340-R353; 44_fpu_unit.md R294, R296. -/
def Obligations.FpuArithmetic : Prop :=
  ∀ (fmt : ArithFmt) (fd fr fs ft : FprNo) (s : State), s.cu1 = true →
    let f := fmt.toFmt
    let rm := s.roundingMode
    let flush := s.fpFlush
    let a := s.fprValue fs f
    let s1 := s.retag fs f
    let b := s1.fprValue ft f
    let s2 := s1.retag ft f
    let c := s2.fprValue fr f
    let s3 := s2.retag fr f
    let finishes := fun (i : Instr) (res : BitVec 64 × FpExcs) (t : State) =>
      (res.2 &&& s.fpEnables = 0#5 → exec i s = .next ((t.recordFlags res.2).writeFpr fd f res.1).advance) ∧
      (res.2 &&& s.fpEnables ≠ 0#5 → exec i s = .next (takeException .fpe (t.recordFlags res.2)))
    (s.WideOk f [fd, fs] →
      (∀ p ∈ fpUnaryTable, finishes (p.1 fmt fd fs) (FpOp1.inFmt p.2 fmt rm flush a) s1) ∧
      exec (fmtForm Instr.movS Instr.movD Instr.movPs fmt fd fs) s = .next (s1.writeFpr fd f a).advance) ∧
    (s.WideOk f [fd, fs, ft] →
      ∀ p ∈ fpBinaryTable, finishes (p.1 fmt fd fs ft) (FpOp2.inFmt p.2 fmt rm flush a b) s2) ∧
    (s.WideOk f [fd, fr, fs, ft] →
      ∀ p ∈ fpTernaryTable, finishes (p.1 fmt fd fr fs ft) (FpOp3.inFmt p.2 fmt rm flush a b c) s3)

/-- The conversions read one format and write the other, or trap. 45_fpu_instructions.md R355-R370; 44_fpu_unit.md
R309-R311. -/
def Obligations.FpuConversions : Prop :=
  ∀ c ∈ fpConvertTable, ∀ (fd fs : FprNo) (s : State), s.cu1 = true →
    s.WideOk c.dst [fd] → s.WideOk c.src [fs] →
    let res := c.op s.roundingMode s.fpFlush (s.fprValue fs c.src)
    let t := (s.retag fs c.src).recordFlags res.2
    (res.2 &&& s.fpEnables = 0#5 → exec (c.instr fd fs) s = .next (t.writeFpr fd c.dst res.1).advance) ∧
    (res.2 &&& s.fpEnables ≠ 0#5 → exec (c.instr fd fs) s = .next (takeException .fpe t))

/-- The compares schedule their condition codes, or trap. 45_fpu_instructions.md R371; 44_fpu_unit.md R305. -/
def Obligations.FpuCompares : Prop :=
  ∀ p ∈ fpCompareTable, ∀ (cc : BitVec 3) (fs ft : FprNo) (s : State), s.cu1 = true →
    let entry := fun (k : BitVec 3) (v : Bool) =>
      ({ dest := .fcsr, value := if v then 1#64 else 0#64, remaining := 1,
         bit := some (BitVec.ofNat 5 (codeBit k.toNat)) } : Pending)
    let ends := fun (i : Instr) (t : State) (flags : FpExcs) (es : List Pending) =>
      (flags &&& s.fpEnables = 0#5 →
        exec i s = .next { t.recordFlags flags with pq := s.pq ++ es, pc := s.pc + 4#64 }) ∧
      (flags &&& s.fpEnables ≠ 0#5 → exec i s = .next (takeException .fpe (t.recordFlags flags)))
    (s.Room →
      let r := fpCompare .single p.2 (lowerHalf (s.fprValue fs .s)) (lowerHalf ((s.retag fs .s).fprValue ft .s))
      ends (p.1 .s cc fs ft) ((s.retag fs .s).retag ft .s) r.2 [entry cc r.1]) ∧
    (s.Room → s.WideOk .d [fs, ft] →
      let r := fpCompare .double p.2 (s.fprValue fs .d) ((s.retag fs .d).fprValue ft .d)
      ends (p.1 .d cc fs ft) ((s.retag fs .d).retag ft .d) r.2 [entry cc r.1]) ∧
    (s.pq.length + 2 ≤ s.cfg.pendingCapacity → s.WideOk .ps [fs, ft] → cc.toNat % 2 = 0 →
      let a := s.fprValue fs .ps
      let b := (s.retag fs .ps).fprValue ft .ps
      let l := fpCompare .single p.2 (lowerHalf a) (lowerHalf b)
      let u := fpCompare .single p.2 (upperHalf a) (upperHalf b)
      ends (p.1 .ps cc fs ft) ((s.retag fs .ps).retag ft .ps) (u.2 ||| l.2) [entry cc l.1, entry (cc + 1#3) u.1])

/-- The unit operations give the NaN, infinity and zero results of their rules and round the exact value once.
44_fpu_unit.md R289, R294, R297-R304, R306-R308. The rounding itself and the square root of a positive number are
stated in FpuUnitRounding. -/
def Obligations.FpuUnit : Prop :=
  ∀ (f : FpFmt) (rm : RoundingMode) (fs : Bool) (a b c : FpBits f),
    let sign := fpSign a ^^ fpSign b
    let invalid : FpResult f := (fpCanonNaN f, excV)
    let ofNaN := fun (signaling : Bool) => ((fpCanonNaN f, if signaling then excV else 0#5) : FpResult f)
    let magnitude := a.toNat % 2 ^ (f.width - 1)
    (fpIsNaN a = true ∨ fpIsNaN b = true →
      ∀ op ∈ ([fpAdd, fpSub, fpMul, fpDiv, fpRecip2, fpRsqrt2] : List FpOp2),
        op f rm fs a b = ofNaN (fpIsSNaN a || fpIsSNaN b)) ∧
    (fpIsNaN a = true → ∀ op ∈ ([fpSqrt, fpRecip, fpAbs, fpNeg] : List FpOp1), op f rm fs a = ofNaN (fpIsSNaN a)) ∧
    (fpIsNaN a = true ∨ fpIsNaN b = true ∨ fpIsNaN c = true →
      ∀ op ∈ ([fpMadd, fpMsub, fpNmadd, fpNmsub] : List FpOp3), (op f rm fs a b c).1 = fpCanonNaN f) ∧
    (fpIsNaN a = false → fpIsNaN b = false →
      fpAdd f rm fs a b =
        (if fpIsInf a ∧ fpIsInf b then (if fpSign a = fpSign b then (a, 0#5) else invalid)
        else if fpIsInf a then (a, 0#5) else if fpIsInf b then (b, 0#5)
        else if fpVal a + fpVal b ≠ 0 then fpRound f rm fs (fpVal a + fpVal b)
        else if fpIsZero a ∧ fpSign a = fpSign b then (a, 0#5) else (fpZero f (rm == .towardMinus), 0#5)) ∧
      fpSub f rm fs a b =
        (if fpIsInf a ∧ fpIsInf b then (if fpSign a = fpSign b then invalid else (a, 0#5))
        else if fpIsInf a then (a, 0#5) else if fpIsInf b then (fpInf f (!fpSign b), 0#5)
        else if fpVal a - fpVal b ≠ 0 then fpRound f rm fs (fpVal a - fpVal b)
        else if fpIsZero a ∧ fpSign a ≠ fpSign b then (a, 0#5) else (fpZero f (rm == .towardMinus), 0#5)) ∧
      fpMul f rm fs a b =
        (if fpIsInf a ∨ fpIsInf b then (if fpIsZero a ∨ fpIsZero b then invalid else (fpInf f sign, 0#5))
        else if fpVal a * fpVal b = 0 then (fpZero f sign, 0#5) else fpRound f rm fs (fpVal a * fpVal b)) ∧
      fpDiv f rm fs a b =
        (if fpIsInf a then (if fpIsInf b then invalid else (fpInf f sign, 0#5))
        else if fpIsInf b then (fpZero f sign, 0#5)
        else if fpVal b = 0 then (if fpVal a = 0 then invalid else (fpInf f sign, excZ))
        else if fpVal a = 0 then (fpZero f sign, 0#5) else fpRound f rm fs (fpVal a / fpVal b))) ∧
    (fpIsNaN a = false →
      fpRecip f rm fs a =
        (if fpIsInf a then (fpZero f (fpSign a), 0#5) else if fpVal a = 0 then (fpInf f (fpSign a), excZ)
        else fpRound f rm fs (1 / fpVal a)) ∧
      (fpIsZero a = true → fpSqrt f rm fs a = (a, 0#5)) ∧
      (fpIsZero a = false → fpSign a = true → fpSqrt f rm fs a = invalid) ∧
      (fpIsInf a = true → fpSign a = false → fpSqrt f rm fs a = (a, 0#5)) ∧
      fpAbs f rm fs a = (fpPattern f false magnitude, 0#5) ∧
      fpNeg f rm fs a = (fpPattern f (!fpSign a) magnitude, 0#5)) ∧
    (let p := fpMul f rm fs a b
      let one : FpBits f := match f with
        | .single => 0x3F800000#32
        | .double => 0x3FF0000000000000#64
      let half : FpBits f := match f with
        | .single => 0x3F000000#32
        | .double => 0x3FE0000000000000#64
      let halved := if fpIsNaN a ∨ fpIsNaN b ∨ fpIsInf a ∨ fpIsInf b ∨ fpVal a * fpVal b = 0 then p
        else fpRound f rm fs (fpVal a * fpVal b / 2)
      let negated := fun (flags : FpExcs) (t : FpResult f) => (((fpNeg f rm fs t.1).1, flags ||| t.2) : FpResult f)
      fpMadd f rm fs a b c = ((fpAdd f rm fs p.1 c).1, p.2 ||| (fpAdd f rm fs p.1 c).2) ∧
      fpMsub f rm fs a b c = ((fpSub f rm fs p.1 c).1, p.2 ||| (fpSub f rm fs p.1 c).2) ∧
      fpNmadd f rm fs a b c = negated p.2 (fpAdd f rm fs p.1 c) ∧
      fpNmsub f rm fs a b c = negated p.2 (fpSub f rm fs p.1 c) ∧
      fpRecip2 f rm fs a b = negated p.2 (fpSub f rm fs p.1 one) ∧
      fpRsqrt2 f rm fs a b = negated halved.2 (fpSub f rm fs halved.1 half)) ∧
    (∀ (op1 : FpOp1) (op2 : FpOp2) (op3 : FpOp3) (x y z : BitVec 64),
      let hi := fun (v : BitVec 64) => v.extractLsb' 32 32
      let lo := fun (v : BitVec 64) => v.extractLsb' 0 32
      let low := fun (r : FpResult .single) => ((r.1.setWidth 64, r.2) : BitVec 64 × FpExcs)
      let both := fun (u l : FpResult .single) => ((u.1 ++ l.1, u.2 ||| l.2) : BitVec 64 × FpExcs)
      let s1 := fun (k : BitVec 64 → BitVec 32) => op1 .single rm fs (k x)
      let s2 := fun (k : BitVec 64 → BitVec 32) => op2 .single rm fs (k x) (k y)
      let s3 := fun (k : BitVec 64 → BitVec 32) => op3 .single rm fs (k x) (k y) (k z)
      op1.inFmt .s rm fs x = low (s1 lo) ∧ op1.inFmt .d rm fs x = op1 .double rm fs x ∧
      op1.inFmt .ps rm fs x = both (s1 hi) (s1 lo) ∧
      op2.inFmt .s rm fs x y = low (s2 lo) ∧ op2.inFmt .d rm fs x y = op2 .double rm fs x y ∧
      op2.inFmt .ps rm fs x y = both (s2 hi) (s2 lo) ∧
      op3.inFmt .s rm fs x y z = low (s3 lo) ∧ op3.inFmt .d rm fs x y z = op3 .double rm fs x y z ∧
      op3.inFmt .ps rm fs x y z = both (s3 hi) (s3 lo))

/-- Rounding and the square root give the neighbour of the exact value that the mode names, with its flags.
44_fpu_unit.md R284-R287, R292, R301. -/
def Obligations.FpuUnitRounding : Prop :=
  ∀ (f : FpFmt) (rm : RoundingMode) (fs : Bool),
    (∀ r : Rat, r ≠ 0 →
      let a := if r < 0 then -r else r
      let negative := decide (r < 0)
      let res := fpRound f rm fs r
      ∃ e n : Int, pow2 e ≤ a ∧ a < pow2 (e + 1) ∧
        let q := pow2 (max e f.emin - f.prec + 1)
        let y := (n.natAbs : Rat) * q
        let infinite := rm = .nearestEven ∨ (rm = .towardPlus ∧ 0 < r) ∨ (rm = .towardMinus ∧ r < 0)
        let flushed := fs = true ∧ 0 < y ∧ y < pow2 f.emin
        roundsTo rm (r / q) n ∧
        (pow2 (f.emax + 1) ≤ y →
          res = (if infinite then fpInf f negative else fpMaxFin f negative, excO ||| excI)) ∧
        (y < pow2 (f.emax + 1) → flushed → res = (fpZero f negative, excU ||| excI)) ∧
        (y < pow2 (f.emax + 1) → ¬ flushed →
          fpExp res.1 ≠ f.expMax ∧ fpSign res.1 = negative ∧ fpVal res.1 = n * q ∧
          res.2 = (if n * q = r then 0#5 else if a < pow2 f.emin then excU ||| excI else excI))) ∧
    (∀ x : FpBits f, fpExp x ≠ f.expMax → fpSign x = false → fpIsZero x = false →
      let y := (fpSqrt f rm fs x).1
      let above := fpVal (y + BitVec.ofNat f.width 1)
      let below := fpVal (y - BitVec.ofNat f.width 1)
      fpSign y = false ∧ 1 ≤ fpExp y ∧ fpExp y + 1 < f.expMax ∧
      (fpSqrt f rm fs x).2 = (if fpVal y * fpVal y = fpVal x then 0#5 else excI) ∧
      (match rm with
        | .nearestEven => ((below + fpVal y) / 2) * ((below + fpVal y) / 2) ≤ fpVal x ∧
            fpVal x ≤ ((fpVal y + above) / 2) * ((fpVal y + above) / 2)
        | .towardZero => fpVal y * fpVal y ≤ fpVal x ∧ fpVal x < above * above
        | .towardPlus => below * below < fpVal x ∧ fpVal x ≤ fpVal y * fpVal y
        | .towardMinus => fpVal y * fpVal y ≤ fpVal x ∧ fpVal x < above * above))

/-- The unit conversions clamp, round and keep values as their rules say. 44_fpu_unit.md R289, R309-R311. -/
def Obligations.FpuUnitConversions : Prop :=
  (∀ (f : FpFmt) (n : Nat) (rm : RoundingMode) (a : FpBits f), n ∈ [32, 64] →
      let largest : Int := 2 ^ (n - 1) - 1
      let least : Int := -2 ^ (n - 1)
      (fpIsNaN a = true → fpToInt f n rm a = (BitVec.ofInt n largest, excV)) ∧
      (fpIsInf a = true → fpToInt f n rm a = (BitVec.ofInt n (if fpSign a then least else largest), excV)) ∧
      (fpExp a ≠ f.expMax → ∃ i : Int, roundsTo rm (fpVal a) i ∧
        (largest < i → fpToInt f n rm a = (BitVec.ofInt n largest, excV)) ∧
        (i < least → fpToInt f n rm a = (BitVec.ofInt n least, excV)) ∧
        (least ≤ i → i ≤ largest → (fpToInt f n rm a).1.toInt = i ∧
          (fpToInt f n rm a).2 = if (i : Rat) = fpVal a then 0#5 else excI))) ∧
    (∀ (f : FpFmt) (rm : RoundingMode) (fs : Bool) (i : Int),
      let r := fpOfInt f rm fs i
      (i = 0 → r = (fpZero f false, 0#5)) ∧ (i ≠ 0 → r = fpRound f rm fs i) ∧
      (i.natAbs ≤ 2 ^ f.prec → fpExp r.1 ≠ f.expMax ∧ fpVal r.1 = i ∧ r.2 = 0#5)) ∧
    (∀ (fs : Bool) (i : Int), -2 ^ 23 ≤ i → i ≤ 2 ^ 23 →
      let r := fpOfInt .single .towardZero fs i
      r.2 = 0#5 ∧ fpToInt .single 32 .towardZero r.1 = (BitVec.ofInt 32 i, 0#5)) ∧
    (∀ a : FpBits .single,
      let r := fpSingleToDouble a
      (fpIsNaN a = true → r = (fpCanonNaN .double, if fpIsSNaN a then excV else 0#5)) ∧
      (fpIsInf a = true → r = (fpInf .double (fpSign a), 0#5)) ∧
      (fpIsZero a = true → r = (fpZero .double (fpSign a), 0#5)) ∧
      (fpExp a ≠ FpFmt.single.expMax → fpIsZero a = false →
        r.2 = 0#5 ∧ fpExp r.1 ≠ 0 ∧ fpExp r.1 ≠ FpFmt.double.expMax ∧ fpVal r.1 = fpVal a)) ∧
    (∀ (rm : RoundingMode) (fs : Bool) (a : FpBits .double),
      let r := fpDoubleToSingle rm fs a
      (fpIsNaN a = true → r = (fpCanonNaN .single, if fpIsSNaN a then excV else 0#5)) ∧
      (fpIsInf a = true → r = (fpInf .single (fpSign a), 0#5)) ∧
      (fpIsZero a = true → r = (fpZero .single (fpSign a), 0#5)) ∧
      (fpExp a ≠ FpFmt.double.expMax → fpIsZero a = false → r = fpRound .single rm fs (fpVal a)))

/-- Every two floating-point values stand in exactly one relation, that of their values. 44_fpu_unit.md R305. -/
def Obligations.CompareTotal : Prop :=
  ∀ (f : FpFmt) (a b : FpBits f) (cond : BitVec 4),
    let un := (fpCompare f 1#4 a b).1
    let eq := (fpCompare f 2#4 a b).1
    let lt := (fpCompare f 4#4 a b).1
    let gt := (fpCompare f 4#4 b a).1
    (un.toNat + eq.toNat + lt.toNat + gt.toNat = 1) ∧ un = (fpIsNaN a || fpIsNaN b) ∧
    (fpIsNaN a = false → fpIsNaN b = false →
      (fpIsInf a = false → fpIsInf b = false → (lt = true ↔ fpVal a < fpVal b) ∧ (eq = true ↔ fpVal a = fpVal b)) ∧
      (fpIsInf a = true ∨ fpIsInf b = true →
        (lt = true ↔ a ≠ b ∧ (a = fpInf f true ∨ b = fpInf f false)) ∧ (eq = true ↔ a = b))) ∧
    (fpCompare f cond a b).1 = ((cond.getLsbD 0 && un) || (cond.getLsbD 1 && eq) || (cond.getLsbD 2 && lt)) ∧
    (fpCompare f cond a b).2 =
      (if fpIsSNaN a ∨ fpIsSNaN b ∨ (un = true ∧ cond.getLsbD 3 = true) then excV else 0#5)

/-- Rounding a value the format represents gives that pattern and no flag. 44_fpu_unit.md R281, R284, R286, R287,
R292. -/
def Obligations.RoundRepresentable : Prop :=
  ∀ (f : FpFmt) (rm : RoundingMode) (b : FpBits f), fpExp b ≠ f.expMax → fpIsZero b = false →
    fpRound f rm false (fpVal b) = (b, 0#5) ∧
    (fpExp b ≠ 0 → fpRound f rm true (fpVal b) = (b, 0#5)) ∧
    (fpExp b = 0 → fpRound f rm true (fpVal b) = (fpZero f (fpSign b), excU ||| excI))

/-- The MDMX lane operations compute every lane from its two operand lanes. 46_mdmx_lane_ops.md R401-R418. -/
def Obligations.MdmxLanes : Prop :=
  (∀ p ∈ obLaneTable, ∀ (vd vs : FprNo) (o : ObOperand) (s : State), s.cu1 = true → s.fr = true →
      ∃ v, exec (p.1 vd vs o) s = .next (s.vectorWritten vd v) ∧
        ∀ k : Fin 8, laneOb v k = p.2 (laneOb (s.fgrAt vs) k) (o.lane s k)) ∧
    (∀ p ∈ qhLaneTable, ∀ (vd vs : FprNo) (o : QhOperand) (s : State), s.cu1 = true → s.fr = true →
      ∃ v, exec (p.1 vd vs o) s = .next (s.vectorWritten vd v) ∧
        ∀ k : Fin 4, laneQh v k = p.2 (laneQh (s.fgrAt vs) k) (o.lane s k))

/-- The MDMX compares set one condition code per lane at once. 46_mdmx_lane_ops.md R430-R432. -/
def Obligations.MdmxCompares : Prop :=
  (∀ p ∈ obCompareTable, ∀ (vs : FprNo) (o : ObOperand) (s : State), s.cu1 = true → s.fr = true →
      ∃ f, exec (p.1 vs o) s = .next { s with fcsr := f, pc := s.pc + 4#64 } ∧
        (∀ k : Fin 8, f.getLsbD (codeBit k.val) = p.2 (laneOb (s.fgrAt vs) k) (o.lane s k)) ∧
        ∀ b : Nat, (∀ k : Fin 8, b ≠ codeBit k.val) → f.getLsbD b = s.fcsr.getLsbD b) ∧
    (∀ p ∈ qhCompareTable, ∀ (vs : FprNo) (o : QhOperand) (s : State), s.cu1 = true → s.fr = true →
      ∃ f, exec (p.1 vs o) s = .next { s with fcsr := f, pc := s.pc + 4#64 } ∧
        (∀ k : Fin 4, f.getLsbD (codeBit k.val) = p.2 (laneQh (s.fgrAt vs) k) (o.lane s k)) ∧
        ∀ b : Nat, (∀ k : Fin 4, b ≠ codeBit k.val) → f.getLsbD b = s.fcsr.getLsbD b)

/-- The picks select lanes by condition code; the shuffles permute lanes by their tables. 46_mdmx_lane_ops.md
R433-R443. -/
def Obligations.MdmxPicksAndShuffles : Prop :=
  (∀ p ∈ obPickTable, ∀ (vd vs : FprNo) (o : ObOperand) (s : State), s.cu1 = true → s.fr = true →
      ∃ v, exec (p.1 vd vs o) s = .next (s.vectorWritten vd v) ∧ ∀ k : Fin 8,
        laneOb v k = if s.fcsr.getLsbD (codeBit k.val) = p.2 then laneOb (s.fgrAt vs) k else o.lane s k) ∧
    (∀ p ∈ qhPickTable, ∀ (vd vs : FprNo) (o : QhOperand) (s : State), s.cu1 = true → s.fr = true →
      ∃ v, exec (p.1 vd vs o) s = .next (s.vectorWritten vd v) ∧ ∀ k : Fin 4,
        laneQh v k = if s.fcsr.getLsbD (codeBit k.val) = p.2 then laneQh (s.fgrAt vs) k else o.lane s k) ∧
    (∀ p ∈ obShuffleTable, ∀ (vd vs vt : FprNo) (s : State), s.cu1 = true → s.fr = true →
      ∃ v, exec (p.1 vd vs vt) s = .next (s.vectorWritten vd v) ∧ ∀ k : Fin 8,
        (p.2 (laneOb (s.fgrAt vs)) (laneOb (s.fgrAt vt)))[k.val]? = some (laneOb v k)) ∧
    (∀ p ∈ qhShuffleTable, ∀ (vd vs vt : FprNo) (s : State), s.cu1 = true → s.fr = true →
      ∃ v, exec (p.1 vd vs vt) s = .next (s.vectorWritten vd v) ∧ ∀ k : Fin 4,
        (p.2 (laneQh (s.fgrAt vs)) (laneQh (s.fgrAt vt)))[k.val]? = some (laneQh v k))

/-- The accumulator instructions compute, write and read every lane as the spec says. 47_mdmx_accumulator.md
R450-R464. -/
def Obligations.MdmxAccumulators : Prop :=
  ∀ (s : State), s.cu1 = true → s.fr = true →
    let writesOb := fun (i : Instr) (f : Fin 8 → BitVec 24) => ∃ r : Vector (BitVec 24) 8,
      exec i s = .next { s with accOb := r, pc := s.pc + 4#64 } ∧ ∀ k, r.get k = f k
    let writesQh := fun (i : Instr) (f : Fin 4 → BitVec 48) => ∃ r : Vector (BitVec 48) 4,
      exec i s = .next { s with accQh := r, pc := s.pc + 4#64 } ∧ ∀ k, r.get k = f k
    let readsOb := fun (i : Instr) (vd : FprNo) (lo : Nat) => ∃ v, exec i s = .next (s.vectorWritten vd v) ∧
      ∀ k : Fin 8, (laneOb v k).toNat = (s.accOb.get k).toNat / 2 ^ lo % 2 ^ 8
    let readsQh := fun (i : Instr) (vd : FprNo) (lo : Nat) => ∃ v, exec i s = .next (s.vectorWritten vd v) ∧
      ∀ k : Fin 4, (laneQh v k).toNat = (s.accQh.get k).toNat / 2 ^ lo % 2 ^ 16
    (∀ p ∈ obAccTable, ∀ (vs : FprNo) (o : ObOperand), writesOb (p.1 vs o) fun k =>
      p.2 (s.accOb.get k) ((laneOb (s.fgrAt vs) k).setWidth 24) ((o.lane s k).setWidth 24)) ∧
    (∀ p ∈ qhAccTable, ∀ (vs : FprNo) (o : QhOperand), writesQh (p.1 vs o) fun k =>
      p.2 (s.accQh.get k) ((laneQh (s.fgrAt vs) k).signExtend 48) ((o.lane s k).signExtend 48)) ∧
    ∀ vd vs vt : FprNo,
      writesOb (.waclOb vs vt) (fun k => BitVec.ofInt 24
        ((laneOb (s.fgrAt vs) k).toInt * 256 + (laneOb (s.fgrAt vt) k).toNat)) ∧
      writesQh (.waclQh vs vt) (fun k => BitVec.ofInt 48
        ((laneQh (s.fgrAt vs) k).toInt * 65536 + (laneQh (s.fgrAt vt) k).toNat)) ∧
      writesOb (.wachOb vs) (fun k => BitVec.ofNat 24
        ((laneOb (s.fgrAt vs) k).toNat * 2 ^ 16 + (s.accOb.get k).toNat % 2 ^ 16)) ∧
      writesQh (.wachQh vs) (fun k => BitVec.ofNat 48
        ((laneQh (s.fgrAt vs) k).toNat * 2 ^ 32 + (s.accQh.get k).toNat % 2 ^ 32)) ∧
      readsOb (.raclOb vd) vd 0 ∧ readsOb (.racmOb vd) vd 8 ∧ readsOb (.rachOb vd) vd 16 ∧
      readsQh (.raclQh vd) vd 0 ∧ readsQh (.racmQh vd) vd 16 ∧ readsQh (.rachQh vd) vd 32

/-- The rounding reductions round the scaled accumulator and clamp it. 47_mdmx_accumulator.md R465-R472. For a
negative shift the lane is a free value (log 7), whatever it is. -/
def Obligations.MdmxReductions : Prop :=
  (∀ p ∈ obReduceTable, ∀ (vd : FprNo) (o : ObOperand) (s : State), s.cu1 = true → s.fr = true →
      ∃ v, exec (p.1 vd o) s = .next (s.vectorWritten vd v) ∧ ∀ k : Fin 8, laneOb v k =
        BitVec.ofInt 8 (max 0 (min 255 (roundedQuotient p.2 (s.accOb.get k).toInt (o.lane s k).toNat)))) ∧
    (∀ p ∈ qhReduceTable, ∀ (vd : FprNo) (o : QhOperand) (s : State), s.cu1 = true → s.fr = true →
      ∃ v, exec (p.1 vd o) s = .next (s.vectorWritten vd v) ∧ ∀ k : Fin 4, laneQh v k =
        if (o.lane s k).toInt < 0 then Config.unpredictable16 (s.accQh.get k) (o.lane s k) p.2
        else reducedQh p.2 (s.accQh.get k).toInt (o.lane s k).toNat)
end

