-- ==== Sys2Proof/Laws/State.lean ====
section
/-! SUPPORT. What each named update of the state leaves and writes: one lemma per field and update, so that no proof
unfolds a record update. -/

namespace Sys2Proof.Machine

/-! ### `setPc` -/

@[simp] theorem setPc_cfg (s : State) (target : Word) : (s.setPc target).cfg = s.cfg := rfl
@[simp] theorem setPc_gpr (s : State) (target : Word) : (s.setPc target).gpr = s.gpr := rfl
@[simp] theorem setPc_pc (s : State) (target : Word) : (s.setPc target).pc = target := rfl
@[simp] theorem setPc_isaMode (s : State) (target : Word) : (s.setPc target).isaMode = s.isaMode := rfl
@[simp] theorem setPc_fgr (s : State) (target : Word) : (s.setPc target).fgr = s.fgr := rfl
@[simp] theorem setPc_tag (s : State) (target : Word) : (s.setPc target).tag = s.tag := rfl
@[simp] theorem setPc_fcsr (s : State) (target : Word) : (s.setPc target).fcsr = s.fcsr := rfl
@[simp] theorem setPc_status (s : State) (target : Word) : (s.setPc target).status = s.status := rfl
@[simp] theorem setPc_excCode (s : State) (target : Word) : (s.setPc target).excCode = s.excCode := rfl
@[simp] theorem setPc_ce (s : State) (target : Word) : (s.setPc target).ce = s.ce := rfl
@[simp] theorem setPc_epc (s : State) (target : Word) : (s.setPc target).epc = s.epc := rfl
@[simp] theorem setPc_badVAddr (s : State) (target : Word) : (s.setPc target).badVAddr = s.badVAddr := rfl
@[simp] theorem setPc_configBE (s : State) (target : Word) : (s.setPc target).configBE = s.configBE := rfl
@[simp] theorem setPc_accOb (s : State) (target : Word) : (s.setPc target).accOb = s.accOb := rfl
@[simp] theorem setPc_accQh (s : State) (target : Word) : (s.setPc target).accQh = s.accQh := rfl
@[simp] theorem setPc_mem (s : State) (target : Word) : (s.setPc target).mem = s.mem := rfl
@[simp] theorem setPc_llBit (s : State) (target : Word) : (s.setPc target).llBit = s.llBit := rfl
@[simp] theorem setPc_llAddr (s : State) (target : Word) : (s.setPc target).llAddr = s.llAddr := rfl
@[simp] theorem setPc_pq (s : State) (target : Word) : (s.setPc target).pq = s.pq := rfl
@[simp] theorem setPc_run (s : State) (target : Word) : (s.setPc target).run = s.run := rfl
@[simp] theorem setPc_pins (s : State) (target : Word) : (s.setPc target).pins = s.pins := rfl
@[simp] theorem setPc_pinQueue (s : State) (target : Word) : (s.setPc target).pinQueue = s.pinQueue := rfl

/-! ### `advance` -/

@[simp] theorem advance_cfg (s : State) : s.advance.cfg = s.cfg := rfl
@[simp] theorem advance_gpr (s : State) : s.advance.gpr = s.gpr := rfl
@[simp] theorem advance_pc (s : State) : s.advance.pc = s.nextPc := rfl
@[simp] theorem advance_isaMode (s : State) : s.advance.isaMode = s.isaMode := rfl
@[simp] theorem advance_fgr (s : State) : s.advance.fgr = s.fgr := rfl
@[simp] theorem advance_tag (s : State) : s.advance.tag = s.tag := rfl
@[simp] theorem advance_fcsr (s : State) : s.advance.fcsr = s.fcsr := rfl
@[simp] theorem advance_status (s : State) : s.advance.status = s.status := rfl
@[simp] theorem advance_excCode (s : State) : s.advance.excCode = s.excCode := rfl
@[simp] theorem advance_ce (s : State) : s.advance.ce = s.ce := rfl
@[simp] theorem advance_epc (s : State) : s.advance.epc = s.epc := rfl
@[simp] theorem advance_badVAddr (s : State) : s.advance.badVAddr = s.badVAddr := rfl
@[simp] theorem advance_configBE (s : State) : s.advance.configBE = s.configBE := rfl
@[simp] theorem advance_accOb (s : State) : s.advance.accOb = s.accOb := rfl
@[simp] theorem advance_accQh (s : State) : s.advance.accQh = s.accQh := rfl
@[simp] theorem advance_mem (s : State) : s.advance.mem = s.mem := rfl
@[simp] theorem advance_llBit (s : State) : s.advance.llBit = s.llBit := rfl
@[simp] theorem advance_llAddr (s : State) : s.advance.llAddr = s.llAddr := rfl
@[simp] theorem advance_pq (s : State) : s.advance.pq = s.pq := rfl
@[simp] theorem advance_run (s : State) : s.advance.run = s.run := rfl
@[simp] theorem advance_pins (s : State) : s.advance.pins = s.pins := rfl
@[simp] theorem advance_pinQueue (s : State) : s.advance.pinQueue = s.pinQueue := rfl

/-! ### `setFgr` -/

@[simp] theorem setFgr_cfg (s : State) (i : FprNo) (v : Word) : (s.setFgr i v).cfg = s.cfg := rfl
@[simp] theorem setFgr_gpr (s : State) (i : FprNo) (v : Word) : (s.setFgr i v).gpr = s.gpr := rfl
@[simp] theorem setFgr_pc (s : State) (i : FprNo) (v : Word) : (s.setFgr i v).pc = s.pc := rfl
@[simp] theorem setFgr_isaMode (s : State) (i : FprNo) (v : Word) : (s.setFgr i v).isaMode = s.isaMode := rfl
@[simp] theorem setFgr_tag (s : State) (i : FprNo) (v : Word) : (s.setFgr i v).tag = s.tag := rfl
@[simp] theorem setFgr_fcsr (s : State) (i : FprNo) (v : Word) : (s.setFgr i v).fcsr = s.fcsr := rfl
@[simp] theorem setFgr_status (s : State) (i : FprNo) (v : Word) : (s.setFgr i v).status = s.status := rfl
@[simp] theorem setFgr_excCode (s : State) (i : FprNo) (v : Word) : (s.setFgr i v).excCode = s.excCode := rfl
@[simp] theorem setFgr_ce (s : State) (i : FprNo) (v : Word) : (s.setFgr i v).ce = s.ce := rfl
@[simp] theorem setFgr_epc (s : State) (i : FprNo) (v : Word) : (s.setFgr i v).epc = s.epc := rfl
@[simp] theorem setFgr_badVAddr (s : State) (i : FprNo) (v : Word) : (s.setFgr i v).badVAddr = s.badVAddr := rfl
@[simp] theorem setFgr_configBE (s : State) (i : FprNo) (v : Word) : (s.setFgr i v).configBE = s.configBE := rfl
@[simp] theorem setFgr_accOb (s : State) (i : FprNo) (v : Word) : (s.setFgr i v).accOb = s.accOb := rfl
@[simp] theorem setFgr_accQh (s : State) (i : FprNo) (v : Word) : (s.setFgr i v).accQh = s.accQh := rfl
@[simp] theorem setFgr_mem (s : State) (i : FprNo) (v : Word) : (s.setFgr i v).mem = s.mem := rfl
@[simp] theorem setFgr_llBit (s : State) (i : FprNo) (v : Word) : (s.setFgr i v).llBit = s.llBit := rfl
@[simp] theorem setFgr_llAddr (s : State) (i : FprNo) (v : Word) : (s.setFgr i v).llAddr = s.llAddr := rfl
@[simp] theorem setFgr_pq (s : State) (i : FprNo) (v : Word) : (s.setFgr i v).pq = s.pq := rfl
@[simp] theorem setFgr_run (s : State) (i : FprNo) (v : Word) : (s.setFgr i v).run = s.run := rfl
@[simp] theorem setFgr_pins (s : State) (i : FprNo) (v : Word) : (s.setFgr i v).pins = s.pins := rfl
@[simp] theorem setFgr_pinQueue (s : State) (i : FprNo) (v : Word) : (s.setFgr i v).pinQueue = s.pinQueue := rfl

/-! ### `setTag` -/

@[simp] theorem setTag_cfg (s : State) (i : FprNo) (t : FmtTag) : (s.setTag i t).cfg = s.cfg := rfl
@[simp] theorem setTag_gpr (s : State) (i : FprNo) (t : FmtTag) : (s.setTag i t).gpr = s.gpr := rfl
@[simp] theorem setTag_pc (s : State) (i : FprNo) (t : FmtTag) : (s.setTag i t).pc = s.pc := rfl
@[simp] theorem setTag_isaMode (s : State) (i : FprNo) (t : FmtTag) : (s.setTag i t).isaMode = s.isaMode := rfl
@[simp] theorem setTag_fgr (s : State) (i : FprNo) (t : FmtTag) : (s.setTag i t).fgr = s.fgr := rfl
@[simp] theorem setTag_fcsr (s : State) (i : FprNo) (t : FmtTag) : (s.setTag i t).fcsr = s.fcsr := rfl
@[simp] theorem setTag_status (s : State) (i : FprNo) (t : FmtTag) : (s.setTag i t).status = s.status := rfl
@[simp] theorem setTag_excCode (s : State) (i : FprNo) (t : FmtTag) : (s.setTag i t).excCode = s.excCode := rfl
@[simp] theorem setTag_ce (s : State) (i : FprNo) (t : FmtTag) : (s.setTag i t).ce = s.ce := rfl
@[simp] theorem setTag_epc (s : State) (i : FprNo) (t : FmtTag) : (s.setTag i t).epc = s.epc := rfl
@[simp] theorem setTag_badVAddr (s : State) (i : FprNo) (t : FmtTag) : (s.setTag i t).badVAddr = s.badVAddr := rfl
@[simp] theorem setTag_configBE (s : State) (i : FprNo) (t : FmtTag) : (s.setTag i t).configBE = s.configBE := rfl
@[simp] theorem setTag_accOb (s : State) (i : FprNo) (t : FmtTag) : (s.setTag i t).accOb = s.accOb := rfl
@[simp] theorem setTag_accQh (s : State) (i : FprNo) (t : FmtTag) : (s.setTag i t).accQh = s.accQh := rfl
@[simp] theorem setTag_mem (s : State) (i : FprNo) (t : FmtTag) : (s.setTag i t).mem = s.mem := rfl
@[simp] theorem setTag_llBit (s : State) (i : FprNo) (t : FmtTag) : (s.setTag i t).llBit = s.llBit := rfl
@[simp] theorem setTag_llAddr (s : State) (i : FprNo) (t : FmtTag) : (s.setTag i t).llAddr = s.llAddr := rfl
@[simp] theorem setTag_pq (s : State) (i : FprNo) (t : FmtTag) : (s.setTag i t).pq = s.pq := rfl
@[simp] theorem setTag_run (s : State) (i : FprNo) (t : FmtTag) : (s.setTag i t).run = s.run := rfl
@[simp] theorem setTag_pins (s : State) (i : FprNo) (t : FmtTag) : (s.setTag i t).pins = s.pins := rfl
@[simp] theorem setTag_pinQueue (s : State) (i : FprNo) (t : FmtTag) : (s.setTag i t).pinQueue = s.pinQueue := rfl

/-! ### `put32` -/

@[simp] theorem put32_cfg (s : State) (i : FprNo) (v : BitVec 32) (t : FmtTag) : (s.put32 i v t).cfg = s.cfg := rfl
@[simp] theorem put32_gpr (s : State) (i : FprNo) (v : BitVec 32) (t : FmtTag) : (s.put32 i v t).gpr = s.gpr := rfl
@[simp] theorem put32_pc (s : State) (i : FprNo) (v : BitVec 32) (t : FmtTag) : (s.put32 i v t).pc = s.pc := rfl
@[simp] theorem put32_isaMode (s : State) (i : FprNo) (v : BitVec 32) (t : FmtTag) :
    (s.put32 i v t).isaMode = s.isaMode :=
  rfl
@[simp] theorem put32_fcsr (s : State) (i : FprNo) (v : BitVec 32) (t : FmtTag) : (s.put32 i v t).fcsr = s.fcsr := rfl
@[simp] theorem put32_status (s : State) (i : FprNo) (v : BitVec 32) (t : FmtTag) :
    (s.put32 i v t).status = s.status :=
  rfl
@[simp] theorem put32_excCode (s : State) (i : FprNo) (v : BitVec 32) (t : FmtTag) :
    (s.put32 i v t).excCode = s.excCode :=
  rfl
@[simp] theorem put32_ce (s : State) (i : FprNo) (v : BitVec 32) (t : FmtTag) : (s.put32 i v t).ce = s.ce := rfl
@[simp] theorem put32_epc (s : State) (i : FprNo) (v : BitVec 32) (t : FmtTag) : (s.put32 i v t).epc = s.epc := rfl
@[simp] theorem put32_badVAddr (s : State) (i : FprNo) (v : BitVec 32) (t : FmtTag) :
    (s.put32 i v t).badVAddr = s.badVAddr :=
  rfl
@[simp] theorem put32_configBE (s : State) (i : FprNo) (v : BitVec 32) (t : FmtTag) :
    (s.put32 i v t).configBE = s.configBE :=
  rfl
@[simp] theorem put32_accOb (s : State) (i : FprNo) (v : BitVec 32) (t : FmtTag) : (s.put32 i v t).accOb = s.accOb :=
  rfl
@[simp] theorem put32_accQh (s : State) (i : FprNo) (v : BitVec 32) (t : FmtTag) : (s.put32 i v t).accQh = s.accQh :=
  rfl
@[simp] theorem put32_mem (s : State) (i : FprNo) (v : BitVec 32) (t : FmtTag) : (s.put32 i v t).mem = s.mem := rfl
@[simp] theorem put32_llBit (s : State) (i : FprNo) (v : BitVec 32) (t : FmtTag) : (s.put32 i v t).llBit = s.llBit :=
  rfl
@[simp] theorem put32_llAddr (s : State) (i : FprNo) (v : BitVec 32) (t : FmtTag) :
    (s.put32 i v t).llAddr = s.llAddr :=
  rfl
@[simp] theorem put32_pq (s : State) (i : FprNo) (v : BitVec 32) (t : FmtTag) : (s.put32 i v t).pq = s.pq := rfl
@[simp] theorem put32_run (s : State) (i : FprNo) (v : BitVec 32) (t : FmtTag) : (s.put32 i v t).run = s.run := rfl
@[simp] theorem put32_pins (s : State) (i : FprNo) (v : BitVec 32) (t : FmtTag) : (s.put32 i v t).pins = s.pins := rfl
@[simp] theorem put32_pinQueue (s : State) (i : FprNo) (v : BitVec 32) (t : FmtTag) :
    (s.put32 i v t).pinQueue = s.pinQueue :=
  rfl

/-! ### `setByte` -/

@[simp] theorem setByte_cfg (s : State) (a : Word) (v : Byte) : (s.setByte a v).cfg = s.cfg := rfl
@[simp] theorem setByte_gpr (s : State) (a : Word) (v : Byte) : (s.setByte a v).gpr = s.gpr := rfl
@[simp] theorem setByte_pc (s : State) (a : Word) (v : Byte) : (s.setByte a v).pc = s.pc := rfl
@[simp] theorem setByte_isaMode (s : State) (a : Word) (v : Byte) : (s.setByte a v).isaMode = s.isaMode := rfl
@[simp] theorem setByte_fgr (s : State) (a : Word) (v : Byte) : (s.setByte a v).fgr = s.fgr := rfl
@[simp] theorem setByte_tag (s : State) (a : Word) (v : Byte) : (s.setByte a v).tag = s.tag := rfl
@[simp] theorem setByte_fcsr (s : State) (a : Word) (v : Byte) : (s.setByte a v).fcsr = s.fcsr := rfl
@[simp] theorem setByte_status (s : State) (a : Word) (v : Byte) : (s.setByte a v).status = s.status := rfl
@[simp] theorem setByte_excCode (s : State) (a : Word) (v : Byte) : (s.setByte a v).excCode = s.excCode := rfl
@[simp] theorem setByte_ce (s : State) (a : Word) (v : Byte) : (s.setByte a v).ce = s.ce := rfl
@[simp] theorem setByte_epc (s : State) (a : Word) (v : Byte) : (s.setByte a v).epc = s.epc := rfl
@[simp] theorem setByte_badVAddr (s : State) (a : Word) (v : Byte) : (s.setByte a v).badVAddr = s.badVAddr := rfl
@[simp] theorem setByte_configBE (s : State) (a : Word) (v : Byte) : (s.setByte a v).configBE = s.configBE := rfl
@[simp] theorem setByte_accOb (s : State) (a : Word) (v : Byte) : (s.setByte a v).accOb = s.accOb := rfl
@[simp] theorem setByte_accQh (s : State) (a : Word) (v : Byte) : (s.setByte a v).accQh = s.accQh := rfl
@[simp] theorem setByte_llBit (s : State) (a : Word) (v : Byte) : (s.setByte a v).llBit = s.llBit := rfl
@[simp] theorem setByte_llAddr (s : State) (a : Word) (v : Byte) : (s.setByte a v).llAddr = s.llAddr := rfl
@[simp] theorem setByte_pq (s : State) (a : Word) (v : Byte) : (s.setByte a v).pq = s.pq := rfl
@[simp] theorem setByte_run (s : State) (a : Word) (v : Byte) : (s.setByte a v).run = s.run := rfl
@[simp] theorem setByte_pins (s : State) (a : Word) (v : Byte) : (s.setByte a v).pins = s.pins := rfl
@[simp] theorem setByte_pinQueue (s : State) (a : Word) (v : Byte) : (s.setByte a v).pinQueue = s.pinQueue := rfl

/-! ### `setFcsrBit` -/

@[simp] theorem setFcsrBit_cfg (s : State) (i : BitVec 5) (b : Bool) : (s.setFcsrBit i b).cfg = s.cfg := rfl
@[simp] theorem setFcsrBit_gpr (s : State) (i : BitVec 5) (b : Bool) : (s.setFcsrBit i b).gpr = s.gpr := rfl
@[simp] theorem setFcsrBit_pc (s : State) (i : BitVec 5) (b : Bool) : (s.setFcsrBit i b).pc = s.pc := rfl
@[simp] theorem setFcsrBit_isaMode (s : State) (i : BitVec 5) (b : Bool) : (s.setFcsrBit i b).isaMode = s.isaMode := rfl
@[simp] theorem setFcsrBit_fgr (s : State) (i : BitVec 5) (b : Bool) : (s.setFcsrBit i b).fgr = s.fgr := rfl
@[simp] theorem setFcsrBit_tag (s : State) (i : BitVec 5) (b : Bool) : (s.setFcsrBit i b).tag = s.tag := rfl
@[simp] theorem setFcsrBit_fcsr (s : State) (i : BitVec 5) (b : Bool) :
    (s.setFcsrBit i b).fcsr = putBit s.fcsr i.toNat b :=
  rfl
@[simp] theorem setFcsrBit_status (s : State) (i : BitVec 5) (b : Bool) : (s.setFcsrBit i b).status = s.status := rfl
@[simp] theorem setFcsrBit_excCode (s : State) (i : BitVec 5) (b : Bool) : (s.setFcsrBit i b).excCode = s.excCode := rfl
@[simp] theorem setFcsrBit_ce (s : State) (i : BitVec 5) (b : Bool) : (s.setFcsrBit i b).ce = s.ce := rfl
@[simp] theorem setFcsrBit_epc (s : State) (i : BitVec 5) (b : Bool) : (s.setFcsrBit i b).epc = s.epc := rfl
@[simp] theorem setFcsrBit_badVAddr (s : State) (i : BitVec 5) (b : Bool) :
    (s.setFcsrBit i b).badVAddr = s.badVAddr :=
  rfl
@[simp] theorem setFcsrBit_configBE (s : State) (i : BitVec 5) (b : Bool) :
    (s.setFcsrBit i b).configBE = s.configBE :=
  rfl
@[simp] theorem setFcsrBit_accOb (s : State) (i : BitVec 5) (b : Bool) : (s.setFcsrBit i b).accOb = s.accOb := rfl
@[simp] theorem setFcsrBit_accQh (s : State) (i : BitVec 5) (b : Bool) : (s.setFcsrBit i b).accQh = s.accQh := rfl
@[simp] theorem setFcsrBit_mem (s : State) (i : BitVec 5) (b : Bool) : (s.setFcsrBit i b).mem = s.mem := rfl
@[simp] theorem setFcsrBit_llBit (s : State) (i : BitVec 5) (b : Bool) : (s.setFcsrBit i b).llBit = s.llBit := rfl
@[simp] theorem setFcsrBit_llAddr (s : State) (i : BitVec 5) (b : Bool) : (s.setFcsrBit i b).llAddr = s.llAddr := rfl
@[simp] theorem setFcsrBit_pq (s : State) (i : BitVec 5) (b : Bool) : (s.setFcsrBit i b).pq = s.pq := rfl
@[simp] theorem setFcsrBit_run (s : State) (i : BitVec 5) (b : Bool) : (s.setFcsrBit i b).run = s.run := rfl
@[simp] theorem setFcsrBit_pins (s : State) (i : BitVec 5) (b : Bool) : (s.setFcsrBit i b).pins = s.pins := rfl
@[simp] theorem setFcsrBit_pinQueue (s : State) (i : BitVec 5) (b : Bool) :
    (s.setFcsrBit i b).pinQueue = s.pinQueue :=
  rfl

/-! ### `recordFlags` -/

@[simp] theorem recordFlags_cfg (s : State) (f : FpExcs) : (s.recordFlags f).cfg = s.cfg := rfl
@[simp] theorem recordFlags_gpr (s : State) (f : FpExcs) : (s.recordFlags f).gpr = s.gpr := rfl
@[simp] theorem recordFlags_pc (s : State) (f : FpExcs) : (s.recordFlags f).pc = s.pc := rfl
@[simp] theorem recordFlags_isaMode (s : State) (f : FpExcs) : (s.recordFlags f).isaMode = s.isaMode := rfl
@[simp] theorem recordFlags_fgr (s : State) (f : FpExcs) : (s.recordFlags f).fgr = s.fgr := rfl
@[simp] theorem recordFlags_tag (s : State) (f : FpExcs) : (s.recordFlags f).tag = s.tag := rfl
@[simp] theorem recordFlags_fcsr (s : State) (f : FpExcs) : (s.recordFlags f).fcsr = raisedFcsr s.fcsr f := rfl
@[simp] theorem recordFlags_status (s : State) (f : FpExcs) : (s.recordFlags f).status = s.status := rfl
@[simp] theorem recordFlags_excCode (s : State) (f : FpExcs) : (s.recordFlags f).excCode = s.excCode := rfl
@[simp] theorem recordFlags_ce (s : State) (f : FpExcs) : (s.recordFlags f).ce = s.ce := rfl
@[simp] theorem recordFlags_epc (s : State) (f : FpExcs) : (s.recordFlags f).epc = s.epc := rfl
@[simp] theorem recordFlags_badVAddr (s : State) (f : FpExcs) : (s.recordFlags f).badVAddr = s.badVAddr := rfl
@[simp] theorem recordFlags_configBE (s : State) (f : FpExcs) : (s.recordFlags f).configBE = s.configBE := rfl
@[simp] theorem recordFlags_accOb (s : State) (f : FpExcs) : (s.recordFlags f).accOb = s.accOb := rfl
@[simp] theorem recordFlags_accQh (s : State) (f : FpExcs) : (s.recordFlags f).accQh = s.accQh := rfl
@[simp] theorem recordFlags_mem (s : State) (f : FpExcs) : (s.recordFlags f).mem = s.mem := rfl
@[simp] theorem recordFlags_llBit (s : State) (f : FpExcs) : (s.recordFlags f).llBit = s.llBit := rfl
@[simp] theorem recordFlags_llAddr (s : State) (f : FpExcs) : (s.recordFlags f).llAddr = s.llAddr := rfl
@[simp] theorem recordFlags_pq (s : State) (f : FpExcs) : (s.recordFlags f).pq = s.pq := rfl
@[simp] theorem recordFlags_run (s : State) (f : FpExcs) : (s.recordFlags f).run = s.run := rfl
@[simp] theorem recordFlags_pins (s : State) (f : FpExcs) : (s.recordFlags f).pins = s.pins := rfl
@[simp] theorem recordFlags_pinQueue (s : State) (f : FpExcs) : (s.recordFlags f).pinQueue = s.pinQueue := rfl

/-! ### `writeStatus` -/

@[simp] theorem writeStatus_cfg (s : State) (v : BitVec 32) : (s.writeStatus v).cfg = s.cfg := rfl
@[simp] theorem writeStatus_gpr (s : State) (v : BitVec 32) : (s.writeStatus v).gpr = s.gpr := rfl
@[simp] theorem writeStatus_pc (s : State) (v : BitVec 32) : (s.writeStatus v).pc = s.pc := rfl
@[simp] theorem writeStatus_isaMode (s : State) (v : BitVec 32) : (s.writeStatus v).isaMode = s.isaMode := rfl
@[simp] theorem writeStatus_fgr (s : State) (v : BitVec 32) : (s.writeStatus v).fgr = s.fgr := rfl
@[simp] theorem writeStatus_tag (s : State) (v : BitVec 32) : (s.writeStatus v).tag = s.tag := rfl
@[simp] theorem writeStatus_fcsr (s : State) (v : BitVec 32) : (s.writeStatus v).fcsr = s.fcsr := rfl
@[simp] theorem writeStatus_status (s : State) (v : BitVec 32) : (s.writeStatus v).status = v &&& statusMask := rfl
@[simp] theorem writeStatus_excCode (s : State) (v : BitVec 32) : (s.writeStatus v).excCode = s.excCode := rfl
@[simp] theorem writeStatus_ce (s : State) (v : BitVec 32) : (s.writeStatus v).ce = s.ce := rfl
@[simp] theorem writeStatus_epc (s : State) (v : BitVec 32) : (s.writeStatus v).epc = s.epc := rfl
@[simp] theorem writeStatus_badVAddr (s : State) (v : BitVec 32) : (s.writeStatus v).badVAddr = s.badVAddr := rfl
@[simp] theorem writeStatus_configBE (s : State) (v : BitVec 32) : (s.writeStatus v).configBE = s.configBE := rfl
@[simp] theorem writeStatus_accOb (s : State) (v : BitVec 32) : (s.writeStatus v).accOb = s.accOb := rfl
@[simp] theorem writeStatus_accQh (s : State) (v : BitVec 32) : (s.writeStatus v).accQh = s.accQh := rfl
@[simp] theorem writeStatus_mem (s : State) (v : BitVec 32) : (s.writeStatus v).mem = s.mem := rfl
@[simp] theorem writeStatus_llBit (s : State) (v : BitVec 32) : (s.writeStatus v).llBit = s.llBit := rfl
@[simp] theorem writeStatus_llAddr (s : State) (v : BitVec 32) : (s.writeStatus v).llAddr = s.llAddr := rfl
@[simp] theorem writeStatus_pq (s : State) (v : BitVec 32) : (s.writeStatus v).pq = s.pq := rfl
@[simp] theorem writeStatus_run (s : State) (v : BitVec 32) : (s.writeStatus v).run = s.run := rfl
@[simp] theorem writeStatus_pins (s : State) (v : BitVec 32) : (s.writeStatus v).pins = s.pins := rfl
@[simp] theorem writeStatus_pinQueue (s : State) (v : BitVec 32) : (s.writeStatus v).pinQueue = s.pinQueue := rfl

/-! ### `setAccOb` -/

@[simp] theorem setAccOb_cfg (s : State) (r : Fin 8 → BitVec 24) : (s.setAccOb r).cfg = s.cfg := rfl
@[simp] theorem setAccOb_gpr (s : State) (r : Fin 8 → BitVec 24) : (s.setAccOb r).gpr = s.gpr := rfl
@[simp] theorem setAccOb_pc (s : State) (r : Fin 8 → BitVec 24) : (s.setAccOb r).pc = s.pc := rfl
@[simp] theorem setAccOb_isaMode (s : State) (r : Fin 8 → BitVec 24) : (s.setAccOb r).isaMode = s.isaMode := rfl
@[simp] theorem setAccOb_fgr (s : State) (r : Fin 8 → BitVec 24) : (s.setAccOb r).fgr = s.fgr := rfl
@[simp] theorem setAccOb_tag (s : State) (r : Fin 8 → BitVec 24) : (s.setAccOb r).tag = s.tag := rfl
@[simp] theorem setAccOb_fcsr (s : State) (r : Fin 8 → BitVec 24) : (s.setAccOb r).fcsr = s.fcsr := rfl
@[simp] theorem setAccOb_status (s : State) (r : Fin 8 → BitVec 24) : (s.setAccOb r).status = s.status := rfl
@[simp] theorem setAccOb_excCode (s : State) (r : Fin 8 → BitVec 24) : (s.setAccOb r).excCode = s.excCode := rfl
@[simp] theorem setAccOb_ce (s : State) (r : Fin 8 → BitVec 24) : (s.setAccOb r).ce = s.ce := rfl
@[simp] theorem setAccOb_epc (s : State) (r : Fin 8 → BitVec 24) : (s.setAccOb r).epc = s.epc := rfl
@[simp] theorem setAccOb_badVAddr (s : State) (r : Fin 8 → BitVec 24) : (s.setAccOb r).badVAddr = s.badVAddr := rfl
@[simp] theorem setAccOb_configBE (s : State) (r : Fin 8 → BitVec 24) : (s.setAccOb r).configBE = s.configBE := rfl
@[simp] theorem setAccOb_accQh (s : State) (r : Fin 8 → BitVec 24) : (s.setAccOb r).accQh = s.accQh := rfl
@[simp] theorem setAccOb_mem (s : State) (r : Fin 8 → BitVec 24) : (s.setAccOb r).mem = s.mem := rfl
@[simp] theorem setAccOb_llBit (s : State) (r : Fin 8 → BitVec 24) : (s.setAccOb r).llBit = s.llBit := rfl
@[simp] theorem setAccOb_llAddr (s : State) (r : Fin 8 → BitVec 24) : (s.setAccOb r).llAddr = s.llAddr := rfl
@[simp] theorem setAccOb_pq (s : State) (r : Fin 8 → BitVec 24) : (s.setAccOb r).pq = s.pq := rfl
@[simp] theorem setAccOb_run (s : State) (r : Fin 8 → BitVec 24) : (s.setAccOb r).run = s.run := rfl
@[simp] theorem setAccOb_pins (s : State) (r : Fin 8 → BitVec 24) : (s.setAccOb r).pins = s.pins := rfl
@[simp] theorem setAccOb_pinQueue (s : State) (r : Fin 8 → BitVec 24) : (s.setAccOb r).pinQueue = s.pinQueue := rfl

/-! ### `setAccQh` -/

@[simp] theorem setAccQh_cfg (s : State) (r : Fin 4 → BitVec 48) : (s.setAccQh r).cfg = s.cfg := rfl
@[simp] theorem setAccQh_gpr (s : State) (r : Fin 4 → BitVec 48) : (s.setAccQh r).gpr = s.gpr := rfl
@[simp] theorem setAccQh_pc (s : State) (r : Fin 4 → BitVec 48) : (s.setAccQh r).pc = s.pc := rfl
@[simp] theorem setAccQh_isaMode (s : State) (r : Fin 4 → BitVec 48) : (s.setAccQh r).isaMode = s.isaMode := rfl
@[simp] theorem setAccQh_fgr (s : State) (r : Fin 4 → BitVec 48) : (s.setAccQh r).fgr = s.fgr := rfl
@[simp] theorem setAccQh_tag (s : State) (r : Fin 4 → BitVec 48) : (s.setAccQh r).tag = s.tag := rfl
@[simp] theorem setAccQh_fcsr (s : State) (r : Fin 4 → BitVec 48) : (s.setAccQh r).fcsr = s.fcsr := rfl
@[simp] theorem setAccQh_status (s : State) (r : Fin 4 → BitVec 48) : (s.setAccQh r).status = s.status := rfl
@[simp] theorem setAccQh_excCode (s : State) (r : Fin 4 → BitVec 48) : (s.setAccQh r).excCode = s.excCode := rfl
@[simp] theorem setAccQh_ce (s : State) (r : Fin 4 → BitVec 48) : (s.setAccQh r).ce = s.ce := rfl
@[simp] theorem setAccQh_epc (s : State) (r : Fin 4 → BitVec 48) : (s.setAccQh r).epc = s.epc := rfl
@[simp] theorem setAccQh_badVAddr (s : State) (r : Fin 4 → BitVec 48) : (s.setAccQh r).badVAddr = s.badVAddr := rfl
@[simp] theorem setAccQh_configBE (s : State) (r : Fin 4 → BitVec 48) : (s.setAccQh r).configBE = s.configBE := rfl
@[simp] theorem setAccQh_accOb (s : State) (r : Fin 4 → BitVec 48) : (s.setAccQh r).accOb = s.accOb := rfl
@[simp] theorem setAccQh_mem (s : State) (r : Fin 4 → BitVec 48) : (s.setAccQh r).mem = s.mem := rfl
@[simp] theorem setAccQh_llBit (s : State) (r : Fin 4 → BitVec 48) : (s.setAccQh r).llBit = s.llBit := rfl
@[simp] theorem setAccQh_llAddr (s : State) (r : Fin 4 → BitVec 48) : (s.setAccQh r).llAddr = s.llAddr := rfl
@[simp] theorem setAccQh_pq (s : State) (r : Fin 4 → BitVec 48) : (s.setAccQh r).pq = s.pq := rfl
@[simp] theorem setAccQh_run (s : State) (r : Fin 4 → BitVec 48) : (s.setAccQh r).run = s.run := rfl
@[simp] theorem setAccQh_pins (s : State) (r : Fin 4 → BitVec 48) : (s.setAccQh r).pins = s.pins := rfl
@[simp] theorem setAccQh_pinQueue (s : State) (r : Fin 4 → BitVec 48) : (s.setAccQh r).pinQueue = s.pinQueue := rfl

/-! ### `clearLink` -/

@[simp] theorem clearLink_cfg (s : State) (pa : Word) (n : Nat) : (clearLinkIfAliased s pa n).cfg = s.cfg := rfl
@[simp] theorem clearLink_gpr (s : State) (pa : Word) (n : Nat) : (clearLinkIfAliased s pa n).gpr = s.gpr := rfl
@[simp] theorem clearLink_pc (s : State) (pa : Word) (n : Nat) : (clearLinkIfAliased s pa n).pc = s.pc := rfl
@[simp] theorem clearLink_isaMode (s : State) (pa : Word) (n : Nat) :
    (clearLinkIfAliased s pa n).isaMode = s.isaMode :=
  rfl
@[simp] theorem clearLink_fgr (s : State) (pa : Word) (n : Nat) : (clearLinkIfAliased s pa n).fgr = s.fgr := rfl
@[simp] theorem clearLink_tag (s : State) (pa : Word) (n : Nat) : (clearLinkIfAliased s pa n).tag = s.tag := rfl
@[simp] theorem clearLink_fcsr (s : State) (pa : Word) (n : Nat) : (clearLinkIfAliased s pa n).fcsr = s.fcsr := rfl
@[simp] theorem clearLink_status (s : State) (pa : Word) (n : Nat) : (clearLinkIfAliased s pa n).status = s.status :=
  rfl
@[simp] theorem clearLink_excCode (s : State) (pa : Word) (n : Nat) :
    (clearLinkIfAliased s pa n).excCode = s.excCode :=
  rfl
@[simp] theorem clearLink_ce (s : State) (pa : Word) (n : Nat) : (clearLinkIfAliased s pa n).ce = s.ce := rfl
@[simp] theorem clearLink_epc (s : State) (pa : Word) (n : Nat) : (clearLinkIfAliased s pa n).epc = s.epc := rfl
@[simp] theorem clearLink_badVAddr (s : State) (pa : Word) (n : Nat) :
    (clearLinkIfAliased s pa n).badVAddr = s.badVAddr :=
  rfl
@[simp] theorem clearLink_configBE (s : State) (pa : Word) (n : Nat) :
    (clearLinkIfAliased s pa n).configBE = s.configBE :=
  rfl
@[simp] theorem clearLink_accOb (s : State) (pa : Word) (n : Nat) : (clearLinkIfAliased s pa n).accOb = s.accOb := rfl
@[simp] theorem clearLink_accQh (s : State) (pa : Word) (n : Nat) : (clearLinkIfAliased s pa n).accQh = s.accQh := rfl
@[simp] theorem clearLink_mem (s : State) (pa : Word) (n : Nat) : (clearLinkIfAliased s pa n).mem = s.mem := rfl
@[simp] theorem clearLink_llBit (s : State) (pa : Word) (n : Nat) :
    (clearLinkIfAliased s pa n).llBit = (s.llBit && !mayAlias s.cfg s.llAddr pa n) :=
  rfl
@[simp] theorem clearLink_llAddr (s : State) (pa : Word) (n : Nat) : (clearLinkIfAliased s pa n).llAddr = s.llAddr :=
  rfl
@[simp] theorem clearLink_pq (s : State) (pa : Word) (n : Nat) : (clearLinkIfAliased s pa n).pq = s.pq := rfl
@[simp] theorem clearLink_run (s : State) (pa : Word) (n : Nat) : (clearLinkIfAliased s pa n).run = s.run := rfl
@[simp] theorem clearLink_pins (s : State) (pa : Word) (n : Nat) : (clearLinkIfAliased s pa n).pins = s.pins := rfl
@[simp] theorem clearLink_pinQueue (s : State) (pa : Word) (n : Nat) :
    (clearLinkIfAliased s pa n).pinQueue = s.pinQueue :=
  rfl

/-! ### `takeException` -/

@[simp] theorem takeException_cfg (s : State) (e : Exc) : (takeException e s).cfg = s.cfg := rfl
@[simp] theorem takeException_gpr (s : State) (e : Exc) : (takeException e s).gpr = s.gpr := rfl
@[simp] theorem takeException_pc (s : State) (e : Exc) : (takeException e s).pc = s.cfg.excVector := rfl
@[simp] theorem takeException_isaMode (s : State) (e : Exc) : (takeException e s).isaMode = s.isaMode := rfl
@[simp] theorem takeException_fgr (s : State) (e : Exc) : (takeException e s).fgr = s.fgr := rfl
@[simp] theorem takeException_tag (s : State) (e : Exc) : (takeException e s).tag = s.tag := rfl
@[simp] theorem takeException_fcsr (s : State) (e : Exc) : (takeException e s).fcsr = s.fcsr := rfl
@[simp] theorem takeException_status (s : State) (e : Exc) : (takeException e s).status = s.status ||| 2#32 := rfl
@[simp] theorem takeException_excCode (s : State) (e : Exc) : (takeException e s).excCode = e.code := rfl
@[simp] theorem takeException_ce (s : State) (e : Exc) : (takeException e s).ce = e.ceAfter s.ce := rfl
@[simp] theorem takeException_epc (s : State) (e : Exc) : (takeException e s).epc = if s.exl then s.epc else s.pc := rfl
@[simp] theorem takeException_badVAddr (s : State) (e : Exc) :
    (takeException e s).badVAddr = e.badVAddrAfter s.badVAddr :=
  rfl
@[simp] theorem takeException_configBE (s : State) (e : Exc) : (takeException e s).configBE = s.configBE := rfl
@[simp] theorem takeException_accOb (s : State) (e : Exc) : (takeException e s).accOb = s.accOb := rfl
@[simp] theorem takeException_accQh (s : State) (e : Exc) : (takeException e s).accQh = s.accQh := rfl
@[simp] theorem takeException_mem (s : State) (e : Exc) : (takeException e s).mem = s.mem := rfl
@[simp] theorem takeException_llBit (s : State) (e : Exc) : (takeException e s).llBit = s.llBit := rfl
@[simp] theorem takeException_llAddr (s : State) (e : Exc) : (takeException e s).llAddr = s.llAddr := rfl
@[simp] theorem takeException_pq (s : State) (e : Exc) : (takeException e s).pq = s.pq := rfl
@[simp] theorem takeException_run (s : State) (e : Exc) : (takeException e s).run = s.run := rfl
@[simp] theorem takeException_pins (s : State) (e : Exc) : (takeException e s).pins = s.pins := rfl
@[simp] theorem takeException_pinQueue (s : State) (e : Exc) : (takeException e s).pinQueue = s.pinQueue := rfl

/-! ### `returnFromException` -/

@[simp] theorem returnFromException_cfg (s : State) : (returnFromException s).cfg = s.cfg := rfl
@[simp] theorem returnFromException_gpr (s : State) : (returnFromException s).gpr = s.gpr := rfl
@[simp] theorem returnFromException_pc (s : State) : (returnFromException s).pc = s.epc := rfl
@[simp] theorem returnFromException_isaMode (s : State) : (returnFromException s).isaMode = s.isaMode := rfl
@[simp] theorem returnFromException_fgr (s : State) : (returnFromException s).fgr = s.fgr := rfl
@[simp] theorem returnFromException_tag (s : State) : (returnFromException s).tag = s.tag := rfl
@[simp] theorem returnFromException_fcsr (s : State) : (returnFromException s).fcsr = s.fcsr := rfl
@[simp] theorem returnFromException_status (s : State) : (returnFromException s).status = s.status &&& ~~~2#32 := rfl
@[simp] theorem returnFromException_excCode (s : State) : (returnFromException s).excCode = s.excCode := rfl
@[simp] theorem returnFromException_ce (s : State) : (returnFromException s).ce = s.ce := rfl
@[simp] theorem returnFromException_epc (s : State) : (returnFromException s).epc = s.epc := rfl
@[simp] theorem returnFromException_badVAddr (s : State) : (returnFromException s).badVAddr = s.badVAddr := rfl
@[simp] theorem returnFromException_configBE (s : State) : (returnFromException s).configBE = s.configBE := rfl
@[simp] theorem returnFromException_accOb (s : State) : (returnFromException s).accOb = s.accOb := rfl
@[simp] theorem returnFromException_accQh (s : State) : (returnFromException s).accQh = s.accQh := rfl
@[simp] theorem returnFromException_mem (s : State) : (returnFromException s).mem = s.mem := rfl
@[simp] theorem returnFromException_llBit (s : State) : (returnFromException s).llBit = false := rfl
@[simp] theorem returnFromException_llAddr (s : State) : (returnFromException s).llAddr = s.llAddr := rfl
@[simp] theorem returnFromException_pq (s : State) : (returnFromException s).pq = s.pq := rfl
@[simp] theorem returnFromException_run (s : State) : (returnFromException s).run = s.run := rfl
@[simp] theorem returnFromException_pins (s : State) : (returnFromException s).pins = s.pins := rfl
@[simp] theorem returnFromException_pinQueue (s : State) : (returnFromException s).pinQueue = s.pinQueue := rfl

/-! ### `writeGpr` -/

@[simp] theorem writeGpr_cfg (s : State) (i : GprNo) (v : Word) : (s.writeGpr i v).cfg = s.cfg :=
  by unfold State.writeGpr; split <;> rfl
@[simp] theorem writeGpr_pc (s : State) (i : GprNo) (v : Word) : (s.writeGpr i v).pc = s.pc :=
  by unfold State.writeGpr; split <;> rfl
@[simp] theorem writeGpr_isaMode (s : State) (i : GprNo) (v : Word) : (s.writeGpr i v).isaMode = s.isaMode :=
  by unfold State.writeGpr; split <;> rfl
@[simp] theorem writeGpr_fgr (s : State) (i : GprNo) (v : Word) : (s.writeGpr i v).fgr = s.fgr :=
  by unfold State.writeGpr; split <;> rfl
@[simp] theorem writeGpr_tag (s : State) (i : GprNo) (v : Word) : (s.writeGpr i v).tag = s.tag :=
  by unfold State.writeGpr; split <;> rfl
@[simp] theorem writeGpr_fcsr (s : State) (i : GprNo) (v : Word) : (s.writeGpr i v).fcsr = s.fcsr :=
  by unfold State.writeGpr; split <;> rfl
@[simp] theorem writeGpr_status (s : State) (i : GprNo) (v : Word) : (s.writeGpr i v).status = s.status :=
  by unfold State.writeGpr; split <;> rfl
@[simp] theorem writeGpr_excCode (s : State) (i : GprNo) (v : Word) : (s.writeGpr i v).excCode = s.excCode :=
  by unfold State.writeGpr; split <;> rfl
@[simp] theorem writeGpr_ce (s : State) (i : GprNo) (v : Word) : (s.writeGpr i v).ce = s.ce :=
  by unfold State.writeGpr; split <;> rfl
@[simp] theorem writeGpr_epc (s : State) (i : GprNo) (v : Word) : (s.writeGpr i v).epc = s.epc :=
  by unfold State.writeGpr; split <;> rfl
@[simp] theorem writeGpr_badVAddr (s : State) (i : GprNo) (v : Word) : (s.writeGpr i v).badVAddr = s.badVAddr :=
  by unfold State.writeGpr; split <;> rfl
@[simp] theorem writeGpr_configBE (s : State) (i : GprNo) (v : Word) : (s.writeGpr i v).configBE = s.configBE :=
  by unfold State.writeGpr; split <;> rfl
@[simp] theorem writeGpr_accOb (s : State) (i : GprNo) (v : Word) : (s.writeGpr i v).accOb = s.accOb :=
  by unfold State.writeGpr; split <;> rfl
@[simp] theorem writeGpr_accQh (s : State) (i : GprNo) (v : Word) : (s.writeGpr i v).accQh = s.accQh :=
  by unfold State.writeGpr; split <;> rfl
@[simp] theorem writeGpr_mem (s : State) (i : GprNo) (v : Word) : (s.writeGpr i v).mem = s.mem :=
  by unfold State.writeGpr; split <;> rfl
@[simp] theorem writeGpr_llBit (s : State) (i : GprNo) (v : Word) : (s.writeGpr i v).llBit = s.llBit :=
  by unfold State.writeGpr; split <;> rfl
@[simp] theorem writeGpr_llAddr (s : State) (i : GprNo) (v : Word) : (s.writeGpr i v).llAddr = s.llAddr :=
  by unfold State.writeGpr; split <;> rfl
@[simp] theorem writeGpr_pq (s : State) (i : GprNo) (v : Word) : (s.writeGpr i v).pq = s.pq :=
  by unfold State.writeGpr; split <;> rfl
@[simp] theorem writeGpr_run (s : State) (i : GprNo) (v : Word) : (s.writeGpr i v).run = s.run :=
  by unfold State.writeGpr; split <;> rfl
@[simp] theorem writeGpr_pins (s : State) (i : GprNo) (v : Word) : (s.writeGpr i v).pins = s.pins :=
  by unfold State.writeGpr; split <;> rfl
@[simp] theorem writeGpr_pinQueue (s : State) (i : GprNo) (v : Word) : (s.writeGpr i v).pinQueue = s.pinQueue :=
  by unfold State.writeGpr; split <;> rfl

/-! ### `put64` -/

@[simp] theorem put64_cfg (s : State) (i : FprNo) (v : BitVec 64) (t : FmtTag) : (s.put64 i v t).cfg = s.cfg :=
  by unfold State.put64; dsimp only; repeat (first | rfl | split)
@[simp] theorem put64_gpr (s : State) (i : FprNo) (v : BitVec 64) (t : FmtTag) : (s.put64 i v t).gpr = s.gpr :=
  by unfold State.put64; dsimp only; repeat (first | rfl | split)
@[simp] theorem put64_pc (s : State) (i : FprNo) (v : BitVec 64) (t : FmtTag) : (s.put64 i v t).pc = s.pc :=
  by unfold State.put64; dsimp only; repeat (first | rfl | split)
@[simp] theorem put64_isaMode (s : State) (i : FprNo) (v : BitVec 64) (t : FmtTag) :
    (s.put64 i v t).isaMode = s.isaMode :=
  by unfold State.put64; dsimp only; repeat (first | rfl | split)
@[simp] theorem put64_fcsr (s : State) (i : FprNo) (v : BitVec 64) (t : FmtTag) : (s.put64 i v t).fcsr = s.fcsr :=
  by unfold State.put64; dsimp only; repeat (first | rfl | split)
@[simp] theorem put64_status (s : State) (i : FprNo) (v : BitVec 64) (t : FmtTag) :
    (s.put64 i v t).status = s.status :=
  by unfold State.put64; dsimp only; repeat (first | rfl | split)
@[simp] theorem put64_excCode (s : State) (i : FprNo) (v : BitVec 64) (t : FmtTag) :
    (s.put64 i v t).excCode = s.excCode :=
  by unfold State.put64; dsimp only; repeat (first | rfl | split)
@[simp] theorem put64_ce (s : State) (i : FprNo) (v : BitVec 64) (t : FmtTag) : (s.put64 i v t).ce = s.ce :=
  by unfold State.put64; dsimp only; repeat (first | rfl | split)
@[simp] theorem put64_epc (s : State) (i : FprNo) (v : BitVec 64) (t : FmtTag) : (s.put64 i v t).epc = s.epc :=
  by unfold State.put64; dsimp only; repeat (first | rfl | split)
@[simp] theorem put64_badVAddr (s : State) (i : FprNo) (v : BitVec 64) (t : FmtTag) :
    (s.put64 i v t).badVAddr = s.badVAddr :=
  by unfold State.put64; dsimp only; repeat (first | rfl | split)
@[simp] theorem put64_configBE (s : State) (i : FprNo) (v : BitVec 64) (t : FmtTag) :
    (s.put64 i v t).configBE = s.configBE :=
  by unfold State.put64; dsimp only; repeat (first | rfl | split)
@[simp] theorem put64_accOb (s : State) (i : FprNo) (v : BitVec 64) (t : FmtTag) : (s.put64 i v t).accOb = s.accOb :=
  by unfold State.put64; dsimp only; repeat (first | rfl | split)
@[simp] theorem put64_accQh (s : State) (i : FprNo) (v : BitVec 64) (t : FmtTag) : (s.put64 i v t).accQh = s.accQh :=
  by unfold State.put64; dsimp only; repeat (first | rfl | split)
@[simp] theorem put64_mem (s : State) (i : FprNo) (v : BitVec 64) (t : FmtTag) : (s.put64 i v t).mem = s.mem :=
  by unfold State.put64; dsimp only; repeat (first | rfl | split)
@[simp] theorem put64_llBit (s : State) (i : FprNo) (v : BitVec 64) (t : FmtTag) : (s.put64 i v t).llBit = s.llBit :=
  by unfold State.put64; dsimp only; repeat (first | rfl | split)
@[simp] theorem put64_llAddr (s : State) (i : FprNo) (v : BitVec 64) (t : FmtTag) :
    (s.put64 i v t).llAddr = s.llAddr :=
  by unfold State.put64; dsimp only; repeat (first | rfl | split)
@[simp] theorem put64_pq (s : State) (i : FprNo) (v : BitVec 64) (t : FmtTag) : (s.put64 i v t).pq = s.pq :=
  by unfold State.put64; dsimp only; repeat (first | rfl | split)
@[simp] theorem put64_run (s : State) (i : FprNo) (v : BitVec 64) (t : FmtTag) : (s.put64 i v t).run = s.run :=
  by unfold State.put64; dsimp only; repeat (first | rfl | split)
@[simp] theorem put64_pins (s : State) (i : FprNo) (v : BitVec 64) (t : FmtTag) : (s.put64 i v t).pins = s.pins :=
  by unfold State.put64; dsimp only; repeat (first | rfl | split)
@[simp] theorem put64_pinQueue (s : State) (i : FprNo) (v : BitVec 64) (t : FmtTag) :
    (s.put64 i v t).pinQueue = s.pinQueue :=
  by unfold State.put64; dsimp only; repeat (first | rfl | split)

/-! ### `writeFpr` -/

@[simp] theorem writeFpr_cfg (s : State) (i : FprNo) (f : Fmt) (v : BitVec 64) : (s.writeFpr i f v).cfg = s.cfg :=
  by unfold State.writeFpr; split <;> simp
@[simp] theorem writeFpr_gpr (s : State) (i : FprNo) (f : Fmt) (v : BitVec 64) : (s.writeFpr i f v).gpr = s.gpr :=
  by unfold State.writeFpr; split <;> simp
@[simp] theorem writeFpr_pc (s : State) (i : FprNo) (f : Fmt) (v : BitVec 64) : (s.writeFpr i f v).pc = s.pc :=
  by unfold State.writeFpr; split <;> simp
@[simp] theorem writeFpr_isaMode (s : State) (i : FprNo) (f : Fmt) (v : BitVec 64) :
    (s.writeFpr i f v).isaMode = s.isaMode :=
  by unfold State.writeFpr; split <;> simp
@[simp] theorem writeFpr_fcsr (s : State) (i : FprNo) (f : Fmt) (v : BitVec 64) : (s.writeFpr i f v).fcsr = s.fcsr :=
  by unfold State.writeFpr; split <;> simp
@[simp] theorem writeFpr_status (s : State) (i : FprNo) (f : Fmt) (v : BitVec 64) :
    (s.writeFpr i f v).status = s.status :=
  by unfold State.writeFpr; split <;> simp
@[simp] theorem writeFpr_excCode (s : State) (i : FprNo) (f : Fmt) (v : BitVec 64) :
    (s.writeFpr i f v).excCode = s.excCode :=
  by unfold State.writeFpr; split <;> simp
@[simp] theorem writeFpr_ce (s : State) (i : FprNo) (f : Fmt) (v : BitVec 64) : (s.writeFpr i f v).ce = s.ce :=
  by unfold State.writeFpr; split <;> simp
@[simp] theorem writeFpr_epc (s : State) (i : FprNo) (f : Fmt) (v : BitVec 64) : (s.writeFpr i f v).epc = s.epc :=
  by unfold State.writeFpr; split <;> simp
@[simp] theorem writeFpr_badVAddr (s : State) (i : FprNo) (f : Fmt) (v : BitVec 64) :
    (s.writeFpr i f v).badVAddr = s.badVAddr :=
  by unfold State.writeFpr; split <;> simp
@[simp] theorem writeFpr_configBE (s : State) (i : FprNo) (f : Fmt) (v : BitVec 64) :
    (s.writeFpr i f v).configBE = s.configBE :=
  by unfold State.writeFpr; split <;> simp
@[simp] theorem writeFpr_accOb (s : State) (i : FprNo) (f : Fmt) (v : BitVec 64) :
    (s.writeFpr i f v).accOb = s.accOb :=
  by unfold State.writeFpr; split <;> simp
@[simp] theorem writeFpr_accQh (s : State) (i : FprNo) (f : Fmt) (v : BitVec 64) :
    (s.writeFpr i f v).accQh = s.accQh :=
  by unfold State.writeFpr; split <;> simp
@[simp] theorem writeFpr_mem (s : State) (i : FprNo) (f : Fmt) (v : BitVec 64) : (s.writeFpr i f v).mem = s.mem :=
  by unfold State.writeFpr; split <;> simp
@[simp] theorem writeFpr_llBit (s : State) (i : FprNo) (f : Fmt) (v : BitVec 64) :
    (s.writeFpr i f v).llBit = s.llBit :=
  by unfold State.writeFpr; split <;> simp
@[simp] theorem writeFpr_llAddr (s : State) (i : FprNo) (f : Fmt) (v : BitVec 64) :
    (s.writeFpr i f v).llAddr = s.llAddr :=
  by unfold State.writeFpr; split <;> simp
@[simp] theorem writeFpr_pq (s : State) (i : FprNo) (f : Fmt) (v : BitVec 64) : (s.writeFpr i f v).pq = s.pq :=
  by unfold State.writeFpr; split <;> simp
@[simp] theorem writeFpr_run (s : State) (i : FprNo) (f : Fmt) (v : BitVec 64) : (s.writeFpr i f v).run = s.run :=
  by unfold State.writeFpr; split <;> simp
@[simp] theorem writeFpr_pins (s : State) (i : FprNo) (f : Fmt) (v : BitVec 64) : (s.writeFpr i f v).pins = s.pins :=
  by unfold State.writeFpr; split <;> simp
@[simp] theorem writeFpr_pinQueue (s : State) (i : FprNo) (f : Fmt) (v : BitVec 64) :
    (s.writeFpr i f v).pinQueue = s.pinQueue :=
  by unfold State.writeFpr; split <;> simp

/-! ### `rawWrite64` -/

@[simp] theorem rawWrite64_cfg (s : State) (i : FprNo) (v : BitVec 64) : (s.rawWrite64 i v).cfg = s.cfg :=
  by simp [State.rawWrite64]
@[simp] theorem rawWrite64_gpr (s : State) (i : FprNo) (v : BitVec 64) : (s.rawWrite64 i v).gpr = s.gpr :=
  by simp [State.rawWrite64]
@[simp] theorem rawWrite64_pc (s : State) (i : FprNo) (v : BitVec 64) : (s.rawWrite64 i v).pc = s.pc :=
  by simp [State.rawWrite64]
@[simp] theorem rawWrite64_isaMode (s : State) (i : FprNo) (v : BitVec 64) : (s.rawWrite64 i v).isaMode = s.isaMode :=
  by simp [State.rawWrite64]
@[simp] theorem rawWrite64_fcsr (s : State) (i : FprNo) (v : BitVec 64) : (s.rawWrite64 i v).fcsr = s.fcsr :=
  by simp [State.rawWrite64]
@[simp] theorem rawWrite64_status (s : State) (i : FprNo) (v : BitVec 64) : (s.rawWrite64 i v).status = s.status :=
  by simp [State.rawWrite64]
@[simp] theorem rawWrite64_excCode (s : State) (i : FprNo) (v : BitVec 64) : (s.rawWrite64 i v).excCode = s.excCode :=
  by simp [State.rawWrite64]
@[simp] theorem rawWrite64_ce (s : State) (i : FprNo) (v : BitVec 64) : (s.rawWrite64 i v).ce = s.ce :=
  by simp [State.rawWrite64]
@[simp] theorem rawWrite64_epc (s : State) (i : FprNo) (v : BitVec 64) : (s.rawWrite64 i v).epc = s.epc :=
  by simp [State.rawWrite64]
@[simp] theorem rawWrite64_badVAddr (s : State) (i : FprNo) (v : BitVec 64) :
    (s.rawWrite64 i v).badVAddr = s.badVAddr :=
  by simp [State.rawWrite64]
@[simp] theorem rawWrite64_configBE (s : State) (i : FprNo) (v : BitVec 64) :
    (s.rawWrite64 i v).configBE = s.configBE :=
  by simp [State.rawWrite64]
@[simp] theorem rawWrite64_accOb (s : State) (i : FprNo) (v : BitVec 64) : (s.rawWrite64 i v).accOb = s.accOb :=
  by simp [State.rawWrite64]
@[simp] theorem rawWrite64_accQh (s : State) (i : FprNo) (v : BitVec 64) : (s.rawWrite64 i v).accQh = s.accQh :=
  by simp [State.rawWrite64]
@[simp] theorem rawWrite64_mem (s : State) (i : FprNo) (v : BitVec 64) : (s.rawWrite64 i v).mem = s.mem :=
  by simp [State.rawWrite64]
@[simp] theorem rawWrite64_llBit (s : State) (i : FprNo) (v : BitVec 64) : (s.rawWrite64 i v).llBit = s.llBit :=
  by simp [State.rawWrite64]
@[simp] theorem rawWrite64_llAddr (s : State) (i : FprNo) (v : BitVec 64) : (s.rawWrite64 i v).llAddr = s.llAddr :=
  by simp [State.rawWrite64]
@[simp] theorem rawWrite64_pq (s : State) (i : FprNo) (v : BitVec 64) : (s.rawWrite64 i v).pq = s.pq :=
  by simp [State.rawWrite64]
@[simp] theorem rawWrite64_run (s : State) (i : FprNo) (v : BitVec 64) : (s.rawWrite64 i v).run = s.run :=
  by simp [State.rawWrite64]
@[simp] theorem rawWrite64_pins (s : State) (i : FprNo) (v : BitVec 64) : (s.rawWrite64 i v).pins = s.pins :=
  by simp [State.rawWrite64]
@[simp] theorem rawWrite64_pinQueue (s : State) (i : FprNo) (v : BitVec 64) :
    (s.rawWrite64 i v).pinQueue = s.pinQueue :=
  by simp [State.rawWrite64]

/-! ### `rawWrite32` -/

@[simp] theorem rawWrite32_cfg (s : State) (i : FprNo) (v : BitVec 32) : (s.rawWrite32 i v).cfg = s.cfg :=
  by simp [State.rawWrite32]
@[simp] theorem rawWrite32_gpr (s : State) (i : FprNo) (v : BitVec 32) : (s.rawWrite32 i v).gpr = s.gpr :=
  by simp [State.rawWrite32]
@[simp] theorem rawWrite32_pc (s : State) (i : FprNo) (v : BitVec 32) : (s.rawWrite32 i v).pc = s.pc :=
  by simp [State.rawWrite32]
@[simp] theorem rawWrite32_isaMode (s : State) (i : FprNo) (v : BitVec 32) : (s.rawWrite32 i v).isaMode = s.isaMode :=
  by simp [State.rawWrite32]
@[simp] theorem rawWrite32_fcsr (s : State) (i : FprNo) (v : BitVec 32) : (s.rawWrite32 i v).fcsr = s.fcsr :=
  by simp [State.rawWrite32]
@[simp] theorem rawWrite32_status (s : State) (i : FprNo) (v : BitVec 32) : (s.rawWrite32 i v).status = s.status :=
  by simp [State.rawWrite32]
@[simp] theorem rawWrite32_excCode (s : State) (i : FprNo) (v : BitVec 32) : (s.rawWrite32 i v).excCode = s.excCode :=
  by simp [State.rawWrite32]
@[simp] theorem rawWrite32_ce (s : State) (i : FprNo) (v : BitVec 32) : (s.rawWrite32 i v).ce = s.ce :=
  by simp [State.rawWrite32]
@[simp] theorem rawWrite32_epc (s : State) (i : FprNo) (v : BitVec 32) : (s.rawWrite32 i v).epc = s.epc :=
  by simp [State.rawWrite32]
@[simp] theorem rawWrite32_badVAddr (s : State) (i : FprNo) (v : BitVec 32) :
    (s.rawWrite32 i v).badVAddr = s.badVAddr :=
  by simp [State.rawWrite32]
@[simp] theorem rawWrite32_configBE (s : State) (i : FprNo) (v : BitVec 32) :
    (s.rawWrite32 i v).configBE = s.configBE :=
  by simp [State.rawWrite32]
@[simp] theorem rawWrite32_accOb (s : State) (i : FprNo) (v : BitVec 32) : (s.rawWrite32 i v).accOb = s.accOb :=
  by simp [State.rawWrite32]
@[simp] theorem rawWrite32_accQh (s : State) (i : FprNo) (v : BitVec 32) : (s.rawWrite32 i v).accQh = s.accQh :=
  by simp [State.rawWrite32]
@[simp] theorem rawWrite32_mem (s : State) (i : FprNo) (v : BitVec 32) : (s.rawWrite32 i v).mem = s.mem :=
  by simp [State.rawWrite32]
@[simp] theorem rawWrite32_llBit (s : State) (i : FprNo) (v : BitVec 32) : (s.rawWrite32 i v).llBit = s.llBit :=
  by simp [State.rawWrite32]
@[simp] theorem rawWrite32_llAddr (s : State) (i : FprNo) (v : BitVec 32) : (s.rawWrite32 i v).llAddr = s.llAddr :=
  by simp [State.rawWrite32]
@[simp] theorem rawWrite32_pq (s : State) (i : FprNo) (v : BitVec 32) : (s.rawWrite32 i v).pq = s.pq :=
  by simp [State.rawWrite32]
@[simp] theorem rawWrite32_run (s : State) (i : FprNo) (v : BitVec 32) : (s.rawWrite32 i v).run = s.run :=
  by simp [State.rawWrite32]
@[simp] theorem rawWrite32_pins (s : State) (i : FprNo) (v : BitVec 32) : (s.rawWrite32 i v).pins = s.pins :=
  by simp [State.rawWrite32]
@[simp] theorem rawWrite32_pinQueue (s : State) (i : FprNo) (v : BitVec 32) :
    (s.rawWrite32 i v).pinQueue = s.pinQueue :=
  by simp [State.rawWrite32]

/-! ### `setTags` -/

@[simp] theorem setTags_cfg (s : State) (l : List FprNo) (t : FmtTag) : (s.setTags l t).cfg = s.cfg :=
  by
  induction l generalizing s with
  | nil => rfl
  | cons r rs ih => simp [State.setTags, ih]
@[simp] theorem setTags_gpr (s : State) (l : List FprNo) (t : FmtTag) : (s.setTags l t).gpr = s.gpr :=
  by
  induction l generalizing s with
  | nil => rfl
  | cons r rs ih => simp [State.setTags, ih]
@[simp] theorem setTags_pc (s : State) (l : List FprNo) (t : FmtTag) : (s.setTags l t).pc = s.pc :=
  by
  induction l generalizing s with
  | nil => rfl
  | cons r rs ih => simp [State.setTags, ih]
@[simp] theorem setTags_isaMode (s : State) (l : List FprNo) (t : FmtTag) : (s.setTags l t).isaMode = s.isaMode :=
  by
  induction l generalizing s with
  | nil => rfl
  | cons r rs ih => simp [State.setTags, ih]
@[simp] theorem setTags_fgr (s : State) (l : List FprNo) (t : FmtTag) : (s.setTags l t).fgr = s.fgr :=
  by
  induction l generalizing s with
  | nil => rfl
  | cons r rs ih => simp [State.setTags, ih]
@[simp] theorem setTags_fcsr (s : State) (l : List FprNo) (t : FmtTag) : (s.setTags l t).fcsr = s.fcsr :=
  by
  induction l generalizing s with
  | nil => rfl
  | cons r rs ih => simp [State.setTags, ih]
@[simp] theorem setTags_status (s : State) (l : List FprNo) (t : FmtTag) : (s.setTags l t).status = s.status :=
  by
  induction l generalizing s with
  | nil => rfl
  | cons r rs ih => simp [State.setTags, ih]
@[simp] theorem setTags_excCode (s : State) (l : List FprNo) (t : FmtTag) : (s.setTags l t).excCode = s.excCode :=
  by
  induction l generalizing s with
  | nil => rfl
  | cons r rs ih => simp [State.setTags, ih]
@[simp] theorem setTags_ce (s : State) (l : List FprNo) (t : FmtTag) : (s.setTags l t).ce = s.ce :=
  by
  induction l generalizing s with
  | nil => rfl
  | cons r rs ih => simp [State.setTags, ih]
@[simp] theorem setTags_epc (s : State) (l : List FprNo) (t : FmtTag) : (s.setTags l t).epc = s.epc :=
  by
  induction l generalizing s with
  | nil => rfl
  | cons r rs ih => simp [State.setTags, ih]
@[simp] theorem setTags_badVAddr (s : State) (l : List FprNo) (t : FmtTag) : (s.setTags l t).badVAddr = s.badVAddr :=
  by
  induction l generalizing s with
  | nil => rfl
  | cons r rs ih => simp [State.setTags, ih]
@[simp] theorem setTags_configBE (s : State) (l : List FprNo) (t : FmtTag) : (s.setTags l t).configBE = s.configBE :=
  by
  induction l generalizing s with
  | nil => rfl
  | cons r rs ih => simp [State.setTags, ih]
@[simp] theorem setTags_accOb (s : State) (l : List FprNo) (t : FmtTag) : (s.setTags l t).accOb = s.accOb :=
  by
  induction l generalizing s with
  | nil => rfl
  | cons r rs ih => simp [State.setTags, ih]
@[simp] theorem setTags_accQh (s : State) (l : List FprNo) (t : FmtTag) : (s.setTags l t).accQh = s.accQh :=
  by
  induction l generalizing s with
  | nil => rfl
  | cons r rs ih => simp [State.setTags, ih]
@[simp] theorem setTags_mem (s : State) (l : List FprNo) (t : FmtTag) : (s.setTags l t).mem = s.mem :=
  by
  induction l generalizing s with
  | nil => rfl
  | cons r rs ih => simp [State.setTags, ih]
@[simp] theorem setTags_llBit (s : State) (l : List FprNo) (t : FmtTag) : (s.setTags l t).llBit = s.llBit :=
  by
  induction l generalizing s with
  | nil => rfl
  | cons r rs ih => simp [State.setTags, ih]
@[simp] theorem setTags_llAddr (s : State) (l : List FprNo) (t : FmtTag) : (s.setTags l t).llAddr = s.llAddr :=
  by
  induction l generalizing s with
  | nil => rfl
  | cons r rs ih => simp [State.setTags, ih]
@[simp] theorem setTags_pq (s : State) (l : List FprNo) (t : FmtTag) : (s.setTags l t).pq = s.pq :=
  by
  induction l generalizing s with
  | nil => rfl
  | cons r rs ih => simp [State.setTags, ih]
@[simp] theorem setTags_run (s : State) (l : List FprNo) (t : FmtTag) : (s.setTags l t).run = s.run :=
  by
  induction l generalizing s with
  | nil => rfl
  | cons r rs ih => simp [State.setTags, ih]
@[simp] theorem setTags_pins (s : State) (l : List FprNo) (t : FmtTag) : (s.setTags l t).pins = s.pins :=
  by
  induction l generalizing s with
  | nil => rfl
  | cons r rs ih => simp [State.setTags, ih]
@[simp] theorem setTags_pinQueue (s : State) (l : List FprNo) (t : FmtTag) : (s.setTags l t).pinQueue = s.pinQueue :=
  by
  induction l generalizing s with
  | nil => rfl
  | cons r rs ih => simp [State.setTags, ih]

/-! ### `retag` -/

@[simp] theorem retag_cfg (s : State) (i : FprNo) (f : Fmt) : (s.retag i f).cfg = s.cfg := by simp [State.retag]
@[simp] theorem retag_gpr (s : State) (i : FprNo) (f : Fmt) : (s.retag i f).gpr = s.gpr := by simp [State.retag]
@[simp] theorem retag_pc (s : State) (i : FprNo) (f : Fmt) : (s.retag i f).pc = s.pc := by simp [State.retag]
@[simp] theorem retag_isaMode (s : State) (i : FprNo) (f : Fmt) : (s.retag i f).isaMode = s.isaMode :=
  by simp [State.retag]
@[simp] theorem retag_fgr (s : State) (i : FprNo) (f : Fmt) : (s.retag i f).fgr = s.fgr := by simp [State.retag]
@[simp] theorem retag_fcsr (s : State) (i : FprNo) (f : Fmt) : (s.retag i f).fcsr = s.fcsr := by simp [State.retag]
@[simp] theorem retag_status (s : State) (i : FprNo) (f : Fmt) : (s.retag i f).status = s.status :=
  by simp [State.retag]
@[simp] theorem retag_excCode (s : State) (i : FprNo) (f : Fmt) : (s.retag i f).excCode = s.excCode :=
  by simp [State.retag]
@[simp] theorem retag_ce (s : State) (i : FprNo) (f : Fmt) : (s.retag i f).ce = s.ce := by simp [State.retag]
@[simp] theorem retag_epc (s : State) (i : FprNo) (f : Fmt) : (s.retag i f).epc = s.epc := by simp [State.retag]
@[simp] theorem retag_badVAddr (s : State) (i : FprNo) (f : Fmt) : (s.retag i f).badVAddr = s.badVAddr :=
  by simp [State.retag]
@[simp] theorem retag_configBE (s : State) (i : FprNo) (f : Fmt) : (s.retag i f).configBE = s.configBE :=
  by simp [State.retag]
@[simp] theorem retag_accOb (s : State) (i : FprNo) (f : Fmt) : (s.retag i f).accOb = s.accOb := by simp [State.retag]
@[simp] theorem retag_accQh (s : State) (i : FprNo) (f : Fmt) : (s.retag i f).accQh = s.accQh := by simp [State.retag]
@[simp] theorem retag_mem (s : State) (i : FprNo) (f : Fmt) : (s.retag i f).mem = s.mem := by simp [State.retag]
@[simp] theorem retag_llBit (s : State) (i : FprNo) (f : Fmt) : (s.retag i f).llBit = s.llBit := by simp [State.retag]
@[simp] theorem retag_llAddr (s : State) (i : FprNo) (f : Fmt) : (s.retag i f).llAddr = s.llAddr :=
  by simp [State.retag]
@[simp] theorem retag_pq (s : State) (i : FprNo) (f : Fmt) : (s.retag i f).pq = s.pq := by simp [State.retag]
@[simp] theorem retag_run (s : State) (i : FprNo) (f : Fmt) : (s.retag i f).run = s.run := by simp [State.retag]
@[simp] theorem retag_pins (s : State) (i : FprNo) (f : Fmt) : (s.retag i f).pins = s.pins := by simp [State.retag]
@[simp] theorem retag_pinQueue (s : State) (i : FprNo) (f : Fmt) : (s.retag i f).pinQueue = s.pinQueue :=
  by simp [State.retag]

/-! ### `storeBytes` -/

@[simp] theorem storeBytes_cfg (s : State) (a : Word) (bs : List Byte) : (s.storeBytes a bs).cfg = s.cfg :=
  by
  induction bs generalizing s a with
  | nil => rfl
  | cons b bs ih => simp [State.storeBytes, ih]
@[simp] theorem storeBytes_gpr (s : State) (a : Word) (bs : List Byte) : (s.storeBytes a bs).gpr = s.gpr :=
  by
  induction bs generalizing s a with
  | nil => rfl
  | cons b bs ih => simp [State.storeBytes, ih]
@[simp] theorem storeBytes_pc (s : State) (a : Word) (bs : List Byte) : (s.storeBytes a bs).pc = s.pc :=
  by
  induction bs generalizing s a with
  | nil => rfl
  | cons b bs ih => simp [State.storeBytes, ih]
@[simp] theorem storeBytes_isaMode (s : State) (a : Word) (bs : List Byte) :
    (s.storeBytes a bs).isaMode = s.isaMode :=
  by
  induction bs generalizing s a with
  | nil => rfl
  | cons b bs ih => simp [State.storeBytes, ih]
@[simp] theorem storeBytes_fgr (s : State) (a : Word) (bs : List Byte) : (s.storeBytes a bs).fgr = s.fgr :=
  by
  induction bs generalizing s a with
  | nil => rfl
  | cons b bs ih => simp [State.storeBytes, ih]
@[simp] theorem storeBytes_tag (s : State) (a : Word) (bs : List Byte) : (s.storeBytes a bs).tag = s.tag :=
  by
  induction bs generalizing s a with
  | nil => rfl
  | cons b bs ih => simp [State.storeBytes, ih]
@[simp] theorem storeBytes_fcsr (s : State) (a : Word) (bs : List Byte) : (s.storeBytes a bs).fcsr = s.fcsr :=
  by
  induction bs generalizing s a with
  | nil => rfl
  | cons b bs ih => simp [State.storeBytes, ih]
@[simp] theorem storeBytes_status (s : State) (a : Word) (bs : List Byte) : (s.storeBytes a bs).status = s.status :=
  by
  induction bs generalizing s a with
  | nil => rfl
  | cons b bs ih => simp [State.storeBytes, ih]
@[simp] theorem storeBytes_excCode (s : State) (a : Word) (bs : List Byte) :
    (s.storeBytes a bs).excCode = s.excCode :=
  by
  induction bs generalizing s a with
  | nil => rfl
  | cons b bs ih => simp [State.storeBytes, ih]
@[simp] theorem storeBytes_ce (s : State) (a : Word) (bs : List Byte) : (s.storeBytes a bs).ce = s.ce :=
  by
  induction bs generalizing s a with
  | nil => rfl
  | cons b bs ih => simp [State.storeBytes, ih]
@[simp] theorem storeBytes_epc (s : State) (a : Word) (bs : List Byte) : (s.storeBytes a bs).epc = s.epc :=
  by
  induction bs generalizing s a with
  | nil => rfl
  | cons b bs ih => simp [State.storeBytes, ih]
@[simp] theorem storeBytes_badVAddr (s : State) (a : Word) (bs : List Byte) :
    (s.storeBytes a bs).badVAddr = s.badVAddr :=
  by
  induction bs generalizing s a with
  | nil => rfl
  | cons b bs ih => simp [State.storeBytes, ih]
@[simp] theorem storeBytes_configBE (s : State) (a : Word) (bs : List Byte) :
    (s.storeBytes a bs).configBE = s.configBE :=
  by
  induction bs generalizing s a with
  | nil => rfl
  | cons b bs ih => simp [State.storeBytes, ih]
@[simp] theorem storeBytes_accOb (s : State) (a : Word) (bs : List Byte) : (s.storeBytes a bs).accOb = s.accOb :=
  by
  induction bs generalizing s a with
  | nil => rfl
  | cons b bs ih => simp [State.storeBytes, ih]
@[simp] theorem storeBytes_accQh (s : State) (a : Word) (bs : List Byte) : (s.storeBytes a bs).accQh = s.accQh :=
  by
  induction bs generalizing s a with
  | nil => rfl
  | cons b bs ih => simp [State.storeBytes, ih]
@[simp] theorem storeBytes_llBit (s : State) (a : Word) (bs : List Byte) : (s.storeBytes a bs).llBit = s.llBit :=
  by
  induction bs generalizing s a with
  | nil => rfl
  | cons b bs ih => simp [State.storeBytes, ih]
@[simp] theorem storeBytes_llAddr (s : State) (a : Word) (bs : List Byte) : (s.storeBytes a bs).llAddr = s.llAddr :=
  by
  induction bs generalizing s a with
  | nil => rfl
  | cons b bs ih => simp [State.storeBytes, ih]
@[simp] theorem storeBytes_pq (s : State) (a : Word) (bs : List Byte) : (s.storeBytes a bs).pq = s.pq :=
  by
  induction bs generalizing s a with
  | nil => rfl
  | cons b bs ih => simp [State.storeBytes, ih]
@[simp] theorem storeBytes_run (s : State) (a : Word) (bs : List Byte) : (s.storeBytes a bs).run = s.run :=
  by
  induction bs generalizing s a with
  | nil => rfl
  | cons b bs ih => simp [State.storeBytes, ih]
@[simp] theorem storeBytes_pins (s : State) (a : Word) (bs : List Byte) : (s.storeBytes a bs).pins = s.pins :=
  by
  induction bs generalizing s a with
  | nil => rfl
  | cons b bs ih => simp [State.storeBytes, ih]
@[simp] theorem storeBytes_pinQueue (s : State) (a : Word) (bs : List Byte) :
    (s.storeBytes a bs).pinQueue = s.pinQueue :=
  by
  induction bs generalizing s a with
  | nil => rfl
  | cons b bs ih => simp [State.storeBytes, ih]

/-! ### `storeValue` -/

@[simp] theorem storeValue_cfg (s : State) {w : Nat} (pa : Word) (n : Nat) (v : BitVec w) :
    (storeValue s pa n v).cfg = s.cfg :=
  by simp [storeValue]
@[simp] theorem storeValue_gpr (s : State) {w : Nat} (pa : Word) (n : Nat) (v : BitVec w) :
    (storeValue s pa n v).gpr = s.gpr :=
  by simp [storeValue]
@[simp] theorem storeValue_pc (s : State) {w : Nat} (pa : Word) (n : Nat) (v : BitVec w) :
    (storeValue s pa n v).pc = s.pc :=
  by simp [storeValue]
@[simp] theorem storeValue_isaMode (s : State) {w : Nat} (pa : Word) (n : Nat) (v : BitVec w) :
    (storeValue s pa n v).isaMode = s.isaMode :=
  by simp [storeValue]
@[simp] theorem storeValue_fgr (s : State) {w : Nat} (pa : Word) (n : Nat) (v : BitVec w) :
    (storeValue s pa n v).fgr = s.fgr :=
  by simp [storeValue]
@[simp] theorem storeValue_tag (s : State) {w : Nat} (pa : Word) (n : Nat) (v : BitVec w) :
    (storeValue s pa n v).tag = s.tag :=
  by simp [storeValue]
@[simp] theorem storeValue_fcsr (s : State) {w : Nat} (pa : Word) (n : Nat) (v : BitVec w) :
    (storeValue s pa n v).fcsr = s.fcsr :=
  by simp [storeValue]
@[simp] theorem storeValue_status (s : State) {w : Nat} (pa : Word) (n : Nat) (v : BitVec w) :
    (storeValue s pa n v).status = s.status :=
  by simp [storeValue]
@[simp] theorem storeValue_excCode (s : State) {w : Nat} (pa : Word) (n : Nat) (v : BitVec w) :
    (storeValue s pa n v).excCode = s.excCode :=
  by simp [storeValue]
@[simp] theorem storeValue_ce (s : State) {w : Nat} (pa : Word) (n : Nat) (v : BitVec w) :
    (storeValue s pa n v).ce = s.ce :=
  by simp [storeValue]
@[simp] theorem storeValue_epc (s : State) {w : Nat} (pa : Word) (n : Nat) (v : BitVec w) :
    (storeValue s pa n v).epc = s.epc :=
  by simp [storeValue]
@[simp] theorem storeValue_badVAddr (s : State) {w : Nat} (pa : Word) (n : Nat) (v : BitVec w) :
    (storeValue s pa n v).badVAddr = s.badVAddr :=
  by simp [storeValue]
@[simp] theorem storeValue_configBE (s : State) {w : Nat} (pa : Word) (n : Nat) (v : BitVec w) :
    (storeValue s pa n v).configBE = s.configBE :=
  by simp [storeValue]
@[simp] theorem storeValue_accOb (s : State) {w : Nat} (pa : Word) (n : Nat) (v : BitVec w) :
    (storeValue s pa n v).accOb = s.accOb :=
  by simp [storeValue]
@[simp] theorem storeValue_accQh (s : State) {w : Nat} (pa : Word) (n : Nat) (v : BitVec w) :
    (storeValue s pa n v).accQh = s.accQh :=
  by simp [storeValue]
@[simp] theorem storeValue_llBit (s : State) {w : Nat} (pa : Word) (n : Nat) (v : BitVec w) :
    (storeValue s pa n v).llBit = s.llBit :=
  by simp [storeValue]
@[simp] theorem storeValue_llAddr (s : State) {w : Nat} (pa : Word) (n : Nat) (v : BitVec w) :
    (storeValue s pa n v).llAddr = s.llAddr :=
  by simp [storeValue]
@[simp] theorem storeValue_pq (s : State) {w : Nat} (pa : Word) (n : Nat) (v : BitVec w) :
    (storeValue s pa n v).pq = s.pq :=
  by simp [storeValue]
@[simp] theorem storeValue_run (s : State) {w : Nat} (pa : Word) (n : Nat) (v : BitVec w) :
    (storeValue s pa n v).run = s.run :=
  by simp [storeValue]
@[simp] theorem storeValue_pins (s : State) {w : Nat} (pa : Word) (n : Nat) (v : BitVec w) :
    (storeValue s pa n v).pins = s.pins :=
  by simp [storeValue]
@[simp] theorem storeValue_pinQueue (s : State) {w : Nat} (pa : Word) (n : Nat) (v : BitVec w) :
    (storeValue s pa n v).pinQueue = s.pinQueue :=
  by simp [storeValue]

/-! ### `setFccs` -/

@[simp] theorem setFccs_cfg (s : State) {n : Nat} (f : Fin n → Bool) (is : List (Fin n)) :
    (s.setFccs f is).cfg = s.cfg :=
  by
  induction is generalizing s with
  | nil => rfl
  | cons i is ih => simp [State.setFccs, ih]
@[simp] theorem setFccs_gpr (s : State) {n : Nat} (f : Fin n → Bool) (is : List (Fin n)) :
    (s.setFccs f is).gpr = s.gpr :=
  by
  induction is generalizing s with
  | nil => rfl
  | cons i is ih => simp [State.setFccs, ih]
@[simp] theorem setFccs_pc (s : State) {n : Nat} (f : Fin n → Bool) (is : List (Fin n)) :
    (s.setFccs f is).pc = s.pc :=
  by
  induction is generalizing s with
  | nil => rfl
  | cons i is ih => simp [State.setFccs, ih]
@[simp] theorem setFccs_isaMode (s : State) {n : Nat} (f : Fin n → Bool) (is : List (Fin n)) :
    (s.setFccs f is).isaMode = s.isaMode :=
  by
  induction is generalizing s with
  | nil => rfl
  | cons i is ih => simp [State.setFccs, ih]
@[simp] theorem setFccs_fgr (s : State) {n : Nat} (f : Fin n → Bool) (is : List (Fin n)) :
    (s.setFccs f is).fgr = s.fgr :=
  by
  induction is generalizing s with
  | nil => rfl
  | cons i is ih => simp [State.setFccs, ih]
@[simp] theorem setFccs_tag (s : State) {n : Nat} (f : Fin n → Bool) (is : List (Fin n)) :
    (s.setFccs f is).tag = s.tag :=
  by
  induction is generalizing s with
  | nil => rfl
  | cons i is ih => simp [State.setFccs, ih]
@[simp] theorem setFccs_status (s : State) {n : Nat} (f : Fin n → Bool) (is : List (Fin n)) :
    (s.setFccs f is).status = s.status :=
  by
  induction is generalizing s with
  | nil => rfl
  | cons i is ih => simp [State.setFccs, ih]
@[simp] theorem setFccs_excCode (s : State) {n : Nat} (f : Fin n → Bool) (is : List (Fin n)) :
    (s.setFccs f is).excCode = s.excCode :=
  by
  induction is generalizing s with
  | nil => rfl
  | cons i is ih => simp [State.setFccs, ih]
@[simp] theorem setFccs_ce (s : State) {n : Nat} (f : Fin n → Bool) (is : List (Fin n)) :
    (s.setFccs f is).ce = s.ce :=
  by
  induction is generalizing s with
  | nil => rfl
  | cons i is ih => simp [State.setFccs, ih]
@[simp] theorem setFccs_epc (s : State) {n : Nat} (f : Fin n → Bool) (is : List (Fin n)) :
    (s.setFccs f is).epc = s.epc :=
  by
  induction is generalizing s with
  | nil => rfl
  | cons i is ih => simp [State.setFccs, ih]
@[simp] theorem setFccs_badVAddr (s : State) {n : Nat} (f : Fin n → Bool) (is : List (Fin n)) :
    (s.setFccs f is).badVAddr = s.badVAddr :=
  by
  induction is generalizing s with
  | nil => rfl
  | cons i is ih => simp [State.setFccs, ih]
@[simp] theorem setFccs_configBE (s : State) {n : Nat} (f : Fin n → Bool) (is : List (Fin n)) :
    (s.setFccs f is).configBE = s.configBE :=
  by
  induction is generalizing s with
  | nil => rfl
  | cons i is ih => simp [State.setFccs, ih]
@[simp] theorem setFccs_accOb (s : State) {n : Nat} (f : Fin n → Bool) (is : List (Fin n)) :
    (s.setFccs f is).accOb = s.accOb :=
  by
  induction is generalizing s with
  | nil => rfl
  | cons i is ih => simp [State.setFccs, ih]
@[simp] theorem setFccs_accQh (s : State) {n : Nat} (f : Fin n → Bool) (is : List (Fin n)) :
    (s.setFccs f is).accQh = s.accQh :=
  by
  induction is generalizing s with
  | nil => rfl
  | cons i is ih => simp [State.setFccs, ih]
@[simp] theorem setFccs_mem (s : State) {n : Nat} (f : Fin n → Bool) (is : List (Fin n)) :
    (s.setFccs f is).mem = s.mem :=
  by
  induction is generalizing s with
  | nil => rfl
  | cons i is ih => simp [State.setFccs, ih]
@[simp] theorem setFccs_llBit (s : State) {n : Nat} (f : Fin n → Bool) (is : List (Fin n)) :
    (s.setFccs f is).llBit = s.llBit :=
  by
  induction is generalizing s with
  | nil => rfl
  | cons i is ih => simp [State.setFccs, ih]
@[simp] theorem setFccs_llAddr (s : State) {n : Nat} (f : Fin n → Bool) (is : List (Fin n)) :
    (s.setFccs f is).llAddr = s.llAddr :=
  by
  induction is generalizing s with
  | nil => rfl
  | cons i is ih => simp [State.setFccs, ih]
@[simp] theorem setFccs_pq (s : State) {n : Nat} (f : Fin n → Bool) (is : List (Fin n)) :
    (s.setFccs f is).pq = s.pq :=
  by
  induction is generalizing s with
  | nil => rfl
  | cons i is ih => simp [State.setFccs, ih]
@[simp] theorem setFccs_run (s : State) {n : Nat} (f : Fin n → Bool) (is : List (Fin n)) :
    (s.setFccs f is).run = s.run :=
  by
  induction is generalizing s with
  | nil => rfl
  | cons i is ih => simp [State.setFccs, ih]
@[simp] theorem setFccs_pins (s : State) {n : Nat} (f : Fin n → Bool) (is : List (Fin n)) :
    (s.setFccs f is).pins = s.pins :=
  by
  induction is generalizing s with
  | nil => rfl
  | cons i is ih => simp [State.setFccs, ih]
@[simp] theorem setFccs_pinQueue (s : State) {n : Nat} (f : Fin n → Bool) (is : List (Fin n)) :
    (s.setFccs f is).pinQueue = s.pinQueue :=
  by
  induction is generalizing s with
  | nil => rfl
  | cons i is ih => simp [State.setFccs, ih]

/-! ### `writeCp0` -/

@[simp] theorem writeCp0_cfg (s : State) (rd : BitVec 5) (v : Word) : (s.writeCp0 rd v).cfg = s.cfg :=
  by unfold State.writeCp0; split <;> rfl
@[simp] theorem writeCp0_gpr (s : State) (rd : BitVec 5) (v : Word) : (s.writeCp0 rd v).gpr = s.gpr :=
  by unfold State.writeCp0; split <;> rfl
@[simp] theorem writeCp0_pc (s : State) (rd : BitVec 5) (v : Word) : (s.writeCp0 rd v).pc = s.pc :=
  by unfold State.writeCp0; split <;> rfl
@[simp] theorem writeCp0_isaMode (s : State) (rd : BitVec 5) (v : Word) : (s.writeCp0 rd v).isaMode = s.isaMode :=
  by unfold State.writeCp0; split <;> rfl
@[simp] theorem writeCp0_fgr (s : State) (rd : BitVec 5) (v : Word) : (s.writeCp0 rd v).fgr = s.fgr :=
  by unfold State.writeCp0; split <;> rfl
@[simp] theorem writeCp0_tag (s : State) (rd : BitVec 5) (v : Word) : (s.writeCp0 rd v).tag = s.tag :=
  by unfold State.writeCp0; split <;> rfl
@[simp] theorem writeCp0_fcsr (s : State) (rd : BitVec 5) (v : Word) : (s.writeCp0 rd v).fcsr = s.fcsr :=
  by unfold State.writeCp0; split <;> rfl
@[simp] theorem writeCp0_excCode (s : State) (rd : BitVec 5) (v : Word) : (s.writeCp0 rd v).excCode = s.excCode :=
  by unfold State.writeCp0; split <;> rfl
@[simp] theorem writeCp0_ce (s : State) (rd : BitVec 5) (v : Word) : (s.writeCp0 rd v).ce = s.ce :=
  by unfold State.writeCp0; split <;> rfl
@[simp] theorem writeCp0_badVAddr (s : State) (rd : BitVec 5) (v : Word) : (s.writeCp0 rd v).badVAddr = s.badVAddr :=
  by unfold State.writeCp0; split <;> rfl
@[simp] theorem writeCp0_configBE (s : State) (rd : BitVec 5) (v : Word) : (s.writeCp0 rd v).configBE = s.configBE :=
  by unfold State.writeCp0; split <;> rfl
@[simp] theorem writeCp0_accOb (s : State) (rd : BitVec 5) (v : Word) : (s.writeCp0 rd v).accOb = s.accOb :=
  by unfold State.writeCp0; split <;> rfl
@[simp] theorem writeCp0_accQh (s : State) (rd : BitVec 5) (v : Word) : (s.writeCp0 rd v).accQh = s.accQh :=
  by unfold State.writeCp0; split <;> rfl
@[simp] theorem writeCp0_mem (s : State) (rd : BitVec 5) (v : Word) : (s.writeCp0 rd v).mem = s.mem :=
  by unfold State.writeCp0; split <;> rfl
@[simp] theorem writeCp0_llBit (s : State) (rd : BitVec 5) (v : Word) : (s.writeCp0 rd v).llBit = s.llBit :=
  by unfold State.writeCp0; split <;> rfl
@[simp] theorem writeCp0_llAddr (s : State) (rd : BitVec 5) (v : Word) : (s.writeCp0 rd v).llAddr = s.llAddr :=
  by unfold State.writeCp0; split <;> rfl
@[simp] theorem writeCp0_pq (s : State) (rd : BitVec 5) (v : Word) : (s.writeCp0 rd v).pq = s.pq :=
  by unfold State.writeCp0; split <;> rfl
@[simp] theorem writeCp0_run (s : State) (rd : BitVec 5) (v : Word) : (s.writeCp0 rd v).run = s.run :=
  by unfold State.writeCp0; split <;> rfl
@[simp] theorem writeCp0_pins (s : State) (rd : BitVec 5) (v : Word) : (s.writeCp0 rd v).pins = s.pins :=
  by unfold State.writeCp0; split <;> rfl
@[simp] theorem writeCp0_pinQueue (s : State) (rd : BitVec 5) (v : Word) : (s.writeCp0 rd v).pinQueue = s.pinQueue :=
  by unfold State.writeCp0; split <;> rfl

end Sys2Proof.Machine
end

