-- ==== Sys2Proof/Laws/Memory.lean ====
section
/-! SUPPORT. The laws of the memory image: a read after a write, the canonical form, and what the accesses of
20_memory.md do once and for all. -/

namespace Sys2Proof.Machine

/-! ### One byte of a list of cells -/

@[simp] theorem Memory.read_nil (a : Nat) : Memory.read [] a = 0#8 := rfl

theorem Memory.read_cons (k : Nat) (v : Byte) (m : Memory) (a : Nat) :
    Memory.read ((k, v) :: m) a = if k = a then v else Memory.read m a := rfl

theorem Memory.erase_cons (k : Nat) (v : Byte) (m : Memory) (a : Nat) :
    Memory.erase ((k, v) :: m) a = if k = a then Memory.erase m a else (k, v) :: Memory.erase m a := by
  by_cases h : k = a <;> simp [Memory.erase, h]

theorem Memory.read_erase (m : Memory) (a b : Nat) :
    Memory.read (Memory.erase m a) b = if b = a then 0#8 else Memory.read m b := by
  induction m with
  | nil => simp [Memory.erase]
  | cons c m ih =>
    obtain ⟨k, v⟩ := c
    rw [Memory.erase_cons]
    by_cases h : k = a
    · subst h
      rw [if_pos rfl, ih, Memory.read_cons]
      by_cases hb : b = k
      · simp [hb]
      · rw [if_neg hb, if_neg hb, if_neg (fun e => hb e.symm)]
    · rw [if_neg h, Memory.read_cons, Memory.read_cons, ih]
      by_cases hk : k = b
      · subst hk; simp [h]
      · simp [hk]

theorem Memory.read_place (m : Memory) (a : Nat) (v : Byte) (b : Nat) (hm : Memory.read m a = 0#8)
    (hfree : ∀ c ∈ m, c.1 ≠ a) :
    Memory.read (Memory.place m a v) b = if b = a then v else Memory.read m b := by
  induction m with
  | nil => simp only [Memory.place, Memory.read_cons, eq_comm (a := a)]
  | cons c m ih =>
    obtain ⟨k, w⟩ := c
    have hka : k ≠ a := hfree (k, w) (by simp)
    unfold Memory.place
    by_cases hlt : k < a
    · rw [if_pos hlt, Memory.read_cons, Memory.read_cons]
      rw [Memory.read_cons, if_neg hka] at hm
      rw [ih hm (fun c hc => hfree c (by simp [hc]))]
      by_cases hk : k = b
      · subst hk; simp [hka]
      · simp [hk]
    · rw [if_neg hlt, Memory.read_cons]
      by_cases hb : b = a
      · subst hb; simp
      · rw [if_neg hb, if_neg (fun e => hb e.symm)]

theorem Memory.erase_free (m : Memory) (a : Nat) : ∀ c ∈ Memory.erase m a, c.1 ≠ a := by
  intro c hc
  simp only [Memory.erase, List.mem_filter] at hc
  simpa using hc.2

/-- A read after a write: the byte written there, every other byte as before. It holds of every list of cells. -/
theorem Memory.read_write (m : Memory) (a : Nat) (v : Byte) (b : Nat) :
    Memory.read (Memory.write m a v) b = if b = a then v else Memory.read m b := by
  unfold Memory.write
  dsimp only
  by_cases hv : v = 0#8
  · subst hv; simp [Memory.read_erase]
  · rw [if_neg hv, Memory.read_place _ _ _ _ (by simp [Memory.read_erase]) (Memory.erase_free m a),
      Memory.read_erase]
    by_cases hb : b = a <;> simp [hb]

/-! ### The canonical form -/

theorem Memory.wfFrom_cons (lo k : Nat) (v : Byte) (m : Memory) :
    Memory.wfFrom lo ((k, v) :: m) = true ↔ lo ≤ k ∧ k < 2 ^ 64 ∧ v ≠ 0#8 ∧ Memory.wfFrom (k + 1) m = true := by
  simp only [Memory.wfFrom, Bool.and_eq_true, decide_eq_true_eq, bne_iff_ne, and_assoc]

theorem Memory.wfFrom_mono (lo lo' : Nat) (m : Memory) (h : lo' ≤ lo) (hm : Memory.wfFrom lo m = true) :
    Memory.wfFrom lo' m = true := by
  cases m with
  | nil => rfl
  | cons c m =>
    obtain ⟨k, v⟩ := c
    rw [Memory.wfFrom_cons] at hm ⊢
    exact ⟨by omega, hm.2⟩

theorem Memory.wfFrom_erase (m : Memory) (a lo : Nat) (h : Memory.wfFrom lo m = true) :
    Memory.wfFrom lo (Memory.erase m a) = true := by
  induction m generalizing lo with
  | nil => rfl
  | cons c m ih =>
    obtain ⟨k, v⟩ := c
    rw [Memory.wfFrom_cons] at h
    rw [Memory.erase_cons]
    by_cases hk : k = a
    · rw [if_pos hk]
      exact Memory.wfFrom_mono (k + 1) lo _ (by omega) (ih _ h.2.2.2)
    · rw [if_neg hk, Memory.wfFrom_cons]
      exact ⟨h.1, h.2.1, h.2.2.1, ih _ h.2.2.2⟩

theorem Memory.wfFrom_place (m : Memory) (a lo : Nat) (v : Byte) (h : Memory.wfFrom lo m = true) (hlo : lo ≤ a)
    (ha : a < 2 ^ 64) (hv : v ≠ 0#8) (hfree : ∀ c ∈ m, c.1 ≠ a) :
    Memory.wfFrom lo (Memory.place m a v) = true := by
  induction m generalizing lo with
  | nil => rw [Memory.place, Memory.wfFrom_cons]; exact ⟨hlo, ha, hv, rfl⟩
  | cons c m ih =>
    obtain ⟨k, w⟩ := c
    have hka : k ≠ a := hfree (k, w) (by simp)
    rw [Memory.wfFrom_cons] at h
    unfold Memory.place
    by_cases hlt : k < a
    · rw [if_pos hlt, Memory.wfFrom_cons]
      exact ⟨h.1, h.2.1, h.2.2.1, ih _ h.2.2.2 (by omega) (fun c hc => hfree c (by simp [hc]))⟩
    · rw [if_neg hlt, Memory.wfFrom_cons, Memory.wfFrom_cons]
      exact ⟨hlo, ha, hv, by omega, h.2⟩

/-- A write keeps the canonical form. -/
theorem Memory.wf_write (m : Memory) (a : Nat) (v : Byte) (ha : a < 2 ^ 64) (h : Memory.wf m = true) :
    Memory.wf (Memory.write m a v) = true := by
  unfold Memory.write
  dsimp only
  by_cases hv : v = 0#8
  · rw [if_pos hv]; exact Memory.wfFrom_erase m a 0 h
  · rw [if_neg hv]
    exact Memory.wfFrom_place _ a 0 v (Memory.wfFrom_erase m a 0 h) (Nat.zero_le a) ha hv (Memory.erase_free m a)

/-- The memory after reset is canonical. -/
theorem Memory.wf_reset (c : Config) : Memory.wf (State.resetWith c).mem = true := rfl

/-! ### The bytes of a state -/

@[simp] theorem State.byteAt_eq_of_mem (s t : State) (a : Word) (h : t.mem = s.mem) : t.byteAt a = s.byteAt a := by
  simp [State.byteAt, h]

theorem State.byteAt_setByte (s : State) (a b : Word) (v : Byte) :
    (s.setByte a v).byteAt b = if b = a then v else s.byteAt b := by
  simp only [State.byteAt, State.setByte, Memory.read_write, BitVec.toNat_inj]

theorem State.wf_setByte (s : State) (a : Word) (v : Byte) (h : Memory.wf s.mem = true) :
    Memory.wf (s.setByte a v).mem = true := Memory.wf_write s.mem a.toNat v a.isLt h

/-- Storing bytes keeps the canonical form. -/
theorem State.wf_storeBytes (s : State) (a : Word) (bs : List Byte) (h : Memory.wf s.mem = true) :
    Memory.wf (s.storeBytes a bs).mem = true := by
  induction bs generalizing s a with
  | nil => exact h
  | cons b bs ih => exact ih _ _ (State.wf_setByte s a b h)

/-- What storing bytes does to each byte of memory: the byte of the list at its distance, or as before. -/
theorem State.byteAt_storeBytes (s : State) (a b : Word) (bs : List Byte) (hlen : bs.length ≤ 2 ^ 64) :
    (s.storeBytes a bs).byteAt b = (bs[(b - a).toNat]?).getD (s.byteAt b) := by
  induction bs generalizing s a with
  | nil => simp [State.storeBytes]
  | cons v bs ih =>
    simp only [List.length_cons] at hlen
    rw [State.storeBytes, ih _ _ (by omega), State.byteAt_setByte]
    by_cases hb : b = a
    · subst hb
      have h1 : (b - (b + 1#64)).toNat = 2 ^ 64 - 1 := by
        bv_omega
      rw [h1, List.getElem?_eq_none (by omega)]
      simp
    · have h1 : (b - a).toNat = (b - (a + 1#64)).toNat + 1 := by bv_omega
      rw [h1, List.getElem?_cons_succ, if_neg hb]

/-- The bytes from an address on, one by one. -/
theorem State.bytesFrom_getElem? (s : State) (a : Word) (n j : Nat) :
    (s.bytesFrom a n)[j]? = if j < n then some (s.byteAt (a + BitVec.ofNat 64 j)) else none := by
  induction n generalizing a j with
  | zero => simp [State.bytesFrom]
  | succ n ih =>
    cases j with
    | zero => simp [State.bytesFrom]
    | succ j =>
      rw [State.bytesFrom, List.getElem?_cons_succ, ih]
      have : a + 1#64 + BitVec.ofNat 64 j = a + BitVec.ofNat 64 (j + 1) := by bv_omega
      simp [this]

@[simp] theorem State.bytesFrom_length (s : State) (a : Word) (n : Nat) : (s.bytesFrom a n).length = n := by
  induction n generalizing a with
  | zero => rfl
  | succ n ih => simp [State.bytesFrom, ih]

@[simp] theorem splitBytes_length {w : Nat} (v : BitVec w) (n : Nat) : (splitBytes v n).length = n := by
  induction n generalizing v with
  | zero => rfl
  | succ n ih => simp [splitBytes, ih]

/-- The bytes of a value, least significant first. -/
theorem splitBytes_getElem? {w : Nat} (v : BitVec w) (n j : Nat) :
    (splitBytes v n)[j]? = if j < n then some (v.extractLsb' (8 * j) 8) else none := by
  induction n generalizing v j with
  | zero => simp [splitBytes]
  | succ n ih =>
    cases j with
    | zero =>
      simp only [splitBytes, List.getElem?_cons_zero, Nat.zero_lt_succ, if_true, Nat.mul_zero, Option.some.injEq]
      ext k hk
      simp [BitVec.getElem_setWidth, BitVec.getElem_extractLsb']
    | succ j =>
      rw [splitBytes, List.getElem?_cons_succ, ih]
      simp only [Nat.succ_lt_succ_iff]
      congr 2
      ext k hk
      simp only [BitVec.getElem_extractLsb', BitVec.getLsbD_ushiftRight]
      congr 1; omega

@[simp] theorem bytesOfValue_length {w : Nat} (be : Bool) (n : Nat) (v : BitVec w) :
    (bytesOfValue be n v).length = n := by
  unfold bytesOfValue; split <;> simp

/-- Where the byte at offset `j` of an access of `n` bytes comes from in the value: counted in bytes from its low
end. -/
def byteIndex (be : Bool) (n j : Nat) : Nat := if be then n - 1 - j else j

/-- The bytes of a value in a byte order, one by one. -/
theorem bytesOfValue_getElem? {w : Nat} (be : Bool) (n : Nat) (v : BitVec w) (j : Nat) :
    (bytesOfValue be n v)[j]? = if j < n then some (v.extractLsb' (8 * byteIndex be n j) 8) else none := by
  unfold bytesOfValue byteIndex
  by_cases hj : j < n
  · cases be
    · simp only [Bool.false_eq_true, if_false, if_pos hj, splitBytes_getElem?]
    · simp only [if_true]
      rw [List.getElem?_reverse (by simpa using hj), splitBytes_length, splitBytes_getElem?, if_pos (by omega),
        if_pos hj]
  · rw [if_neg hj, List.getElem?_eq_none]
    split <;> simp <;> omega

/-- `joinBytes`, as a number. -/
theorem joinBytes_toNat (w : Nat) (bs : List Byte) (acc : BitVec w) :
    (joinBytes w acc bs).toNat = (bs.foldl (fun x b => x * 256 + b.toNat) acc.toNat) % 2 ^ w := by
  induction bs generalizing acc with
  | nil => simp [joinBytes, Nat.mod_eq_of_lt acc.isLt]
  | cons b bs ih =>
    rw [joinBytes, ih, List.foldl_cons]
    have hor : ((acc <<< 8) ||| b.setWidth w).toNat = (acc.toNat * 256 + b.toNat) % 2 ^ w := by
      have hadd : (acc <<< 8) ||| b.setWidth w = (acc <<< 8) + b.setWidth w := by
        rw [BitVec.add_eq_or_of_and_eq_zero]
        ext k hk
        simp only [BitVec.getElem_and, BitVec.getElem_shiftLeft, BitVec.getElem_setWidth, BitVec.getElem_zero]
        by_cases h8 : k < 8
        · simp [h8]
        · simp [BitVec.getLsbD_of_ge b k (by omega)]
      rw [hadd, BitVec.toNat_add, BitVec.toNat_shiftLeft, BitVec.toNat_setWidth, Nat.shiftLeft_eq]
      simp [Nat.add_mod]
    rw [hor]
    have key : ∀ (l : List Byte) (x y : Nat), x % 2 ^ w = y % 2 ^ w →
        (l.foldl (fun x b => x * 256 + b.toNat) x) % 2 ^ w = (l.foldl (fun x b => x * 256 + b.toNat) y) % 2 ^ w := by
      intro l
      induction l with
      | nil => intro x y h; simpa using h
      | cons c l ihl =>
        intro x y h
        apply ihl
        have h1 : x * 256 % 2 ^ w = y * 256 % 2 ^ w := by rw [Nat.mul_mod, h, ← Nat.mul_mod]
        rw [Nat.add_mod, h1, ← Nat.add_mod]
    exact key bs _ _ (Nat.mod_mod _ _)

/-! ### The accesses -/

/-- What `MemWrite` can do (R85). -/
theorem memWrite_cases (s : State) (va : Word) (n : Nat) (v : Word) :
    (insideDoubleword va n = true ∧
      memWrite s va n v = .ok (clearLinkIfAliased (s.storeBytes va (bytesOfValue (s.bigEndianCPU false) n v)) va n)) ∨
    (insideDoubleword va n = false ∧ memWrite s va n v = .error (.adES va)) := by
  unfold memWrite translate storeValue
  cases h : insideDoubleword va n <;> simp [h]

/-- What `MemRead` can do (R84). -/
theorem memRead_cases (s : State) (va : Word) (n : Nat) :
    (insideDoubleword va n = true ∧
      memRead s va n = .ok (valueOfBytes 64 (s.bigEndianCPU false) (s.bytesFrom va n))) ∨
    (insideDoubleword va n = false ∧ memRead s va n = .error (.adEL va)) := by
  unfold memRead translate
  cases h : insideDoubleword va n <;> simp [h]

/-- A store keeps the canonical form. -/
theorem memWrite_wf (s t : State) (va : Word) (n : Nat) (v : Word) (h : Memory.wf s.mem = true)
    (hw : memWrite s va n v = .ok t) : Memory.wf t.mem = true := by
  rcases memWrite_cases s va n v with ⟨_, e⟩ | ⟨_, e⟩ <;> rw [e] at hw <;> cases hw
  simpa using State.wf_storeBytes s va _ h

/-- A 16-byte store keeps the canonical form. -/
theorem memWrite16_wf (s t : State) (va : Word) (v : BitVec 128) (h : Memory.wf s.mem = true)
    (hw : memWrite16 s va v = .ok t) : Memory.wf t.mem = true := by
  unfold memWrite16 at hw
  dsimp only at hw
  split at hw <;> cases hw
  exact State.wf_storeBytes s va _ h

/-- A store through the byte-lane multiplexer keeps the canonical form. -/
theorem laneStore_wf (s : State) (pa : Word) (n : Nat) (v : BitVec 64) (h : Memory.wf s.mem = true) :
    Memory.wf (laneStore s pa n v).mem = true := State.wf_storeBytes s _ _ h

/-- The two transfers of a 16-byte store, one after the other (R86). -/
theorem laneStore16_eq (s : State) (pa : Word) (v : BitVec 128) :
    laneStore16 s pa v =
      if s.bigEndianCPU false then
        laneStore (laneStore s pa 8 (v.extractLsb' 64 64)) (pa + 8#64) 8 (v.extractLsb' 0 64)
      else laneStore (laneStore s pa 8 (v.extractLsb' 0 64)) (pa + 8#64) 8 (v.extractLsb' 64 64) := by
  unfold laneStore16 laneTransfers16
  cases s.bigEndianCPU false <;> rfl

/-- They keep the canonical form. -/
theorem laneStore16_wf (s : State) (pa : Word) (v : BitVec 128) (h : Memory.wf s.mem = true) :
    Memory.wf (laneStore16 s pa v).mem = true := by
  rw [laneStore16_eq]
  split <;> exact laneStore_wf _ _ _ _ (laneStore_wf _ _ _ _ h)

/-- A store changes only memory and, where it may alias, `LLbit`. -/
theorem memWrite_frame (s t : State) (va : Word) (n : Nat) (v : Word) (hw : memWrite s va n v = .ok t) :
    t = { s with mem := t.mem, llBit := s.llBit && !mayAlias s.cfg s.llAddr va n } := by
  have key : ∀ (bs : List Byte) (a : Word), s.storeBytes a bs = { s with mem := (s.storeBytes a bs).mem } := by
    intro bs
    clear hw
    induction bs generalizing s with
    | nil => intro a; rfl
    | cons b bs ih => intro a; rw [State.storeBytes, ih]; rfl
  rcases memWrite_cases s va n v with ⟨_, e⟩ | ⟨_, e⟩ <;> rw [e] at hw <;> cases hw
  rw [key]; rfl

/-- The bytes after a store, each of them. -/
theorem memWrite_byteAt (s t : State) (va : Word) (n : Nat) (v : Word) (hw : memWrite s va n v = .ok t) (b : Word) :
    t.byteAt b = if (b - va).toNat < n then
      v.extractLsb' (8 * byteIndex (s.bigEndianCPU false) n (b - va).toNat) 8 else s.byteAt b := by
  rcases memWrite_cases s va n v with ⟨hin, e⟩ | ⟨_, e⟩ <;> rw [e] at hw <;> cases hw
  have hn : n ≤ 8 := by simp [insideDoubleword] at hin; omega
  have h1 : (clearLinkIfAliased (s.storeBytes va (bytesOfValue (s.bigEndianCPU false) n v)) va n).byteAt b =
      (s.storeBytes va (bytesOfValue (s.bigEndianCPU false) n v)).byteAt b := by simp [State.byteAt]
  rw [h1, State.byteAt_storeBytes _ _ _ _ (by simp; omega), bytesOfValue_getElem?]
  split <;> rfl

end Sys2Proof.Machine
end

