-- ==== Sys2Proof/Laws/Registers.lean ====
section
/-! SUPPORT. The laws of the register files: what a write makes of every later read. -/

namespace Sys2Proof.Machine

/-! ### General registers -/

@[simp] theorem State.readGpr_zero (s : State) : s.readGpr 0#5 = 0#64 := rfl

@[simp] theorem State.writeGpr_zero (s : State) (v : Word) : s.writeGpr 0#5 v = s := rfl

/-- Everything a write of a general register does to a read of one (R21). -/
theorem State.readGpr_writeGpr (s : State) (i j : GprNo) (v : Word) :
    (s.writeGpr i v).readGpr j = if j = i ∧ i ≠ 0#5 then v else s.readGpr j := by
  by_cases hi : i = 0#5
  · simp [hi]
  · by_cases hj : j = 0#5
    · subst hj
      have hne : ¬ (0#5 = i) := fun e => hi e.symm
      simp [hne]
    · have key : (s.gpr.set i.toNat v i.isLt).get j.toFin = if j = i then v else s.gpr.get j.toFin := by
        change (s.gpr.set i.toNat v i.isLt)[j.toNat]'j.isLt = if j = i then v else s.gpr[j.toNat]'j.isLt
        by_cases e : j = i
        · subst e; simp
        · have hne : ¬ (i.toNat = j.toNat) := fun h => e (BitVec.eq_of_toNat_eq h).symm
          simp [e, hne]
      simp [State.readGpr, State.writeGpr, hi, hj, key]

/-- A read of a general register sees only the file. -/
theorem State.readGpr_eq_of_gpr (s t : State) (i : GprNo) (h : t.gpr = s.gpr) : t.readGpr i = s.readGpr i := by
  simp [State.readGpr, h]

@[simp] theorem State.readGpr_setPc (s : State) (v : Word) (i : GprNo) : (s.setPc v).readGpr i = s.readGpr i := rfl

@[simp] theorem State.readGpr_advance (s : State) (i : GprNo) : s.advance.readGpr i = s.readGpr i := rfl

/-! ### Floating-point registers -/

/-- A raw write of 64 bits and any read of an FGR. -/
theorem State.fgrAt_setFgr (s : State) (i j : FprNo) (v : Word) :
    (s.setFgr i v).fgrAt j = if j = i then v else s.fgrAt j := by
  change (s.fgr.set i.toNat v i.isLt)[j.toNat]'j.isLt = if j = i then v else s.fgr[j.toNat]'j.isLt
  by_cases e : j = i
  · subst e; simp
  · have hne : ¬ (i.toNat = j.toNat) := fun h => e (BitVec.eq_of_toNat_eq h).symm
    simp [e, hne]

/-- A write of a tag and any read of one. -/
theorem State.tagAt_setTag (s : State) (i j : FprNo) (t : FmtTag) :
    (s.setTag i t).tagAt j = if j = i then t else s.tagAt j := by
  change (s.tag.set i.toNat t i.isLt)[j.toNat]'j.isLt = if j = i then t else s.tag[j.toNat]'j.isLt
  by_cases e : j = i
  · subst e; simp
  · have hne : ¬ (i.toNat = j.toNat) := fun h => e (BitVec.eq_of_toNat_eq h).symm
    simp [e, hne]

@[simp] theorem State.fgrAt_setTag (s : State) (i j : FprNo) (t : FmtTag) : (s.setTag i t).fgrAt j = s.fgrAt j := rfl

@[simp] theorem State.tagAt_setFgr (s : State) (i j : FprNo) (v : Word) : (s.setFgr i v).tagAt j = s.tagAt j := rfl

/-- A 32-bit write and any read: the low half of its register, the upper half unchanged (R32). -/
theorem State.fgrAt_put32 (s : State) (i j : FprNo) (v : BitVec 32) (t : FmtTag) :
    (s.put32 i v t).fgrAt j = if j = i then (s.fgrAt i).extractLsb' 32 32 ++ v else s.fgrAt j := by
  simp only [State.put32, State.setFgrLow, State.fgrAt_setTag, State.fgrAt_setFgr]

/-- A 32-bit write and any tag. -/
theorem State.tagAt_put32 (s : State) (i j : FprNo) (v : BitVec 32) (t : FmtTag) :
    (s.put32 i v t).tagAt j = if j = i then t else s.tagAt j := by
  simp only [State.put32, State.setFgrLow, State.tagAt_setTag, State.tagAt_setFgr]

/-- What a 64-bit write can be (R32). -/
theorem State.put64_cases (s : State) (i : FprNo) (v : BitVec 64) (t : FmtTag) :
    (s.fr = true ∧ s.put64 i v t = (s.setFgr i v).setTag i t) ∨
    (s.fr = false ∧ ∃ j, pairForWrite i = some j ∧
      s.put64 i v t = (s.put32 i (v.extractLsb' 0 32) t).put32 j (v.extractLsb' 32 32) t) ∨
    (s.fr = false ∧ pairForWrite i = none ∧ s.put64 i v t = s.put32 i (v.extractLsb' 0 32) t) := by
  unfold State.put64
  cases h : s.fr
  · cases hp : pairForWrite i <;> simp
  · simp

/-- The pair of a register whose doubleword an instruction may write with `FR` = 0. -/
theorem pairForWrite_even (i : FprNo) (h : i.toNat % 2 = 0) : pairForWrite i = some (i + 1#5) := by
  unfold pairForWrite
  rw [if_neg]
  intro e; subst e; simp at h

/-- A tag set over a list of registers. -/
theorem State.tagAt_setTags (s : State) (l : List FprNo) (t : FmtTag) (j : FprNo) :
    (s.setTags l t).tagAt j = if j ∈ l then t else s.tagAt j := by
  induction l generalizing s with
  | nil => simp [State.setTags]
  | cons r rs ih =>
    rw [State.setTags, ih, State.tagAt_setTag]
    by_cases h1 : j ∈ rs
    · simp [h1]
    · simp [h1]

/-- What `CheckFPR64` asks (R36). -/
theorem State.fpr64Ok_iff (s : State) (i : FprNo) : s.fpr64Ok i = true ↔ s.fr = true ∨ i.toNat % 2 = 0 := by
  unfold State.fpr64Ok
  rw [Bool.or_eq_true, beq_iff_eq]
  apply or_congr Iff.rfl
  constructor
  · intro h
    have := congrArg BitVec.toNat h
    simpa [BitVec.extractLsb'_toNat] using this
  · intro h
    apply BitVec.eq_of_toNat_eq
    simpa [BitVec.extractLsb'_toNat] using h

/-- What `FPEnter` can do (R295). -/
theorem State.fpEnter_cases (s : State) (regs : List FprNo) :
    (s.cu1 = false ∧ s.fpEnter regs = .error (.cpU 1#2)) ∨
    (s.cu1 = true ∧ (∃ r ∈ regs, s.fpr64Ok r = false) ∧ s.fpEnter regs = .error .ri) ∨
    (s.cu1 = true ∧ (∀ r ∈ regs, s.fpr64Ok r = true) ∧ s.fpEnter regs = .ok ()) := by
  unfold State.fpEnter
  cases h : s.cu1
  · simp
  · cases ha : regs.all s.fpr64Ok
    · right; left
      simp only [List.all_eq_false, Bool.not_eq_true] at ha
      exact ⟨rfl, ha, by simp⟩
    · right; right
      exact ⟨rfl, List.all_eq_true.mp ha, by simp⟩

/-- What `MDMXEnter` can do (R400). -/
theorem State.mdmxEnter_cases (s : State) :
    (s.cu1 = false ∧ s.mdmxEnter = .error (.cpU 1#2)) ∨ (s.cu1 = true ∧ s.fr = false ∧ s.mdmxEnter = .error .ri) ∨
    (s.cu1 = true ∧ s.fr = true ∧ s.mdmxEnter = .ok ()) := by
  unfold State.mdmxEnter
  cases h : s.cu1 <;> cases hf : s.fr <;> simp

/-- `FR` and `CU1` live in Status. -/
theorem State.fr_eq_of_status (s t : State) (h : t.status = s.status) : t.fr = s.fr := by simp [State.fr, h]

/-- With `FR` = 1 a raw 64-bit write writes the register whole. -/
theorem State.rawWrite64_fr (s : State) (i : FprNo) (v : Word) (h : s.fr = true) :
    s.rawWrite64 i v = (s.setFgr i v).setTag i .uninterpreted := by
  simp [State.rawWrite64, State.put64, h]

end Sys2Proof.Machine
end

