-- ==== Sys2Proof/Laws/Effects.lean ====
section
/-! SUPPORT. How an instruction ends, and what each shared operation of the integer unit, of the jumps, of the loads
and stores and of CP0 can do: one lemma an operation, so that no proof unfolds one. -/

namespace Sys2Proof.Machine

/-! ### Effects -/

@[simp] theorem Effect.commit_completes (s s0 : State) : (Effect.completes s).commit s0 = .next s := rfl

@[simp] theorem Effect.commit_raises (e : Exc) (s s0 : State) :
    (Effect.raises e s).commit s0 = .next (takeException e s) := rfl

@[simp] theorem Effect.commit_checkStops (s0 : State) :
    Effect.checkStops.commit s0 = .next { s0 with run := .checkStop } := rfl

@[simp] theorem Effect.completes_andThen (s : State) (f : State → Effect) : (Effect.completes s).andThen f = f s := rfl

@[simp] theorem Effect.raises_andThen (e : Exc) (s : State) (f : State → Effect) :
    (Effect.raises e s).andThen f = .raises e s := rfl

@[simp] theorem Effect.checkStops_andThen (f : State → Effect) : Effect.checkStops.andThen f = .checkStops := rfl

@[simp] theorem Effect.ofExcept_ok (s0 : State) {α : Type} (a : α) (f : α → Effect) :
    Effect.ofExcept s0 (.ok a) f = f a := rfl

@[simp] theorem Effect.ofExcept_error (s0 : State) {α : Type} (e : Exc) (f : α → Effect) :
    Effect.ofExcept s0 (.error e) f = .raises e s0 := rfl

/-- Every effect is a next state (R510, R530). -/
theorem Effect.commit_next (x : Effect) (s0 : State) : ∃ t, x.commit s0 = .next t := by
  cases x <;> exact ⟨_, rfl⟩

/-- How an effect came to its next state. -/
theorem Effect.commit_cases {x : Effect} {s0 t : State} (h : x.commit s0 = .next t) :
    x = .completes t ∨ (∃ e u, x = .raises e u ∧ t = takeException e u) ∨
    (x = .checkStops ∧ t = { s0 with run := .checkStop }) := by
  cases x with
  | completes s => exact .inl (by simpa using h)
  | raises e u => exact .inr (.inl ⟨e, u, rfl, by simpa using h.symm⟩)
  | checkStops => exact .inr (.inr ⟨rfl, by simpa using h.symm⟩)

/-- `EXL` after a trap entry (R510). -/
@[simp] theorem takeException_exl (e : Exc) (s : State) : (takeException e s).exl = true := by
  simp [State.exl, takeException]

/-- A trap entry ends in kernel mode (R525). -/
@[simp] theorem takeException_kernelMode (e : Exc) (s : State) : (takeException e s).kernelMode = true := by
  simp [State.kernelMode]

/-! ### Integer operations and jumps -/

/-- What a trapping addition or subtraction does (R160). -/
theorem trapOrWrite_commit (rd : GprNo) (v : Bool) (r : Word) (s : State) :
    (trapOrWrite rd v r s).commit s =
      .next (if v then takeException .ov s else (s.writeGpr rd r).advance) := by
  cases v <;> rfl

/-- What an instruction that writes a general register does (R22). -/
theorem writeAndAdvance_commit (rd : GprNo) (v : Word) (s s0 : State) :
    (writeAndAdvance rd v s).commit s0 = .next (s.writeGpr rd v).advance := rfl

/-- What a branch does (R220). -/
theorem branchIf_commit (taken : Bool) (imm : BitVec 16) (s s0 : State) :
    (branchIf taken imm s).commit s0 = .next (s.setPc (if taken then s.branchTarget imm else s.nextPc)) := by
  cases taken <;> rfl

/-- What a jump with a link does (R223, R225). -/
theorem jumpAndLink_commit (rd : GprNo) (target : Word) (s s0 : State) :
    (jumpAndLink rd target s).commit s0 = .next ((s.writeGpr rd s.nextPc).setPc target) := rfl

/-- What a branch on a condition code does (R372, R373). -/
theorem fpuBranchIf_commit (cc : BitVec 3) (wanted : Bool) (imm : BitVec 16) (s : State) :
    (fpuBranchIf cc wanted imm s).commit s = .next (if s.cu1 then
      s.setPc (if s.fcc cc == wanted then s.branchTarget imm else s.nextPc) else takeException (.cpU 1#2) s) := by
  unfold fpuBranchIf State.fpEnter
  cases h : s.cu1
  · rfl
  · simp [branchIf_commit]

/-! ### The queue -/

/-- What `Sched` can do (R57). -/
theorem State.sched_cases (s : State) (dest : PendDest) (v : BitVec 64) (bit : Option (BitVec 5)) :
    (s.pq.length < s.cfg.pendingCapacity ∧
      s.sched dest v bit = .completes { s with pq := s.pq ++ [{ dest, value := v, remaining := 1, bit }] }) ∨
    (s.cfg.pendingCapacity ≤ s.pq.length ∧ s.sched dest v bit = .checkStops) := by
  unfold State.sched
  by_cases h : s.pq.length < s.cfg.pendingCapacity
  · exact .inl ⟨h, if_pos h⟩
  · exact .inr ⟨by omega, if_neg h⟩

/-! ### Loads and stores -/

theorem alignedTo_iff (va : Word) (n : Nat) : alignedTo va n = true ↔ va.toNat % n = 0 := by simp [alignedTo]

/-- An access of 1, 2, 4 or 8 bytes on its own alignment stays in its doubleword (R77). -/
theorem insideDoubleword_of_aligned (va : Word) (n : Nat) (hn : n = 1 ∨ n = 2 ∨ n = 4 ∨ n = 8)
    (h : va.toNat % n = 0) : insideDoubleword va n = true := by
  unfold insideDoubleword
  apply decide_eq_true
  rcases hn with rfl | rfl | rfl | rfl <;> omega

/-- What an aligned load can do, up to its scheduling (R241). -/
theorem loadTo_cases (dest : PendDest) (n : Nat) (ext : LoadExt) (va : Word) (s : State)
    (hn : n = 1 ∨ n = 2 ∨ n = 4 ∨ n = 8) :
    (va.toNat % n = 0 ∧ loadTo dest n ext va s =
      s.sched dest (extendLoaded ext n (valueOfBytes 64 (s.bigEndianCPU false) (s.bytesFrom va n))) none) ∨
    (va.toNat % n ≠ 0 ∧ loadTo dest n ext va s = .raises (.adEL va) s) := by
  unfold loadTo
  by_cases h : va.toNat % n = 0
  · refine .inl ⟨h, ?_⟩
    rw [if_pos ((alignedTo_iff va n).2 h)]
    rcases memRead_cases s va n with ⟨_, e⟩ | ⟨hf, _⟩
    · rw [e]; rfl
    · rw [insideDoubleword_of_aligned va n hn h] at hf; cases hf
  · exact .inr ⟨h, if_neg (fun e => h ((alignedTo_iff va n).1 e))⟩

/-- What an aligned load into a general register can do (R241). -/
theorem loadGpr_cases {n : Nat} {ext : LoadExt} {rt base : GprNo} {imm : BitVec 16} {s t : State}
    (hn : n = 1 ∨ n = 2 ∨ n = 4 ∨ n = 8) (h : (loadGpr n ext rt base imm s).commit s = .next t) :
    let va := s.effectiveAddress base imm
    (va.toNat % n = 0 ∧ s.pq.length < s.cfg.pendingCapacity ∧
      t = s.scheduled (.gpr rt) (extendLoaded ext n (s.loaded va n))) ∨
    (va.toNat % n = 0 ∧ s.cfg.pendingCapacity ≤ s.pq.length ∧ t = { s with run := .checkStop }) ∨
    (va.toNat % n ≠ 0 ∧ t = takeException (.adEL va) s) := by
  dsimp only
  unfold loadGpr Effect.thenAdvance at h
  rcases loadTo_cases (.gpr rt) n ext (s.effectiveAddress base imm) s hn with ⟨ha, e⟩ | ⟨ha, e⟩
  · rw [e] at h
    rcases s.sched_cases (.gpr rt) (extendLoaded ext n (valueOfBytes 64 (s.bigEndianCPU false)
      (s.bytesFrom (s.effectiveAddress base imm) n))) none with ⟨hl, e'⟩ | ⟨hl, e'⟩ <;> rw [e'] at h
    · exact .inl ⟨ha, hl, (Host.Outcome.next.inj h).symm⟩
    · exact .inr (.inl ⟨ha, hl, by simpa using h.symm⟩)
  · rw [e] at h
    exact .inr (.inr ⟨ha, by simpa using h.symm⟩)

/-- What a linked load can do (R96, R253, R254). -/
theorem loadLinked_cases {n : Nat} {ext : LoadExt} {rt base : GprNo} {imm : BitVec 16} {s t : State}
    (hn : n = 1 ∨ n = 2 ∨ n = 4 ∨ n = 8) (h : (loadLinked n ext rt base imm s).commit s = .next t) :
    let va := s.effectiveAddress base imm
    (va.toNat % n = 0 ∧ s.pq.length < s.cfg.pendingCapacity ∧
      t = { s.scheduled (.gpr rt) (extendLoaded ext n (s.loaded va n)) with llBit := true, llAddr := va }) ∨
    (va.toNat % n = 0 ∧ s.cfg.pendingCapacity ≤ s.pq.length ∧ t = { s with run := .checkStop }) ∨
    (va.toNat % n ≠ 0 ∧ t = takeException (.adEL va) s) := by
  dsimp only
  unfold loadLinked at h
  dsimp only at h
  rcases loadTo_cases (.gpr rt) n ext (s.effectiveAddress base imm) s hn with ⟨ha, e⟩ | ⟨ha, e⟩
  · rw [e] at h
    rcases s.sched_cases (.gpr rt) (extendLoaded ext n (valueOfBytes 64 (s.bigEndianCPU false)
      (s.bytesFrom (s.effectiveAddress base imm) n))) none with ⟨hl, e'⟩ | ⟨hl, e'⟩ <;> rw [e'] at h
    · exact .inl ⟨ha, hl, (Host.Outcome.next.inj h).symm⟩
    · exact .inr (.inl ⟨ha, hl, by simpa using h.symm⟩)
  · rw [e] at h
    exact .inr (.inr ⟨ha, by simpa using h.symm⟩)

/-- What an aligned store can do (R241). -/
theorem storeAt_cases (n : Nat) (va v : Word) (s : State) (hn : n = 1 ∨ n = 2 ∨ n = 4 ∨ n = 8) :
    (va.toNat % n = 0 ∧ ∃ u, memWrite s va n v = .ok u ∧ storeAt n va v s = .completes u) ∨
    (va.toNat % n ≠ 0 ∧ storeAt n va v s = .raises (.adES va) s) := by
  unfold storeAt
  by_cases h : va.toNat % n = 0
  · refine .inl ⟨h, ?_⟩
    rw [if_pos ((alignedTo_iff va n).2 h)]
    rcases memWrite_cases s va n v with ⟨_, e⟩ | ⟨hf, _⟩
    · exact ⟨_, e, by rw [e]; rfl⟩
    · rw [insideDoubleword_of_aligned va n hn h] at hf; cases hf
  · exact .inr ⟨h, if_neg (fun e => h ((alignedTo_iff va n).1 e))⟩

/-- What an aligned store of a general register can do (R241). -/
theorem storeGpr_cases {n : Nat} {rt base : GprNo} {imm : BitVec 16} {s t : State}
    (hn : n = 1 ∨ n = 2 ∨ n = 4 ∨ n = 8) (h : (storeGpr n rt base imm s).commit s = .next t) :
    let va := s.effectiveAddress base imm
    (va.toNat % n = 0 ∧ ∃ u, memWrite s va n (s.readGpr rt) = .ok u ∧ t = u.advance) ∨
    (va.toNat % n ≠ 0 ∧ t = takeException (.adES va) s) := by
  dsimp only
  unfold storeGpr Effect.thenAdvance at h
  rcases storeAt_cases n (s.effectiveAddress base imm) (s.readGpr rt) s hn with ⟨ha, u, hw, e⟩ | ⟨ha, e⟩ <;>
    rw [e] at h
  · exact .inl ⟨ha, u, hw, by simpa using h.symm⟩
  · exact .inr ⟨ha, by simpa using h.symm⟩

/-- What a conditional store can do (R97, R99). -/
theorem storeConditional_cases {n : Nat} {rt base : GprNo} {imm : BitVec 16} {s t : State}
    (hn : n = 1 ∨ n = 2 ∨ n = 4 ∨ n = 8) (h : (storeConditional n rt base imm s).commit s = .next t) :
    let va := s.effectiveAddress base imm
    (va.toNat % n = 0 ∧ s.llBit = true ∧ ∃ u, memWrite s va n (s.readGpr rt) = .ok u ∧
      t = (({ u with llBit := false } : State).writeGpr rt 1#64).advance) ∨
    (va.toNat % n = 0 ∧ s.llBit = false ∧ t = (s.writeGpr rt 0#64).advance) ∨
    (va.toNat % n ≠ 0 ∧ t = takeException (.adES va) s) := by
  dsimp only
  unfold storeConditional at h
  dsimp only at h
  by_cases ha : (s.effectiveAddress base imm).toNat % n = 0
  · rw [if_pos ((alignedTo_iff _ n).2 ha)] at h
    cases hl : s.llBit
    · rw [if_neg (by simp [hl])] at h
      exact .inr (.inl ⟨ha, rfl, by simpa [writeAndAdvance] using h.symm⟩)
    · rw [if_pos hl] at h
      rcases memWrite_cases s (s.effectiveAddress base imm) n (s.readGpr rt) with ⟨_, e⟩ | ⟨hf, _⟩
      · rw [e] at h
        exact .inl ⟨ha, rfl, _, e, by simpa [writeAndAdvance] using h.symm⟩
      · rw [insideDoubleword_of_aligned _ n hn ha] at hf; cases hf
  · rw [if_neg (fun e => ha ((alignedTo_iff _ n).1 e))] at h
    exact .inr (.inr ⟨ha, by simpa using h.symm⟩)

/-! ### Merge accesses -/

/-- A merge access stays in its word or doubleword (R256). -/
theorem leftAccess_inside (w : Nat) (be : Bool) (va : Word) (hw : w = 4 ∨ w = 8) :
    insideDoubleword (leftAccess w be va).addr (leftAccess w be va).count = true ∧
    1 ≤ (leftAccess w be va).count ∧ (leftAccess w be va).count ≤ w := by
  unfold leftAccess mergeOffset insideDoubleword
  dsimp only
  rw [decide_eq_true_eq]
  rcases hw with rfl | rfl <;> cases be <;> simp only [if_true, Bool.false_eq_true, if_false] <;> bv_omega

theorem rightAccess_inside (w : Nat) (be : Bool) (va : Word) (hw : w = 4 ∨ w = 8) :
    insideDoubleword (rightAccess w be va).addr (rightAccess w be va).count = true ∧
    1 ≤ (rightAccess w be va).count ∧ (rightAccess w be va).count ≤ w := by
  have h := leftAccess_inside w (!be) va hw
  have e : rightAccess w be va = leftAccess w (!be) va := by cases be <;> rfl
  rwa [e]

/-- What a merge load of a word can do (R256-R258). -/
theorem mergeLoadWord_cases {a : MergeAccess} {merge : BitVec 32 → BitVec 32 → Nat → BitVec 32} {rt : GprNo}
    {s t : State} (ha : insideDoubleword a.addr a.count = true)
    (h : (mergeLoadWord a merge rt s).commit s = .next t) :
    (s.pq.length < s.cfg.pendingCapacity ∧
      t = s.scheduled (.gpr rt) (signExt32 (merge ((s.pendingOrCurrent rt).extractLsb' 0 32)
        ((s.loaded a.addr a.count).extractLsb' 0 32) a.count))) ∨
    (s.cfg.pendingCapacity ≤ s.pq.length ∧ t = { s with run := .checkStop }) := by
  unfold mergeLoadWord Effect.thenAdvance at h
  rcases memRead_cases s a.addr a.count with ⟨_, e⟩ | ⟨hf, _⟩
  · rw [e, Effect.ofExcept_ok] at h
    dsimp only at h
    rcases s.sched_cases (.gpr rt) (signExt32 (merge ((s.pendingOrCurrent rt).extractLsb' 0 32)
        ((valueOfBytes 64 (s.bigEndianCPU false) (s.bytesFrom a.addr a.count)).extractLsb' 0 32) a.count)) none with
      ⟨hl, e'⟩ | ⟨hl, e'⟩ <;> rw [e'] at h
    · exact .inl ⟨hl, (Host.Outcome.next.inj h).symm⟩
    · exact .inr ⟨hl, by simpa using h.symm⟩
  · rw [ha] at hf; cases hf

/-- What a merge load of a doubleword can do (R259, R260). -/
theorem mergeLoadDouble_cases {a : MergeAccess} {merge : Word → Word → Nat → Word} {rt : GprNo}
    {s t : State} (ha : insideDoubleword a.addr a.count = true)
    (h : (mergeLoadDouble a merge rt s).commit s = .next t) :
    (s.pq.length < s.cfg.pendingCapacity ∧
      t = s.scheduled (.gpr rt) (merge (s.pendingOrCurrent rt) (s.loaded a.addr a.count) a.count)) ∨
    (s.cfg.pendingCapacity ≤ s.pq.length ∧ t = { s with run := .checkStop }) := by
  unfold mergeLoadDouble Effect.thenAdvance at h
  rcases memRead_cases s a.addr a.count with ⟨_, e⟩ | ⟨hf, _⟩
  · rw [e, Effect.ofExcept_ok] at h
    rcases s.sched_cases (.gpr rt) (merge (s.pendingOrCurrent rt)
        (valueOfBytes 64 (s.bigEndianCPU false) (s.bytesFrom a.addr a.count)) a.count) none with
      ⟨hl, e'⟩ | ⟨hl, e'⟩ <;> rw [e'] at h
    · exact .inl ⟨hl, (Host.Outcome.next.inj h).symm⟩
    · exact .inr ⟨hl, by simpa using h.symm⟩
  · rw [ha] at hf; cases hf

/-- What a merge store does (R261-R264). -/
theorem mergeStore_cases {a : MergeAccess} {v : Word} {s t : State} (ha : insideDoubleword a.addr a.count = true)
    (h : (mergeStore a v s).commit s = .next t) : ∃ u, memWrite s a.addr a.count v = .ok u ∧ t = u.advance := by
  unfold mergeStore Effect.thenAdvance at h
  rcases memWrite_cases s a.addr a.count v with ⟨_, e⟩ | ⟨hf, _⟩
  · rw [e] at h
    exact ⟨_, e, by simpa using h.symm⟩
  · rw [ha] at hf; cases hf

/-! ### CP0 -/

/-- What a CP0 instruction does (R505). -/
theorem withCp0_eq (f : State → Effect) (s : State) :
    withCp0 f s = if s.cp0Usable then f s else .raises (.cpU 0#2) s := rfl

/-- What a move from CP0 can do (R484, R485). -/
theorem moveFromCp0_cases {rt : GprNo} {rd : BitVec 5} {f : Word → Word} {s t : State}
    (h : (moveFromCp0 rt rd f s).commit s = .next t) :
    (s.cp0Usable = false ∧ t = takeException (.cpU 0#2) s) ∨
    (s.cp0Usable = true ∧ s.readCp0 rd = none ∧ t = takeException .ri s) ∨
    (s.cp0Usable = true ∧ ∃ v, s.readCp0 rd = some v ∧ t = (s.writeGpr rt (f v)).advance) := by
  unfold moveFromCp0 at h
  rw [withCp0_eq] at h
  cases hc : s.cp0Usable
  · rw [hc] at h; exact .inl ⟨rfl, by simpa using h.symm⟩
  · rw [hc] at h
    cases hr : s.readCp0 rd with
    | none => exact .inr (.inl ⟨rfl, rfl, by simpa [hr] using h.symm⟩)
    | some v => exact .inr (.inr ⟨rfl, v, rfl, by simpa [hr, writeAndAdvance] using h.symm⟩)

/-- What a move to CP0 can do (R486, R487). -/
theorem moveToCp0_cases {rd : BitVec 5} {v : Word} {s t : State} (h : (moveToCp0 rd v s).commit s = .next t) :
    (s.cp0Usable = false ∧ t = takeException (.cpU 0#2) s) ∨
    (s.cp0Usable = true ∧ s.readCp0 rd = none ∧ t = takeException .ri s) ∨
    (s.cp0Usable = true ∧ s.readCp0 rd ≠ none ∧ t = (s.writeCp0 rd v).advance) := by
  unfold moveToCp0 at h
  rw [withCp0_eq] at h
  cases hc : s.cp0Usable
  · rw [hc] at h; exact .inl ⟨rfl, by simpa using h.symm⟩
  · rw [hc] at h
    cases hr : s.readCp0 rd with
    | none => exact .inr (.inl ⟨rfl, rfl, by simpa [hr] using h.symm⟩)
    | some w => exact .inr (.inr ⟨rfl, by simp, by simpa [hr] using h.symm⟩)

/-- What ERET can do (R488, R512). -/
theorem eret_cases {s t : State} (h : execEret s = .next t) :
    (s.cp0Usable = false ∧ t = takeException (.cpU 0#2) s) ∨ (s.cp0Usable = true ∧ t = returnFromException s) := by
  unfold execEret at h
  rw [withCp0_eq] at h
  cases hc : s.cp0Usable <;> rw [hc] at h
  · exact .inl ⟨rfl, by simpa using h.symm⟩
  · exact .inr ⟨rfl, by simpa using h.symm⟩

end Sys2Proof.Machine
end

