-- ==== Sys2Proof/Laws/Queue.lean ====
section
/-! SUPPORT. The pending-write queue and the tick: what applying entries, `PendingTick` and the tick can do (10_state.md
R55-R60, 60_exceptions.md R521, R522). -/

namespace Sys2Proof.Machine

/-! ### Sampling the inputs -/

/-- Sampling changes the inputs only. -/
theorem samplePins_eq (s : State) :
    samplePins s = { s with pins := (samplePins s).pins, pinQueue := (samplePins s).pinQueue } := by
  unfold samplePins; split <;> rfl

@[simp] theorem samplePins_cfg (s : State) : (samplePins s).cfg = s.cfg := by rw [samplePins_eq]
@[simp] theorem samplePins_gpr (s : State) : (samplePins s).gpr = s.gpr := by rw [samplePins_eq]
@[simp] theorem samplePins_pc (s : State) : (samplePins s).pc = s.pc := by rw [samplePins_eq]
@[simp] theorem samplePins_isaMode (s : State) : (samplePins s).isaMode = s.isaMode := by rw [samplePins_eq]
@[simp] theorem samplePins_fgr (s : State) : (samplePins s).fgr = s.fgr := by rw [samplePins_eq]
@[simp] theorem samplePins_tag (s : State) : (samplePins s).tag = s.tag := by rw [samplePins_eq]
@[simp] theorem samplePins_fcsr (s : State) : (samplePins s).fcsr = s.fcsr := by rw [samplePins_eq]
@[simp] theorem samplePins_status (s : State) : (samplePins s).status = s.status := by rw [samplePins_eq]
@[simp] theorem samplePins_excCode (s : State) : (samplePins s).excCode = s.excCode := by rw [samplePins_eq]
@[simp] theorem samplePins_ce (s : State) : (samplePins s).ce = s.ce := by rw [samplePins_eq]
@[simp] theorem samplePins_epc (s : State) : (samplePins s).epc = s.epc := by rw [samplePins_eq]
@[simp] theorem samplePins_badVAddr (s : State) : (samplePins s).badVAddr = s.badVAddr := by rw [samplePins_eq]
@[simp] theorem samplePins_configBE (s : State) : (samplePins s).configBE = s.configBE := by rw [samplePins_eq]
@[simp] theorem samplePins_accOb (s : State) : (samplePins s).accOb = s.accOb := by rw [samplePins_eq]
@[simp] theorem samplePins_accQh (s : State) : (samplePins s).accQh = s.accQh := by rw [samplePins_eq]
@[simp] theorem samplePins_mem (s : State) : (samplePins s).mem = s.mem := by rw [samplePins_eq]
@[simp] theorem samplePins_llBit (s : State) : (samplePins s).llBit = s.llBit := by rw [samplePins_eq]
@[simp] theorem samplePins_llAddr (s : State) : (samplePins s).llAddr = s.llAddr := by rw [samplePins_eq]
@[simp] theorem samplePins_pq (s : State) : (samplePins s).pq = s.pq := by rw [samplePins_eq]
@[simp] theorem samplePins_run (s : State) : (samplePins s).run = s.run := by rw [samplePins_eq]

@[simp] theorem samplePins_readGpr (s : State) (i : GprNo) : (samplePins s).readGpr i = s.readGpr i := by
  rw [samplePins_eq]; rfl

@[simp] theorem samplePins_byteAt (s : State) (a : Word) : (samplePins s).byteAt a = s.byteAt a := by
  rw [samplePins_eq]; rfl

/-! ### One entry -/

/-- What applying an entry can do (R59). -/
theorem applyPending_cases {e : Pending} {s t : State} (h : applyPending e s = some t) :
    (∃ i v, t = s.writeGpr i v) ∨ (∃ i, e.dest = .fpr32 i ∧ t = s.rawWrite32 i (e.value.extractLsb' 0 32)) ∨
    (∃ i, e.dest = .fpr64 i ∧ t = s.rawWrite64 i e.value) ∨
    (∃ b, e.dest = .fcsr ∧ e.bit = some b ∧ t = s.setFcsrBit b (e.value.getLsbD 0)) := by
  obtain ⟨dest, value, remaining, bit⟩ := e
  cases dest <;> cases bit <;> simp only [applyPending, Option.some.injEq, reduceCtorEq] at h <;> subst h
  · exact .inl ⟨_, _, rfl⟩
  · exact .inl ⟨_, _, rfl⟩
  · exact .inr (.inl ⟨_, rfl, rfl⟩)
  · exact .inr (.inr (.inl ⟨_, rfl, rfl⟩))
  · exact .inr (.inr (.inr ⟨_, rfl, rfl, rfl⟩))

/-- Applying an entry changes general registers, floating-point registers, their tags and the FCSR only. -/
theorem applyPending_frame {e : Pending} {s t : State} (h : applyPending e s = some t) :
    t = { s with gpr := t.gpr, fgr := t.fgr, tag := t.tag, fcsr := t.fcsr } := by
  rcases applyPending_cases h with ⟨i, v, rfl⟩ | ⟨i, _, rfl⟩ | ⟨i, _, rfl⟩ | ⟨b, _, _, rfl⟩
  · unfold State.writeGpr; split <;> rfl
  · rfl
  · unfold State.rawWrite64 State.put64; dsimp only; split
    · rfl
    · split <;> rfl
  · rfl

/-- Applying does not look at the queue. -/
theorem applyPending_pq (e : Pending) (s : State) (q : List Pending) :
    applyPending e { s with pq := q } = (applyPending e s).map fun t => { t with pq := q } := by
  obtain ⟨dest, value, remaining, bit⟩ := e
  cases dest <;> cases bit <;> simp only [applyPending, Option.map_none, Option.map_some, Option.some.injEq] <;>
    first | rfl | skip
  · unfold State.writeGpr; split <;> rfl
  · rename_i i b
    show State.writeGpr { s with pq := q } i (putBit (s.readGpr i) b.toNat (value.getLsbD 0)) = _
    unfold State.writeGpr; split <;> rfl
  · unfold State.rawWrite64 State.put64
    show (if s.fr = true then _ else _) = _
    dsimp only
    split
    · rfl
    · split <;> rfl

/-- An entry the instructions make can be applied (R564). -/
theorem applyPending_of_legal {e : Pending} (s : State) (h : e.legal = true) : ∃ t, applyPending e s = some t := by
  obtain ⟨dest, value, remaining, bit⟩ := e
  cases dest <;> cases bit <;> simp [Pending.legal] at h <;> exact ⟨_, rfl⟩

/-- A bit write from bit 23 on leaves the reserved bits 22:18 of the FCSR alone (R47). -/
theorem fcsrLegal_putBit (f : BitVec 32) (b : BitVec 5) (v : Bool) (hb : 23#5 ≤ b) (h : f.extractLsb' 18 5 = 0#5) :
    (putBit f b.toNat v).extractLsb' 18 5 = 0#5 := by
  have hb' : 23 ≤ b.toNat := by simpa [BitVec.le_def] using hb
  ext k hk
  have hf : f.getLsbD (18 + k) = false := by
    have := congrArg (fun w => w.getLsbD k) h
    simpa [BitVec.getLsbD_extractLsb', hk] using this
  unfold putBit
  cases v <;> simp [BitVec.getElem_extractLsb', hf, BitVec.getLsbD_shiftLeft] <;> omega

/-- Applying an entry the instructions make keeps the reserved bits of the FCSR. -/
theorem applyPending_fcsrLegal {e : Pending} {s t : State} (hl : e.legal = true) (h : applyPending e s = some t)
    (hs : s.FcsrLegal) : t.FcsrLegal := by
  rcases applyPending_cases h with ⟨i, v, rfl⟩ | ⟨i, _, rfl⟩ | ⟨i, _, rfl⟩ | ⟨b, hd, hb, rfl⟩
  · simpa [State.FcsrLegal] using hs
  · simpa [State.FcsrLegal] using hs
  · simpa [State.FcsrLegal] using hs
  · obtain ⟨dest, value, remaining, bit⟩ := e
    simp only at hd hb
    subst hd hb
    refine fcsrLegal_putBit _ _ _ ?_ hs
    simp only [Pending.legal, Bool.and_eq_true, Bool.or_eq_true, beq_iff_eq, decide_eq_true_eq] at hl
    rcases hl.2 with rfl | hb
    · decide
    · exact BitVec.le_trans (by decide) hb

/-! ### The head of the queue -/

/-- Draining a queue of due entries empties it and changes nothing but the registers (R58). -/
theorem drainPending_legal (q : List Pending) (s : State) (hq : ∀ e ∈ q, e.legal = true) :
    let t := drainPending q s
    t = { s with gpr := t.gpr, fgr := t.fgr, tag := t.tag, fcsr := t.fcsr, pq := [] } ∧
    (s.FcsrLegal → t.FcsrLegal) := by
  induction q generalizing s with
  | nil => exact ⟨rfl, id⟩
  | cons e q ih =>
    dsimp only
    obtain ⟨u, hu⟩ := applyPending_of_legal s (hq e (by simp))
    have h0 : e.remaining = 0 := by
      have := hq e (by simp)
      simp only [Pending.legal, Bool.and_eq_true, beq_iff_eq] at this
      exact this.1
    have hd : drainPending (e :: q) s = drainPending q u := by
      rw [drainPending, if_pos h0, hu]
    rw [hd]
    obtain ⟨h1, h2⟩ := ih u (fun x hx => hq x (by simp [hx]))
    refine ⟨?_, fun h => h2 (applyPending_fcsrLegal (hq e (by simp)) hu h)⟩
    rw [applyPending_frame hu] at h1 ⊢
    exact h1

/-- An entry that is not due yet stays in the queue, with all that stand behind it (R58). -/
theorem drainPending_append (q es : List Pending) (s : State) (hq : ∀ e ∈ q, e.legal = true)
    (hes : ∀ e ∈ es, e.remaining ≠ 0) :
    drainPending (q ++ es) s = { drainPending q s with pq := es } := by
  induction q generalizing s with
  | nil =>
    cases es with
    | nil => rfl
    | cons e es => simp [drainPending, hes e (by simp)]
  | cons e q ih =>
    obtain ⟨u, hu⟩ := applyPending_of_legal s (hq e (by simp))
    have h0 : e.remaining = 0 := by
      have := hq e (by simp)
      simp only [Pending.legal, Bool.and_eq_true, beq_iff_eq] at this
      exact this.1
    have hd : ∀ l, drainPending (e :: l) s = drainPending l u := by
      intro l; rw [drainPending, if_pos h0, hu]
    rw [List.cons_append, hd, hd]
    exact ih u (fun x hx => hq x (by simp [hx]))

/-- Draining does not look at the queue field of its state. -/
theorem drainPending_pq (q q' : List Pending) (s : State) : drainPending q { s with pq := q' } = drainPending q s := by
  induction q generalizing s with
  | nil => rfl
  | cons e q ih =>
    unfold drainPending
    split
    · rw [applyPending_pq]
      cases applyPending e s with
      | none => rfl
      | some t => exact ih t
    · rfl

/-- A general register after draining due entries: the youngest entry for it, or as it was (R58, R60). -/
theorem drainPending_readGpr (q : List Pending) (s : State) (hq : ∀ e ∈ q, e.legal = true) (i : GprNo)
    (hi : i ≠ 0#5) : (drainPending q s).readGpr i = youngestFor i (s.readGpr i) q := by
  induction q generalizing s with
  | nil => rfl
  | cons e q ih =>
    have hl := hq e (by simp)
    obtain ⟨u, hu⟩ := applyPending_of_legal s hl
    have h0 : e.remaining = 0 := by
      simp only [Pending.legal, Bool.and_eq_true, beq_iff_eq] at hl
      exact hl.1
    rw [drainPending, if_pos h0, hu]
    dsimp only
    rw [ih u (fun x hx => hq x (by simp [hx])), youngestFor]
    congr 1
    obtain ⟨dest, value, remaining, bit⟩ := e
    cases dest <;> cases bit <;> simp [Pending.legal] at hl <;>
      simp only [applyPending, Option.some.injEq] at hu <;> subst hu
    · rename_i j
      rw [State.readGpr_writeGpr]
      by_cases hj : i = j
      · subst hj; simp [hi]
      · simp [hj, Ne.symm (a := i) (b := j) hj]
    · simp [State.readGpr]
    · simp [State.readGpr]
    · simp [State.readGpr]

/-! ### `PendingTick` -/

/-- `PendingTick` on due entries and, behind them, entries that are not due yet (R58). -/
theorem pendingTick_append (s : State) (es : List Pending) (hq : ∀ e ∈ s.pq, e.legal = true)
    (hes : ∀ e ∈ es, e.remaining ≠ 0) (hr : s.run ≠ .checkStop) :
    pendingTick { s with pq := s.pq ++ es } = { drainPending s.pq s with pq := es.map Pending.age } := by
  have hrun : (drainPending s.pq s).run = s.run := by
    have := (drainPending_legal s.pq s hq).1
    rw [this]
  unfold pendingTick
  dsimp only
  rw [drainPending_pq, drainPending_append _ _ _ hq hes]
  dsimp only
  rw [if_neg (by rw [hrun]; exact hr)]

/-- `PendingTick` on a queue of due entries (R58). -/
theorem pendingTick_legal (s : State) (hq : ∀ e ∈ s.pq, e.legal = true) (hr : s.run ≠ .checkStop) :
    pendingTick s = drainPending s.pq s := by
  have h := pendingTick_append s [] hq (by simp) hr
  simp only [List.append_nil, List.map_nil] at h
  rw [show pendingTick s = pendingTick { s with pq := s.pq } from rfl, h]
  have := (drainPending_legal s.pq s hq).1
  rw [this]

/-! ### The tick -/

/-- What the tick can do (R521, R522, R530). -/
theorem tick_cases (s : State) :
    (s.run = .checkStop ∧ tick s = s) ∨
    (s.run ≠ .checkStop ∧ (pendingTick s).run = .running ∧ interruptCondition (pendingTick s) = true ∧
      tick s = takeException .int (pendingTick s)) ∨
    (s.run ≠ .checkStop ∧ tick s = pendingTick s) := by
  unfold tick
  by_cases h : s.run = .checkStop
  · exact .inl ⟨h, if_pos h⟩
  · rw [if_neg h]
    dsimp only
    split
    · rename_i hc; exact .inr (.inl ⟨h, hc.1, hc.2, rfl⟩)
    · exact .inr (.inr ⟨h, rfl⟩)

/-- What the tick can do on due entries and, behind them, entries that are not due yet: the first are applied, the
others grow older, and then the interrupt may be taken (R58, R521, R562). -/
theorem tick_append_cases (s : State) (q es : List Pending) (hpq : s.pq = q ++ es) (hq : ∀ e ∈ q, e.legal = true)
    (hes : ∀ e ∈ es, e.remaining ≠ 0) (hr : s.run ≠ .checkStop) :
    let t := { drainPending q s with pq := es.map Pending.age }
    tick s = t ∨ tick s = takeException .int t := by
  have h : pendingTick s = { drainPending q s with pq := es.map Pending.age } := by
    have h := pendingTick_append { s with pq := q } es hq hes hr
    rw [drainPending_pq] at h
    rw [← h, show s = { s with pq := q ++ es } by rw [← hpq]]
  rcases tick_cases s with ⟨hc, _⟩ | ⟨_, _, _, e⟩ | ⟨_, e⟩
  · exact absurd hc hr
  · exact .inr (by rw [e, h])
  · exact .inl (by rw [e, h])

/-- What a step can do at the levels sampled (R550, R561, R563). -/
theorem step_cases {s t : State} (h : step s = .next t) :
    let u := samplePins s
    (u.pins.reset = true ∧ t = resetCore u) ∨ (u.pins.reset = false ∧ u.run ≠ .running ∧ t = u) ∨
    (u.pins.reset = false ∧ u.run = .running ∧ u.pins.stop = true ∧ t = { u with run := .halted }) ∨
    (u.Ready ∧ ∃ v, t = tick v ∧
      ((∃ e, fetchDecode u = .error e ∧ v = takeException e u) ∨ ∃ i, fetchDecode u = .ok i ∧ exec i u = .next v)) := by
  dsimp only
  unfold step stepNow at h
  by_cases h1 : (samplePins s).pins.reset = true
  · rw [if_pos h1] at h; exact .inl ⟨h1, (Host.Outcome.next.inj h).symm⟩
  · rw [if_neg h1] at h
    have h1' := Bool.eq_false_iff.2 h1
    by_cases h2 : (samplePins s).run = .running
    · rw [if_neg (fun hn => hn h2)] at h
      by_cases h3 : (samplePins s).pins.stop = true
      · rw [if_pos h3] at h; exact .inr (.inr (.inl ⟨h1', h2, h3, (Host.Outcome.next.inj h).symm⟩))
      · rw [if_neg h3] at h
        by_cases h4 : (samplePins s).isaMode = true
        · rw [if_pos h4] at h; cases h
        · rw [if_neg h4] at h
          refine .inr (.inr (.inr ⟨⟨h1', Bool.eq_false_iff.2 h3, h2, Bool.eq_false_iff.2 h4⟩, ?_⟩))
          unfold fetchExecute at h
          cases hf : fetchDecode (samplePins s) with
          | error e =>
            rw [hf] at h
            exact ⟨_, (Host.Outcome.next.inj h).symm, .inl ⟨e, rfl, rfl⟩⟩
          | ok i =>
            rw [hf] at h
            dsimp only at h
            cases he : exec i (samplePins s) with
            | next v => rw [he] at h; exact ⟨v, (Host.Outcome.next.inj h).symm, .inr ⟨i, rfl, he⟩⟩
            | fault f => cases f
            | refused r => rw [he] at h; cases h
    · rw [if_pos h2] at h; exact .inr (.inl ⟨h1', h2, (Host.Outcome.next.inj h).symm⟩)

end Sys2Proof.Machine
end

