-- ==== Sys2Proof/Laws/Fpu.lean ====
section
/-! SUPPORT. What each shared operation of the FPU instructions can do (44_fpu_unit.md R294-R296,
45_fpu_instructions.md R330-R373). -/

namespace Sys2Proof.Machine

/-! ### Entry and flags -/

/-- What an instruction behind `FPEnter` can do (R295). -/
theorem fpEnter_commit_cases {regs : List FprNo} {f : Unit → Effect} {s t : State}
    (h : (Effect.ofExcept s (s.fpEnter regs) f).commit s = .next t) :
    (s.cu1 = false ∧ t = takeException (.cpU 1#2) s) ∨
    (s.cu1 = true ∧ (∃ r ∈ regs, s.fpr64Ok r = false) ∧ t = takeException .ri s) ∨
    (s.cu1 = true ∧ (∀ r ∈ regs, s.fpr64Ok r = true) ∧ (f ()).commit s = .next t) := by
  rcases s.fpEnter_cases regs with ⟨hc, e⟩ | ⟨hc, hr, e⟩ | ⟨hc, hr, e⟩ <;> rw [e] at h
  · exact .inl ⟨hc, (Host.Outcome.next.inj h).symm⟩
  · exact .inr (.inl ⟨hc, hr, (Host.Outcome.next.inj h).symm⟩)
  · exact .inr (.inr ⟨hc, hr, h⟩)

/-- What `FPRaise` can do (R296). -/
theorem fpRaise_cases (s : State) (flags : FpExcs) :
    (flags &&& s.fpEnables = 0#5 ∧ fpRaise s flags = .completes (s.recordFlags flags)) ∨
    (flags &&& s.fpEnables ≠ 0#5 ∧ fpRaise s flags = .raises .fpe (s.recordFlags flags)) := by
  unfold fpRaise
  by_cases h : flags &&& s.fpEnables = 0#5
  · exact .inl ⟨h, if_neg (fun e => e h)⟩
  · exact .inr ⟨h, if_pos h⟩

/-- What the end of an arithmetic instruction can do (R330). -/
theorem fpFinish_cases {fmt : Fmt} {fd : FprNo} {r : BitVec 64 × FpExcs} {u s0 t : State}
    (h : (fpFinish fmt fd r u).commit s0 = .next t) :
    (r.2 &&& u.fpEnables = 0#5 ∧ t = ((u.recordFlags r.2).writeFpr fd fmt r.1).advance) ∨
    (r.2 &&& u.fpEnables ≠ 0#5 ∧ t = takeException .fpe (u.recordFlags r.2)) := by
  unfold fpFinish at h
  rcases fpRaise_cases u r.2 with ⟨hr, e⟩ | ⟨hr, e⟩ <;> rw [e] at h
  · exact .inl ⟨hr, (Host.Outcome.next.inj h).symm⟩
  · exact .inr ⟨hr, (Host.Outcome.next.inj h).symm⟩

/-- Reading an operand does not change the FCSR. -/
@[simp] theorem retag_fpEnables (s : State) (i : FprNo) (fmt : Fmt) : (s.retag i fmt).fpEnables = s.fpEnables := by
  simp [State.fpEnables]

@[simp] theorem retag_fr (s : State) (i : FprNo) (fmt : Fmt) : (s.retag i fmt).fr = s.fr :=
  State.fr_eq_of_status _ _ (by simp)

/-- Reading an operand changes the tags of its registers only (R33). -/
theorem tagAt_retag (s : State) (i : FprNo) (fmt : Fmt) (r : FprNo) :
    (s.retag i fmt).tagAt r =
      if r ∈ s.operandRegs i fmt then (if s.tagsMatch i fmt then fmt.tag else .unknown) else s.tagAt r := by
  simp only [State.retag, State.tagAt_setTags]

/-- Reading an operand does not change what the registers hold. -/
@[simp] theorem fgrAt_retag (s : State) (i r : FprNo) (fmt : Fmt) : (s.retag i fmt).fgrAt r = s.fgrAt r := by
  simp [State.fgrAt]

/-- The registers a formatted write may change (R32, R34). -/
theorem fgrAt_writeFpr (s : State) (i : FprNo) (fmt : Fmt) (v : BitVec 64) (r : FprNo)
    (h : s.fr = false → fmt.wide = true → i ≠ 31#5) (hr : r ∉ s.operandRegs i fmt) :
    (s.writeFpr i fmt v).fgrAt r = s.fgrAt r ∧ (s.writeFpr i fmt v).tagAt r = s.tagAt r := by
  unfold State.operandRegs at hr
  unfold State.writeFpr
  cases hw : fmt.wide
  · simp only [hw, Bool.false_and, Bool.false_eq_true, if_false, List.mem_singleton] at hr
    simp [State.fgrAt_put32, State.tagAt_put32, hr]
  · simp only [if_true]
    cases hf : s.fr
    · simp only [hw, hf, Bool.not_false, Bool.and_self, if_true, List.mem_cons, List.not_mem_nil, or_false,
        not_or] at hr
      have h31 := h hf hw
      simp only [State.put64, hf, Bool.false_eq_true, if_false, pairForWrite, if_neg h31]
      have h2 : ¬ r = i + 1#5 := hr.2
      simp [State.fgrAt_put32, State.tagAt_put32, h2, hr.1]
    · simp only [hw, hf, Bool.not_true, Bool.and_false, Bool.false_eq_true, if_false, List.mem_singleton] at hr
      simp [State.put64, hf, State.fgrAt_setFgr, State.tagAt_setTag, hr]

/-- The bits of the FCSR that `FPRaise` leaves alone (R296). -/
theorem raisedFcsr_frame (f : BitVec 32) (flags : FpExcs) :
    raisedFcsr f flags &&& ~~~0x0003F07C#32 = f &&& ~~~0x0003F07C#32 := by
  unfold raisedFcsr
  ext k hk
  simp only [BitVec.getElem_and, BitVec.getElem_or, BitVec.getElem_not, BitVec.getElem_shiftLeft]
  have hm : ∀ j : Fin 32, (0x0003F07C#32 : BitVec 32)[j.val]'j.isLt = (decide (12 ≤ j.val ∧ j.val ≤ 17) ||
      decide (2 ≤ j.val ∧ j.val ≤ 6)) := by decide
  have hm2 : ∀ j : Fin 32, (0x0003F000#32 : BitVec 32)[j.val]'j.isLt = decide (12 ≤ j.val ∧ j.val ≤ 17) := by decide
  have e1 := hm ⟨k, hk⟩
  have e2 := hm2 ⟨k, hk⟩
  simp only at e1 e2
  rw [e1, e2]
  by_cases ha : 12 ≤ k ∧ k ≤ 17
  · simp [ha]
  · by_cases hb : 2 ≤ k ∧ k ≤ 6
    · simp [hb]
    · have h1 : k < 12 ∨ flags.getLsbD (k - 12) = false := by
        by_cases h : k < 12
        · exact .inl h
        · exact .inr (BitVec.getLsbD_of_ge _ _ (by omega))
      have h2 : k < 2 ∨ flags.getLsbD (k - 2) = false := by
        by_cases h : k < 2
        · exact .inl h
        · exact .inr (BitVec.getLsbD_of_ge _ _ (by omega))
      rcases h1 with h1 | h1 <;> rcases h2 with h2 | h2 <;> simp [ha, hb, h1, h2]

/-! ### Arithmetic -/

/-- What an instruction with one operand can do (R330). -/
theorem fpUnary_cases {regs : List FprNo} {src dst : Fmt} {op : BitVec 64 → BitVec 64 × FpExcs} {fd fs : FprNo}
    {s t : State} (h : (fpUnary regs src dst op fd fs s).commit s = .next t) :
    let r := op (s.fprValue fs src)
    (s.cu1 = false ∧ t = takeException (.cpU 1#2) s) ∨
    (s.cu1 = true ∧ (∃ r ∈ regs, s.fpr64Ok r = false) ∧ t = takeException .ri s) ∨
    (s.cu1 = true ∧ (∀ r ∈ regs, s.fpr64Ok r = true) ∧ r.2 &&& s.fpEnables = 0#5 ∧
      t = (((s.retag fs src).recordFlags r.2).writeFpr fd dst r.1).advance) ∨
    (s.cu1 = true ∧ (∀ r ∈ regs, s.fpr64Ok r = true) ∧ r.2 &&& s.fpEnables ≠ 0#5 ∧
      t = takeException .fpe ((s.retag fs src).recordFlags r.2)) := by
  dsimp only
  rcases fpEnter_commit_cases h with h | h | ⟨hc, hr, h⟩
  · exact .inl h
  · exact .inr (.inl h)
  · rcases fpFinish_cases h with ⟨he, h⟩ | ⟨he, h⟩ <;> rw [retag_fpEnables] at he
    · exact .inr (.inr (.inl ⟨hc, hr, he, h⟩))
    · exact .inr (.inr (.inr ⟨hc, hr, he, h⟩))

/-- What an instruction with two operands can do (R330). -/
theorem fpArith2_cases {op : FpOp2} {fmt : ArithFmt} {fd fs ft : FprNo} {s t : State}
    (h : (fpArith2 op fmt fd fs ft s).commit s = .next t) :
    let regs := fmt.toFmt.checked [fd, fs, ft]
    let s1 := s.retag fs fmt.toFmt
    let u := s1.retag ft fmt.toFmt
    let r := op.inFmt fmt s.roundingMode s.fpFlush (s.fprValue fs fmt.toFmt) (s1.fprValue ft fmt.toFmt)
    (s.cu1 = false ∧ t = takeException (.cpU 1#2) s) ∨
    (s.cu1 = true ∧ (∃ r ∈ regs, s.fpr64Ok r = false) ∧ t = takeException .ri s) ∨
    (s.cu1 = true ∧ (∀ r ∈ regs, s.fpr64Ok r = true) ∧ r.2 &&& s.fpEnables = 0#5 ∧
      t = ((u.recordFlags r.2).writeFpr fd fmt.toFmt r.1).advance) ∨
    (s.cu1 = true ∧ (∀ r ∈ regs, s.fpr64Ok r = true) ∧ r.2 &&& s.fpEnables ≠ 0#5 ∧
      t = takeException .fpe (u.recordFlags r.2)) := by
  dsimp only
  rcases fpEnter_commit_cases h with h | h | ⟨hc, hr, h⟩
  · exact .inl h
  · exact .inr (.inl h)
  · rcases fpFinish_cases h with ⟨he, h⟩ | ⟨he, h⟩ <;>
      simp only [retag_fpEnables] at he
    · exact .inr (.inr (.inl ⟨hc, hr, he, h⟩))
    · exact .inr (.inr (.inr ⟨hc, hr, he, h⟩))

/-- What an instruction with three operands can do (R330). -/
theorem fpArith3_cases {op : FpOp3} {fmt : ArithFmt} {fd fr fs ft : FprNo} {s t : State}
    (h : (fpArith3 op fmt fd fr fs ft s).commit s = .next t) :
    let regs := fmt.toFmt.checked [fd, fr, fs, ft]
    let s1 := s.retag fs fmt.toFmt
    let s2 := s1.retag ft fmt.toFmt
    let u := s2.retag fr fmt.toFmt
    let r := op.inFmt fmt s.roundingMode s.fpFlush (s.fprValue fs fmt.toFmt) (s1.fprValue ft fmt.toFmt)
      (s2.fprValue fr fmt.toFmt)
    (s.cu1 = false ∧ t = takeException (.cpU 1#2) s) ∨
    (s.cu1 = true ∧ (∃ r ∈ regs, s.fpr64Ok r = false) ∧ t = takeException .ri s) ∨
    (s.cu1 = true ∧ (∀ r ∈ regs, s.fpr64Ok r = true) ∧ r.2 &&& s.fpEnables = 0#5 ∧
      t = ((u.recordFlags r.2).writeFpr fd fmt.toFmt r.1).advance) ∨
    (s.cu1 = true ∧ (∀ r ∈ regs, s.fpr64Ok r = true) ∧ r.2 &&& s.fpEnables ≠ 0#5 ∧
      t = takeException .fpe (u.recordFlags r.2)) := by
  dsimp only
  rcases fpEnter_commit_cases h with h | h | ⟨hc, hr, h⟩
  · exact .inl h
  · exact .inr (.inl h)
  · rcases fpFinish_cases h with ⟨he, h⟩ | ⟨he, h⟩ <;>
      simp only [retag_fpEnables] at he
    · exact .inr (.inr (.inl ⟨hc, hr, he, h⟩))
    · exact .inr (.inr (.inr ⟨hc, hr, he, h⟩))

/-- What a formatted move can do (R337). -/
theorem fpMove_cases {fmt : ArithFmt} {fd fs : FprNo} {s t : State} (h : (fpMove fmt fd fs s).commit s = .next t) :
    let regs := fmt.toFmt.checked [fd, fs]
    (s.cu1 = false ∧ t = takeException (.cpU 1#2) s) ∨
    (s.cu1 = true ∧ (∃ r ∈ regs, s.fpr64Ok r = false) ∧ t = takeException .ri s) ∨
    (s.cu1 = true ∧ (∀ r ∈ regs, s.fpr64Ok r = true) ∧
      t = ((s.retag fs fmt.toFmt).writeFpr fd fmt.toFmt (s.fprValue fs fmt.toFmt)).advance) := by
  dsimp only
  rcases fpEnter_commit_cases h with h | h | ⟨hc, hr, h⟩
  · exact .inl h
  · exact .inr (.inl h)
  · exact .inr (.inr ⟨hc, hr, (Host.Outcome.next.inj h).symm⟩)

/-! ### Control registers -/

/-- What a move from an FP control register can do (R335). -/
theorem moveFromFpControl_cases {rt : GprNo} {n : BitVec 5} {s s0 t : State}
    (h : (moveFromFpControl rt n s).commit s0 = .next t) :
    (∃ v, s.readFpControl n = some v ∧ t = (s.writeGpr rt (signExt32 v)).advance) ∨
    (s.readFpControl n = none ∧ t = takeException .ri s) := by
  unfold moveFromFpControl at h
  cases hr : s.readFpControl n with
  | none => rw [hr] at h; exact .inr ⟨rfl, (Host.Outcome.next.inj h).symm⟩
  | some v => rw [hr] at h; exact .inl ⟨v, rfl, (Host.Outcome.next.inj h).symm⟩

/-- What a write of the FCSR can do (R336). -/
theorem writeFcsr_cases {v : BitVec 32} {s s0 t : State} (h : (writeFcsr v s).commit s0 = .next t) :
    t = ({ s with fcsr := fcsrOf v } : State).advance ∨ t = takeException .fpe { s with fcsr := fcsrOf v } := by
  unfold writeFcsr at h
  dsimp only at h
  split at h
  · exact .inr (Host.Outcome.next.inj h).symm
  · exact .inl (Host.Outcome.next.inj h).symm

/-- A value written to the FCSR has its reserved bits forced to 0 (R47, R336). -/
theorem fcsrOf_legal (v : BitVec 32) : (fcsrOf v).extractLsb' 18 5 = 0#5 := by
  unfold fcsrOf
  ext k hk
  have hm : ∀ j : Fin 5, (~~~0x007C0000#32 : BitVec 32).getLsbD (18 + j.val) = false := by decide
  have := hm ⟨k, hk⟩
  simp only at this
  rw [BitVec.getElem_extractLsb', BitVec.getLsbD_and, this]
  simp

/-! ### Compares -/

/-- The entry that schedules a condition code (R371). -/
abbrev codeEntry (cc : BitVec 3) (v : Bool) : Pending :=
  { dest := .fcsr, value := (BitVec.ofBool v).setWidth 64, remaining := 1, bit := some (fccBit cc) }

/-- What scheduling a condition code can do (R57, R371). -/
theorem schedFcc_cases (cc : BitVec 3) (v : Bool) (s : State) :
    (s.pq.length < s.cfg.pendingCapacity ∧
      schedFcc cc v s = .completes { s with pq := s.pq ++ [codeEntry cc v] }) ∨
    (s.cfg.pendingCapacity ≤ s.pq.length ∧ schedFcc cc v s = .checkStops) :=
  s.sched_cases .fcsr ((BitVec.ofBool v).setWidth 64) (some (fccBit cc))

/-- What a compare in S or D can do (R371). -/
theorem fpCompareScalar_cases {f : FpFmt} {fmt : ArithFmt} {narrow : BitVec 64 → FpBits f} {cond : BitVec 4}
    {cc : BitVec 3} {fs ft : FprNo} {s t : State}
    (h : (fpCompareScalar f fmt narrow cond cc fs ft s).commit s = .next t) :
    let regs := fmt.toFmt.checked [fs, ft]
    let s1 := s.retag fs fmt.toFmt
    let u := s1.retag ft fmt.toFmt
    let r := fpCompare f cond (narrow (s.fprValue fs fmt.toFmt)) (narrow (s1.fprValue ft fmt.toFmt))
    (s.cu1 = false ∧ t = takeException (.cpU 1#2) s) ∨
    (s.cu1 = true ∧ (∃ r ∈ regs, s.fpr64Ok r = false) ∧ t = takeException .ri s) ∨
    (s.cu1 = true ∧ (∀ r ∈ regs, s.fpr64Ok r = true) ∧ r.2 &&& s.fpEnables ≠ 0#5 ∧
      t = takeException .fpe (u.recordFlags r.2)) ∨
    (s.cu1 = true ∧ (∀ r ∈ regs, s.fpr64Ok r = true) ∧ r.2 &&& s.fpEnables = 0#5 ∧
      s.pq.length < s.cfg.pendingCapacity ∧
      t = ({ u.recordFlags r.2 with pq := s.pq ++ [codeEntry cc r.1] } : State).advance) ∨
    (s.cu1 = true ∧ (∀ r ∈ regs, s.fpr64Ok r = true) ∧ r.2 &&& s.fpEnables = 0#5 ∧
      s.cfg.pendingCapacity ≤ s.pq.length ∧ t = { s with run := .checkStop }) := by
  dsimp only
  rcases fpEnter_commit_cases h with h | h | ⟨hc, hr, h⟩
  · exact .inl h
  · exact .inr (.inl h)
  · simp only [read2] at h
    rcases fpRaise_cases ((s.retag fs fmt.toFmt).retag ft fmt.toFmt) (fpCompare f cond
        (narrow (s.fprValue fs fmt.toFmt)) (narrow ((s.retag fs fmt.toFmt).fprValue ft fmt.toFmt))).2 with
      ⟨he, e⟩ | ⟨he, e⟩ <;> rw [e] at h <;> simp only [retag_fpEnables] at he
    · rw [Effect.completes_andThen] at h
      generalize fpCompare f cond (narrow (s.fprValue fs fmt.toFmt))
        (narrow ((s.retag fs fmt.toFmt).fprValue ft fmt.toFmt)) = r at h he ⊢
      have hp : (((s.retag fs fmt.toFmt).retag ft fmt.toFmt).recordFlags r.2).pq = s.pq := by simp
      have hg : (((s.retag fs fmt.toFmt).retag ft fmt.toFmt).recordFlags r.2).cfg = s.cfg := by simp
      generalize ((s.retag fs fmt.toFmt).retag ft fmt.toFmt).recordFlags r.2 = w at h hp hg ⊢
      rcases schedFcc_cases cc r.1 w with ⟨hl, e'⟩ | ⟨hl, e'⟩ <;> rw [e'] at h <;> rw [hp, hg] at hl
      · refine .inr (.inr (.inr (.inl ⟨hc, hr, he, hl, ?_⟩)))
        rw [← Host.Outcome.next.inj h, hp]
      · exact .inr (.inr (.inr (.inr ⟨hc, hr, he, hl, (Host.Outcome.next.inj h).symm⟩)))
    · exact .inr (.inr (.inl ⟨hc, hr, he, (Host.Outcome.next.inj h).symm⟩))

/-- What a compare in PS can do (R371). -/
theorem fpComparePs_cases {cond : BitVec 4} {cc : BitVec 3} {fs ft : FprNo} {s t : State}
    (h : (fpComparePs cond cc fs ft s).commit s = .next t) :
    let s1 := s.retag fs .ps
    let u := s1.retag ft .ps
    let up := fpCompare .single cond (upperHalf (s.fprValue fs .ps)) (upperHalf (s1.fprValue ft .ps))
    let lo := fpCompare .single cond (lowerHalf (s.fprValue fs .ps)) (lowerHalf (s1.fprValue ft .ps))
    (s.cu1 = false ∧ t = takeException (.cpU 1#2) s) ∨
    (s.cu1 = true ∧ (∃ r ∈ [fs, ft], s.fpr64Ok r = false) ∧ t = takeException .ri s) ∨
    (s.cu1 = true ∧ (∀ r ∈ [fs, ft], s.fpr64Ok r = true) ∧ (up.2 ||| lo.2) &&& s.fpEnables ≠ 0#5 ∧
      t = takeException .fpe (u.recordFlags (up.2 ||| lo.2))) ∨
    (s.cu1 = true ∧ (∀ r ∈ [fs, ft], s.fpr64Ok r = true) ∧ (up.2 ||| lo.2) &&& s.fpEnables = 0#5 ∧
      s.pq.length + 2 ≤ s.cfg.pendingCapacity ∧
      t = ({ u.recordFlags (up.2 ||| lo.2) with
        pq := s.pq ++ [codeEntry cc lo.1, codeEntry (cc + 1#3) up.1] } : State).advance) ∨
    (s.cu1 = true ∧ (∀ r ∈ [fs, ft], s.fpr64Ok r = true) ∧ (up.2 ||| lo.2) &&& s.fpEnables = 0#5 ∧
      s.cfg.pendingCapacity < s.pq.length + 2 ∧ t = { s with run := .checkStop }) := by
  dsimp only
  rcases fpEnter_commit_cases h with h | h | ⟨hc, hr, h⟩
  · exact .inl h
  · exact .inr (.inl h)
  · simp only [read2] at h
    generalize fpCompare .single cond (upperHalf (s.fprValue fs .ps)) (upperHalf ((s.retag fs .ps).fprValue ft .ps)) =
      up at h ⊢
    generalize fpCompare .single cond (lowerHalf (s.fprValue fs .ps)) (lowerHalf ((s.retag fs .ps).fprValue ft .ps)) =
      lo at h ⊢
    rcases fpRaise_cases ((s.retag fs .ps).retag ft .ps) (up.2 ||| lo.2) with ⟨he, e⟩ | ⟨he, e⟩ <;> rw [e] at h <;>
      simp only [retag_fpEnables] at he
    · rw [Effect.completes_andThen] at h
      have hp : (((s.retag fs .ps).retag ft .ps).recordFlags (up.2 ||| lo.2)).pq = s.pq := by simp
      have hg : (((s.retag fs .ps).retag ft .ps).recordFlags (up.2 ||| lo.2)).cfg = s.cfg := by simp
      generalize ((s.retag fs .ps).retag ft .ps).recordFlags (up.2 ||| lo.2) = w at h hp hg ⊢
      rcases schedFcc_cases cc lo.1 w with ⟨hl, e'⟩ | ⟨hl, e'⟩ <;> rw [e'] at h <;> rw [hp, hg] at hl
      · rw [Effect.completes_andThen] at h
        rcases schedFcc_cases (cc + 1#3) up.1 { w with pq := w.pq ++ [codeEntry cc lo.1] } with
          ⟨hl', e''⟩ | ⟨hl', e''⟩ <;> rw [e''] at h <;>
          simp only [List.length_append, List.length_singleton, hp, hg] at hl'
        · refine .inr (.inr (.inr (.inl ⟨hc, hr, he, by omega, ?_⟩)))
          rw [← Host.Outcome.next.inj h, List.append_assoc, hp]
          rfl
        · exact .inr (.inr (.inr (.inr ⟨hc, hr, he, by omega, (Host.Outcome.next.inj h).symm⟩)))
      · exact .inr (.inr (.inr (.inr ⟨hc, hr, he, by omega, (Host.Outcome.next.inj h).symm⟩)))
    · exact .inr (.inr (.inl ⟨hc, hr, he, (Host.Outcome.next.inj h).symm⟩))

end Sys2Proof.Machine
end

