-- ==== Sys2Proof/Laws/Mdmx.lean ====
section
/-! SUPPORT. What each shared operation of the MDMX instructions can do (46_mdmx_lane_ops.md, 47_mdmx_accumulator.md),
and the lanes of a packed vector. -/

namespace Sys2Proof.Machine

/-! ### Lanes -/

/-- The lanes of a packed OB vector (R401). -/
theorem laneOb_packOb (r : Fin 8 → BitVec 8) (i : Fin 8) : laneOb (packOb r) i = r i := by
  ext k hk
  unfold laneOb packOb
  rcases i with ⟨i, hi⟩
  simp only [BitVec.getElem_extractLsb', BitVec.getLsbD_append]
  have hk' : k < 8 := hk
  match i, hi with
  | 0, _ => simp [hk']
  | 1, _ => simp [show ¬ (8 + k < 8) by omega, hk', show 8 + k - 8 = k by omega]
  | 2, _ => simp [show ¬ (16 + k < 8) by omega, show ¬ (16 + k - 8 < 8) by omega, hk', show 16 + k - 8 - 8 = k by omega]
  | 3, _ =>
    simp [show ¬ (24 + k < 8) by omega, show ¬ (24 + k - 8 < 8) by omega, show ¬ (24 + k - 8 - 8 < 8) by omega, hk',
      show 24 + k - 8 - 8 - 8 = k by omega]
  | 4, _ =>
    simp [show ¬ (32 + k < 8) by omega, show ¬ (32 + k - 8 < 8) by omega, show ¬ (32 + k - 8 - 8 < 8) by omega,
      show ¬ (32 + k - 8 - 8 - 8 < 8) by omega, hk', show 32 + k - 8 - 8 - 8 - 8 = k by omega]
  | 5, _ =>
    simp [show ¬ (40 + k < 8) by omega, show ¬ (40 + k - 8 < 8) by omega, show ¬ (40 + k - 8 - 8 < 8) by omega,
      show ¬ (40 + k - 8 - 8 - 8 < 8) by omega, show ¬ (40 + k - 8 - 8 - 8 - 8 < 8) by omega, hk',
      show 40 + k - 8 - 8 - 8 - 8 - 8 = k by omega]
  | 6, _ =>
    simp [show ¬ (48 + k < 8) by omega, show ¬ (48 + k - 8 < 8) by omega, show ¬ (48 + k - 8 - 8 < 8) by omega,
      show ¬ (48 + k - 8 - 8 - 8 < 8) by omega, show ¬ (48 + k - 8 - 8 - 8 - 8 < 8) by omega,
      show ¬ (48 + k - 8 - 8 - 8 - 8 - 8 < 8) by omega, hk', show 48 + k - 8 - 8 - 8 - 8 - 8 - 8 = k by omega]
  | 7, _ =>
    simp [show ¬ (56 + k < 8) by omega, show ¬ (56 + k - 8 < 8) by omega, show ¬ (56 + k - 8 - 8 < 8) by omega,
      show ¬ (56 + k - 8 - 8 - 8 < 8) by omega, show ¬ (56 + k - 8 - 8 - 8 - 8 < 8) by omega,
      show ¬ (56 + k - 8 - 8 - 8 - 8 - 8 < 8) by omega, show ¬ (56 + k - 8 - 8 - 8 - 8 - 8 - 8 < 8) by omega, hk',
      show 56 + k - 8 - 8 - 8 - 8 - 8 - 8 - 8 = k by omega]

/-- The lanes of a packed QH vector (R401). -/
theorem laneQh_packQh (r : Fin 4 → BitVec 16) (i : Fin 4) : laneQh (packQh r) i = r i := by
  ext k hk
  unfold laneQh packQh
  rcases i with ⟨i, hi⟩
  simp only [BitVec.getElem_extractLsb', BitVec.getLsbD_append]
  have hk' : k < 16 := hk
  match i, hi with
  | 0, _ => simp [hk']
  | 1, _ => simp [show ¬ (16 + k < 16) by omega, hk', show 16 + k - 16 = k by omega]
  | 2, _ =>
    simp [show ¬ (32 + k < 16) by omega, show ¬ (32 + k - 16 < 16) by omega, hk',
      show 32 + k - 16 - 16 = k by omega]
  | 3, _ =>
    simp [show ¬ (48 + k < 16) by omega, show ¬ (48 + k - 16 < 16) by omega, show ¬ (48 + k - 16 - 16 < 16) by omega,
      hk', show 48 + k - 16 - 16 - 16 = k by omega]

/-- The lanes of an OB lane operation (R401). -/
theorem laneOb_obMap (f : BitVec 8 → BitVec 8 → BitVec 8) (vs : FprNo) (o : ObOperand) (s : State) (i : Fin 8) :
    laneOb (obMap f vs o s) i = f (laneOb (s.fgrAt vs) i) (o.lane s i) := laneOb_packOb _ _

/-- The lanes of a QH lane operation (R401). -/
theorem laneQh_qhMap (f : BitVec 16 → BitVec 16 → BitVec 16) (vs : FprNo) (o : QhOperand) (s : State) (i : Fin 4) :
    laneQh (qhMap f vs o s) i = f (laneQh (s.fgrAt vs) i) (o.lane s i) := laneQh_packQh _ _

/-! ### Operations -/

/-- What an instruction behind `MDMXEnter` can do (R400). -/
theorem mdmxEnter_commit_cases {f : Unit → Effect} {s t : State}
    (h : (Effect.ofExcept s s.mdmxEnter f).commit s = .next t) :
    (s.cu1 = false ∧ t = takeException (.cpU 1#2) s) ∨ (s.cu1 = true ∧ s.fr = false ∧ t = takeException .ri s) ∨
    (s.cu1 = true ∧ s.fr = true ∧ (f ()).commit s = .next t) := by
  rcases s.mdmxEnter_cases with ⟨hc, e⟩ | ⟨hc, hf, e⟩ | ⟨hc, hf, e⟩ <;> rw [e] at h
  · exact .inl ⟨hc, (Host.Outcome.next.inj h).symm⟩
  · exact .inr (.inl ⟨hc, hf, (Host.Outcome.next.inj h).symm⟩)
  · exact .inr (.inr ⟨hc, hf, h⟩)

/-- An MDMX instruction whose units may be used runs. -/
theorem mdmxEnter_ok {s : State} (hc : s.cu1 = true) (hf : s.fr = true) : s.mdmxEnter = .ok () := by
  simp [State.mdmxEnter, hc, hf]

/-- What an instruction that writes a vector can do (R400, R401). -/
theorem mdmxWrite_cases {vd : FprNo} {r : State → Word} {s t : State}
    (h : (mdmxWrite vd r s).commit s = .next t) :
    (s.cu1 = false ∧ t = takeException (.cpU 1#2) s) ∨ (s.cu1 = true ∧ s.fr = false ∧ t = takeException .ri s) ∨
    (s.cu1 = true ∧ s.fr = true ∧ t = s.vectorWritten vd (r s)) := by
  rcases mdmxEnter_commit_cases h with h | h | ⟨hc, hf, h⟩
  · exact .inl h
  · exact .inr (.inl h)
  · refine .inr (.inr ⟨hc, hf, ?_⟩)
    rw [← Host.Outcome.next.inj h, State.rawWrite64_fr _ _ _ hf]

/-- Where an instruction that writes a vector completes (R400, R401). -/
theorem mdmxWrite_next {vd : FprNo} {r : State → Word} {s : State} (hc : s.cu1 = true) (hf : s.fr = true) :
    (mdmxWrite vd r s).commit s = .next (s.vectorWritten vd (r s)) := by
  unfold mdmxWrite
  rw [mdmxEnter_ok hc hf, Effect.ofExcept_ok, Effect.commit_completes, State.rawWrite64_fr _ _ _ hf]

/-- Setting condition codes changes the FCSR only (R430). -/
theorem setFccs_eq (s : State) {n : Nat} (f : Fin n → Bool) (l : List (Fin n)) :
    s.setFccs f l = { s with fcsr := (s.setFccs f l).fcsr } := by
  induction l generalizing s with
  | nil => rfl
  | cons i l ih => rw [State.setFccs, ih]; rfl

/-- What an OB compare can do (R430). -/
theorem mdmxCompareOb_cases {f : Int → Int → Bool} {vs : FprNo} {o : ObOperand} {s t : State}
    (h : (mdmxCompareOb f vs o s).commit s = .next t) :
    (s.cu1 = false ∧ t = takeException (.cpU 1#2) s) ∨ (s.cu1 = true ∧ s.fr = false ∧ t = takeException .ri s) ∨
    (s.cu1 = true ∧ s.fr = true ∧ t = (s.setFccs (fun i => f (obInt (laneOb (s.fgrAt vs) i)) (obInt (o.lane s i)))
      [0, 1, 2, 3, 4, 5, 6, 7]).advance) := by
  rcases mdmxEnter_commit_cases h with h | h | ⟨hc, hf, h⟩
  · exact .inl h
  · exact .inr (.inl h)
  · exact .inr (.inr ⟨hc, hf, (Host.Outcome.next.inj h).symm⟩)

/-- What a QH compare can do (R430). -/
theorem mdmxCompareQh_cases {f : Int → Int → Bool} {vs : FprNo} {o : QhOperand} {s t : State}
    (h : (mdmxCompareQh f vs o s).commit s = .next t) :
    (s.cu1 = false ∧ t = takeException (.cpU 1#2) s) ∨ (s.cu1 = true ∧ s.fr = false ∧ t = takeException .ri s) ∨
    (s.cu1 = true ∧ s.fr = true ∧ t = (s.setFccs (fun i => f (qhInt (laneQh (s.fgrAt vs) i)) (qhInt (o.lane s i)))
      [0, 1, 2, 3]).advance) := by
  rcases mdmxEnter_commit_cases h with h | h | ⟨hc, hf, h⟩
  · exact .inl h
  · exact .inr (.inl h)
  · exact .inr (.inr ⟨hc, hf, (Host.Outcome.next.inj h).symm⟩)

/-- What an OB accumulator instruction can do (R450). -/
theorem mdmxAccOb_cases {f : Int → Int → Int → Int} {vs : FprNo} {o : ObOperand} {s t : State}
    (h : (mdmxAccOb f vs o s).commit s = .next t) :
    (s.cu1 = false ∧ t = takeException (.cpU 1#2) s) ∨ (s.cu1 = true ∧ s.fr = false ∧ t = takeException .ri s) ∨
    (s.cu1 = true ∧ s.fr = true ∧ t = (s.setAccOb fun i => BitVec.ofInt 24 (f (s.accObAt i).toInt
      (obInt (laneOb (s.fgrAt vs) i)) (obInt (o.lane s i)))).advance) := by
  rcases mdmxEnter_commit_cases h with h | h | ⟨hc, hf, h⟩
  · exact .inl h
  · exact .inr (.inl h)
  · exact .inr (.inr ⟨hc, hf, (Host.Outcome.next.inj h).symm⟩)

/-- What a QH accumulator instruction can do (R450). -/
theorem mdmxAccQh_cases {f : Int → Int → Int → Int} {vs : FprNo} {o : QhOperand} {s t : State}
    (h : (mdmxAccQh f vs o s).commit s = .next t) :
    (s.cu1 = false ∧ t = takeException (.cpU 1#2) s) ∨ (s.cu1 = true ∧ s.fr = false ∧ t = takeException .ri s) ∨
    (s.cu1 = true ∧ s.fr = true ∧ t = (s.setAccQh fun i => BitVec.ofInt 48 (f (s.accQhAt i).toInt
      (qhInt (laneQh (s.fgrAt vs) i)) (qhInt (o.lane s i)))).advance) := by
  rcases mdmxEnter_commit_cases h with h | h | ⟨hc, hf, h⟩
  · exact .inl h
  · exact .inr (.inl h)
  · exact .inr (.inr ⟨hc, hf, (Host.Outcome.next.inj h).symm⟩)

/-- What a whole write of `ACC_OB` can do (R460, R461). -/
theorem writeAccOb_cases {f : BitVec 24 → Fin 8 → BitVec 24} {s t : State}
    (h : (writeAccOb f s).commit s = .next t) :
    (s.cu1 = false ∧ t = takeException (.cpU 1#2) s) ∨ (s.cu1 = true ∧ s.fr = false ∧ t = takeException .ri s) ∨
    (s.cu1 = true ∧ s.fr = true ∧ t = (s.setAccOb fun i => f (s.accObAt i) i).advance) := by
  rcases mdmxEnter_commit_cases h with h | h | ⟨hc, hf, h⟩
  · exact .inl h
  · exact .inr (.inl h)
  · exact .inr (.inr ⟨hc, hf, (Host.Outcome.next.inj h).symm⟩)

/-- What a whole write of `ACC_QH` can do (R460, R461). -/
theorem writeAccQh_cases {f : BitVec 48 → Fin 4 → BitVec 48} {s t : State}
    (h : (writeAccQh f s).commit s = .next t) :
    (s.cu1 = false ∧ t = takeException (.cpU 1#2) s) ∨ (s.cu1 = true ∧ s.fr = false ∧ t = takeException .ri s) ∨
    (s.cu1 = true ∧ s.fr = true ∧ t = (s.setAccQh fun i => f (s.accQhAt i) i).advance) := by
  rcases mdmxEnter_commit_cases h with h | h | ⟨hc, hf, h⟩
  · exact .inl h
  · exact .inr (.inl h)
  · exact .inr (.inr ⟨hc, hf, (Host.Outcome.next.inj h).symm⟩)

/-- The lanes of `ACC_OB` after a whole write (R450). -/
theorem accObAt_setAccOb (s : State) (r : Fin 8 → BitVec 24) (i : Fin 8) : (s.setAccOb r).accObAt i = r i := by
  unfold State.accObAt State.setAccOb
  rcases i with ⟨i, hi⟩
  match i, hi with
  | 0, _ | 1, _ | 2, _ | 3, _ | 4, _ | 5, _ | 6, _ | 7, _ => rfl

/-- The lanes of `ACC_QH` after a whole write (R450). -/
theorem accQhAt_setAccQh (s : State) (r : Fin 4 → BitVec 48) (i : Fin 4) : (s.setAccQh r).accQhAt i = r i := by
  unfold State.accQhAt State.setAccQh
  rcases i with ⟨i, hi⟩
  match i, hi with
  | 0, _ | 1, _ | 2, _ | 3, _ => rfl

end Sys2Proof.Machine
end

