-- ==== Sys2Proof/Laws/Shapes.lean ====
section
/-! SUPPORT. Everything one instruction can do, said once: the ways `exec` reaches its next state, for every
constructor. A statement about every instruction is a case split over `Ends`, not over `Instr`. -/

namespace Sys2Proof.Machine

/-- `u` is `s` but for the tags of the operands the instruction reads by `ReadFPR` (R33). -/
structure Retagged (i : Instr) (s u : State) : Prop where
  /-- Nothing but tags. -/
  rest : u = { s with tag := u.tag }
  /-- No tag but those of the sources. -/
  tags : ∀ r, r ∉ fprSources i s → u.tagAt r = s.tagAt r

/-- The ways an instruction can end, each with what it touches. -/
inductive Ends (i : Instr) (s : State) : State → Prop where
  /-- A trap that keeps nothing of the instruction (R11, R510). -/
  | traps (e : Exc) (hint : e ≠ .int) (hce : ∀ n, e = .cpU n → n ∈ [0#2, 1#2]) : Ends i s (takeException e s)
  /-- The trap of `FPRaise` (R296): tags and FCSR are kept. -/
  | trapsFp (u : State) (flags : FpExcs) (hu : Retagged i s u) (hb : fcsrBits i = 0x0003F07C#32) :
    Ends i s (takeException .fpe (u.recordFlags flags))
  /-- The trap of CTC1 (R336): the FCSR is kept. -/
  | trapsCtc (v : BitVec 32) (hb : fcsrBits i = 0xFFFFFFFF#32) :
    Ends i s (takeException .fpe { s with fcsr := fcsrOf v })
  /-- A check-stop, for want of room in the queue (R57). -/
  | stops (hq : s.cfg.pendingCapacity < s.pq.length + queueEntries i) : Ends i s { s with run := .checkStop }
  /-- Only the PC. -/
  | goes (target : Word) : Ends i s (s.setPc target)
  /-- A general register and the PC. -/
  | writesGpr (d : GprNo) (v target : Word) (hd : gprDest i = some d) : Ends i s ((s.writeGpr d v).setPc target)
  /-- HALT (R482). -/
  | halts (hi : i = .halt) : Ends i s ({ s with run := .halted } : State).advance
  /-- A move to CP0 (R486, R487). -/
  | writesCp0 (rd : BitVec 5) (v : Word) (hi : usesCp0 i = true) (hu : s.cp0Usable = true) :
    Ends i s (s.writeCp0 rd v).advance
  /-- ERET (R488). -/
  | returns (hi : i = .eret) (hu : s.cp0Usable = true) : Ends i s (returnFromException s)
  /-- A load (R241). -/
  | loads (dest : PendDest) (v : Word) (hd : dest ≠ .fcsr) (hq : queueEntries i = 1)
    (hr : s.pq.length < s.cfg.pendingCapacity) : Ends i s (s.scheduled dest v)
  /-- A linked load (R96). -/
  | links (rt : GprNo) (v va : Word) (hi : ∃ rt base imm, i = .ll rt base imm ∨ i = .lld rt base imm)
    (hq : queueEntries i = 1) (hr : s.pq.length < s.cfg.pendingCapacity) :
    Ends i s { s.scheduled (.gpr rt) v with llBit := true, llAddr := va }
  /-- A store (R241, R256). -/
  | stores (u : State) (a : Word) (n : Nat) (v : Word) (ha : storeRange i s = some (a, n))
    (hu : memWrite s a n v = .ok u) : Ends i s u.advance
  /-- A conditional store that stores (R97). -/
  | storesLinked (u : State) (rt : GprNo) (a : Word) (n : Nat) (v : Word) (hd : gprDest i = some rt)
    (ha : storeRange i s = some (a, n)) (hu : memWrite s a n v = .ok u) :
    Ends i s (({ u with llBit := false } : State).writeGpr rt 1#64).advance
  /-- A result of FPU arithmetic (R330). -/
  | writesFpr (u : State) (flags : FpExcs) (fd : FprNo) (fmt : Fmt) (v : Word) (hu : Retagged i s u)
    (hb : fcsrBits i = 0x0003F07C#32) (hd : fprDests i s = s.operandRegs fd fmt)
    (h31 : s.fr = false → fmt.wide = true → fd ≠ 31#5) : Ends i s ((u.recordFlags flags).writeFpr fd fmt v).advance
  /-- A formatted move (R337). -/
  | movesFpr (u : State) (fd : FprNo) (fmt : Fmt) (v : Word) (hu : Retagged i s u)
    (hd : fprDests i s = s.operandRegs fd fmt) (h31 : s.fr = false → fmt.wide = true → fd ≠ 31#5) :
    Ends i s (u.writeFpr fd fmt v).advance
  /-- MTC1 (R332). -/
  | writesRaw32 (r : FprNo) (v : BitVec 32) (hd : fprDests i s = [r]) : Ends i s (s.rawWrite32 r v).advance
  /-- DMTC1 (R334). -/
  | writesRaw64 (r : FprNo) (v : Word) (hd : fprDests i s = s.operandRegs r .d) (h31 : s.fr = false → r ≠ 31#5) :
    Ends i s (s.rawWrite64 r v).advance
  /-- An MDMX vector (R401). -/
  | writesVector (vd : FprNo) (v : Word) (hd : fprDests i s = [vd]) (hf : s.fr = true) :
    Ends i s (s.vectorWritten vd v)
  /-- CTC1 (R336). -/
  | writesFcsr (v : BitVec 32) (hb : fcsrBits i = 0xFFFFFFFF#32) : Ends i s ({ s with fcsr := fcsrOf v } : State).advance
  /-- Condition codes of an OB compare (R430). -/
  | setsCodesOb (f : Fin 8 → Bool) (hb : fcsrBits i = 0xFE800000#32) :
    Ends i s (s.setFccs f [0, 1, 2, 3, 4, 5, 6, 7]).advance
  /-- Condition codes of a QH compare (R430). -/
  | setsCodesQh (f : Fin 4 → Bool) (hb : fcsrBits i = 0x0E800000#32) : Ends i s (s.setFccs f [0, 1, 2, 3]).advance
  /-- Condition codes of an FPU compare, scheduled (R371). -/
  | schedules (u : State) (flags : FpExcs) (es : List (BitVec 3 × Bool)) (hu : Retagged i s u)
    (hb : fcsrBits i = 0x0003F07C#32) (hq : queueEntries i = es.length)
    (hr : s.pq.length + es.length ≤ s.cfg.pendingCapacity) :
    Ends i s ({ u.recordFlags flags with pq := s.pq ++ es.map fun e => codeEntry e.1 e.2 } : State).advance
  /-- `ACC_OB` (R450). -/
  | writesAccOb (r : Fin 8 → BitVec 24) (hi : writesAccOb i = true) : Ends i s (s.setAccOb r).advance
  /-- `ACC_QH` (R450). -/
  | writesAccQh (r : Fin 4 → BitVec 48) (hi : writesAccQh i = true) : Ends i s (s.setAccQh r).advance

variable {i : Instr} {s t : State}

/-! ### Tags of the operands -/

theorem Retagged.one {fs : FprNo} {fmt : Fmt} (hs : fprSources i s = s.operandRegs fs fmt) :
    Retagged i s (s.retag fs fmt) where
  rest := by
    have : ∀ (l : List FprNo) (x : FmtTag) (w : State), w.setTags l x = { w with tag := (w.setTags l x).tag } := by
      intro l x
      induction l with
      | nil => intro w; rfl
      | cons r l ih => intro w; rw [State.setTags, ih]; rfl
    exact this _ _ s
  tags r hr := by rw [tagAt_retag, if_neg (by rwa [hs] at hr)]

theorem retag_eq (s : State) (fs : FprNo) (fmt : Fmt) : s.retag fs fmt = { s with tag := (s.retag fs fmt).tag } := by
  have : ∀ (l : List FprNo) (x : FmtTag) (w : State), w.setTags l x = { w with tag := (w.setTags l x).tag } := by
    intro l x
    induction l with
    | nil => intro w; rfl
    | cons r l ih => intro w; rw [State.setTags, ih]; rfl
  exact this _ _ s

/-- Which registers an operand takes does not depend on tags. -/
@[simp] theorem retag_operandRegs (s : State) (fs r : FprNo) (fmt fmt' : Fmt) :
    (s.retag fs fmt).operandRegs r fmt' = s.operandRegs r fmt' := by
  simp [State.operandRegs]

theorem Retagged.two {fs ft : FprNo} {fmt : Fmt}
    (hs : fprSources i s = s.operandRegs fs fmt ++ s.operandRegs ft fmt) :
    Retagged i s ((s.retag fs fmt).retag ft fmt) where
  rest := by rw [retag_eq (s.retag fs fmt), retag_eq s]
  tags r hr := by
    rw [hs, List.mem_append, not_or] at hr
    rw [tagAt_retag, if_neg (by rw [retag_operandRegs]; exact hr.2), tagAt_retag, if_neg hr.1]

theorem Retagged.three {fs ft fr : FprNo} {fmt : Fmt}
    (hs : fprSources i s = s.operandRegs fs fmt ++ s.operandRegs ft fmt ++ s.operandRegs fr fmt) :
    Retagged i s (((s.retag fs fmt).retag ft fmt).retag fr fmt) where
  rest := by rw [retag_eq ((s.retag fs fmt).retag ft fmt), retag_eq (s.retag fs fmt), retag_eq s]
  tags r hr := by
    rw [hs, List.mem_append, List.mem_append, not_or, not_or] at hr
    rw [tagAt_retag, if_neg (by rw [retag_operandRegs, retag_operandRegs]; exact hr.2), tagAt_retag,
      if_neg (by rw [retag_operandRegs]; exact hr.1.2), tagAt_retag, if_neg hr.1.1]

/-! ### One lemma for each shared operation -/

theorem Ends.cpU1 (h : t = takeException (.cpU 1#2) s) : Ends i s t := by
  subst h; exact .traps _ (by simp) (by intro n e; cases e; simp)

theorem Ends.ri (h : t = takeException .ri s) : Ends i s t := by subst h; exact .traps _ (by simp) (by simp)

theorem fpr64Ok_31 {regs : List FprNo} {fd : FprNo} (hr : ∀ r ∈ regs, s.fpr64Ok r = true) (hm : fd ∈ regs)
    (hf : s.fr = false) : fd ≠ 31#5 := by
  intro e; subst e
  rcases (State.fpr64Ok_iff s 31#5).1 (hr _ hm) with h | h
  · rw [hf] at h; cases h
  · exact absurd h (by decide)

theorem checked_31 {fmt : Fmt} {l : List FprNo} {fd : FprNo} (hr : ∀ r ∈ fmt.checked l, s.fpr64Ok r = true)
    (hm : fd ∈ l) (hf : s.fr = false) (hw : fmt.wide = true) : fd ≠ 31#5 :=
  fpr64Ok_31 hr (by simpa [Fmt.checked, hw] using hm) hf

theorem Ends.ofWrite {rd : GprNo} {v : Word} (h : (writeAndAdvance rd v s).commit s = .next t)
    (hd : gprDest i = some rd) : Ends i s t := by
  cases h
  have e : (s.writeGpr rd v).advance = (s.writeGpr rd v).setPc s.nextPc := by simp [State.advance, State.nextPc]
  rw [e]
  exact .writesGpr rd v s.nextPc hd

theorem Ends.ofTrapOrWrite {rd : GprNo} {v : Bool} {r : Word} (h : (trapOrWrite rd v r s).commit s = .next t)
    (hd : gprDest i = some rd) : Ends i s t := by
  cases v
  · exact .ofWrite (s := s) (i := i) h hd
  · cases h; exact .traps _ (by simp) (by simp)

theorem Ends.ofBranch {taken : Bool} {imm : BitVec 16} (h : (branchIf taken imm s).commit s = .next t) :
    Ends i s t := by
  rw [branchIf_commit] at h; cases h; exact .goes _

theorem Ends.ofFpuBranch {cc : BitVec 3} {wanted : Bool} {imm : BitVec 16}
    (h : (fpuBranchIf cc wanted imm s).commit s = .next t) : Ends i s t := by
  rw [fpuBranchIf_commit] at h
  cases hc : s.cu1 <;> rw [hc] at h <;> cases h
  · exact .cpU1 rfl
  · exact .goes _

theorem Ends.ofJumpAndLink {rd : GprNo} {target : Word} (h : (jumpAndLink rd target s).commit s = .next t)
    (hd : gprDest i = some rd) : Ends i s t := by
  cases h; exact .writesGpr rd _ _ hd

theorem Ends.ofLoad {n : Nat} {ext : LoadExt} {rt base : GprNo} {imm : BitVec 16}
    (h : (loadGpr n ext rt base imm s).commit s = .next t) (hn : n = 1 ∨ n = 2 ∨ n = 4 ∨ n = 8)
    (hq : queueEntries i = 1) : Ends i s t := by
  rcases loadGpr_cases hn h with ⟨_, hl, rfl⟩ | ⟨_, hl, rfl⟩ | ⟨_, rfl⟩
  · exact .loads _ _ (by simp) hq hl
  · exact .stops (by omega)
  · exact .traps _ (by simp) (by simp)

theorem Ends.ofLinked {n : Nat} {ext : LoadExt} {rt base : GprNo} {imm : BitVec 16}
    (h : (loadLinked n ext rt base imm s).commit s = .next t) (hn : n = 1 ∨ n = 2 ∨ n = 4 ∨ n = 8)
    (hq : queueEntries i = 1) (hi : ∃ rt base imm, i = .ll rt base imm ∨ i = .lld rt base imm) : Ends i s t := by
  rcases loadLinked_cases hn h with ⟨_, hl, rfl⟩ | ⟨_, hl, rfl⟩ | ⟨_, rfl⟩
  · exact .links _ _ _ hi hq hl
  · exact .stops (by omega)
  · exact .traps _ (by simp) (by simp)

theorem Ends.ofStore {n : Nat} {rt base : GprNo} {imm : BitVec 16}
    (h : (storeGpr n rt base imm s).commit s = .next t) (hn : n = 1 ∨ n = 2 ∨ n = 4 ∨ n = 8)
    (ha : storeRange i s = some (s.effectiveAddress base imm, n)) : Ends i s t := by
  rcases storeGpr_cases hn h with ⟨_, u, hw, rfl⟩ | ⟨_, rfl⟩
  · exact .stores _ _ _ _ ha hw
  · exact .traps _ (by simp) (by simp)

theorem Ends.ofConditional {n : Nat} {rt base : GprNo} {imm : BitVec 16}
    (h : (storeConditional n rt base imm s).commit s = .next t) (hn : n = 1 ∨ n = 2 ∨ n = 4 ∨ n = 8)
    (ha : storeRange i s = if s.llBit then some (s.effectiveAddress base imm, n) else none)
    (hd : gprDest i = some rt) : Ends i s t := by
  rcases storeConditional_cases hn h with ⟨_, hl, u, hw, rfl⟩ | ⟨_, hl, rfl⟩ | ⟨_, rfl⟩
  · exact .storesLinked _ _ _ _ _ hd (by rw [ha, hl]; rfl) hw
  · exact .ofWrite rfl hd
  · exact .traps _ (by simp) (by simp)

theorem Ends.ofMergeWord {a : MergeAccess} {merge : BitVec 32 → BitVec 32 → Nat → BitVec 32} {rt : GprNo}
    (h : (mergeLoadWord a merge rt s).commit s = .next t) (ha : insideDoubleword a.addr a.count = true)
    (hq : queueEntries i = 1) : Ends i s t := by
  rcases mergeLoadWord_cases ha h with ⟨hl, rfl⟩ | ⟨hl, rfl⟩
  · exact .loads _ _ (by simp) hq hl
  · exact .stops (by omega)

theorem Ends.ofMergeDouble {a : MergeAccess} {merge : Word → Word → Nat → Word} {rt : GprNo}
    (h : (mergeLoadDouble a merge rt s).commit s = .next t) (ha : insideDoubleword a.addr a.count = true)
    (hq : queueEntries i = 1) : Ends i s t := by
  rcases mergeLoadDouble_cases ha h with ⟨hl, rfl⟩ | ⟨hl, rfl⟩
  · exact .loads _ _ (by simp) hq hl
  · exact .stops (by omega)

theorem Ends.ofMergeStore {a : MergeAccess} {v : Word} (h : (mergeStore a v s).commit s = .next t)
    (ha : insideDoubleword a.addr a.count = true) (hr : storeRange i s = some (a.addr, a.count)) : Ends i s t := by
  obtain ⟨u, hw, rfl⟩ := mergeStore_cases ha h
  exact .stores _ _ _ _ hr hw

theorem leftPart_eq (w : Nat) (be : Bool) (va : Word) :
    leftPart w be va = ((leftAccess w be va).addr, (leftAccess w be va).count) := by
  cases be <;> rfl

theorem rightPart_eq (w : Nat) (be : Bool) (va : Word) :
    rightPart w be va = ((rightAccess w be va).addr, (rightAccess w be va).count) := by
  cases be <;> rfl

theorem Ends.ofFpuLoad {regs : List FprNo} {dest : PendDest} {n : Nat} {va : Word}
    (h : (Effect.ofExcept s (s.fpEnter regs) fun _ => (loadTo dest n .zero va s).thenAdvance).commit s = .next t)
    (hn : n = 1 ∨ n = 2 ∨ n = 4 ∨ n = 8) (hd : dest ≠ .fcsr) (hq : queueEntries i = 1) : Ends i s t := by
  rcases fpEnter_commit_cases h with ⟨_, h⟩ | ⟨_, _, h⟩ | ⟨_, _, h⟩
  · exact .cpU1 h
  · exact .ri h
  · unfold Effect.thenAdvance at h
    rcases loadTo_cases dest n .zero va s hn with ⟨_, e⟩ | ⟨_, e⟩ <;> rw [e] at h
    · rcases s.sched_cases dest (extendLoaded .zero n (valueOfBytes 64 (s.bigEndianCPU false) (s.bytesFrom va n)))
        none with ⟨hl, e'⟩ | ⟨hl, e'⟩ <;> rw [e'] at h <;> cases h
      · exact .loads _ _ hd hq hl
      · exact .stops (by omega)
    · cases h; exact .traps _ (by simp) (by simp)

theorem Ends.ofFpuStore {regs : List FprNo} {n : Nat} {va v : Word}
    (h : (Effect.ofExcept s (s.fpEnter regs) fun _ => (storeAt n va v s).thenAdvance).commit s = .next t)
    (hn : n = 1 ∨ n = 2 ∨ n = 4 ∨ n = 8) (ha : storeRange i s = some (va, n)) : Ends i s t := by
  rcases fpEnter_commit_cases h with ⟨_, h⟩ | ⟨_, _, h⟩ | ⟨_, _, h⟩
  · exact .cpU1 h
  · exact .ri h
  · unfold Effect.thenAdvance at h
    rcases storeAt_cases n va v s hn with ⟨_, u, hw, e⟩ | ⟨_, e⟩ <;> rw [e] at h <;> cases h
    · exact .stores _ _ _ _ ha hw
    · exact .traps _ (by simp) (by simp)

theorem Ends.ofMoveFromCp0 {rt : GprNo} {rd : BitVec 5} {f : Word → Word}
    (h : (moveFromCp0 rt rd f s).commit s = .next t) (hd : gprDest i = some rt) : Ends i s t := by
  rcases moveFromCp0_cases h with ⟨_, rfl⟩ | ⟨_, _, rfl⟩ | ⟨_, v, _, rfl⟩
  · exact .traps _ (by simp) (by intro n e; cases e; simp)
  · exact .ri rfl
  · exact .ofWrite rfl hd

theorem Ends.ofMoveToCp0 {rd : BitVec 5} {v : Word} (h : (moveToCp0 rd v s).commit s = .next t)
    (hi : usesCp0 i = true) : Ends i s t := by
  rcases moveToCp0_cases h with ⟨_, rfl⟩ | ⟨_, _, rfl⟩ | ⟨hu, _, rfl⟩
  · exact .traps _ (by simp) (by intro n e; cases e; simp)
  · exact .ri rfl
  · exact .writesCp0 _ _ hi hu

theorem Ends.ofEret (h : execEret s = .next t) (hi : i = .eret) : Ends i s t := by
  rcases eret_cases h with ⟨_, rfl⟩ | ⟨hu, rfl⟩
  · exact .traps _ (by simp) (by intro n e; cases e; simp)
  · exact .returns hi hu

theorem Ends.ofWithFpu {regs : List FprNo} {f : State → Effect} (h : (withFpu regs f s).commit s = .next t)
    (k : (∀ r ∈ regs, s.fpr64Ok r = true) → (f s).commit s = .next t → Ends i s t) : Ends i s t := by
  rcases fpEnter_commit_cases h with ⟨_, h⟩ | ⟨_, _, h⟩ | ⟨_, hr, h⟩
  · exact .cpU1 h
  · exact .ri h
  · exact k hr h

theorem Ends.ofUnary {regs : List FprNo} {src dst : Fmt} {op : BitVec 64 → BitVec 64 × FpExcs} {fd fs : FprNo}
    (h : (fpUnary regs src dst op fd fs s).commit s = .next t) (hs : fprSources i s = s.operandRegs fs src)
    (hd : fprDests i s = s.operandRegs fd dst) (hb : fcsrBits i = 0x0003F07C#32)
    (hm : dst.wide = true → fd ∈ regs) : Ends i s t := by
  rcases fpUnary_cases h with ⟨_, h⟩ | ⟨_, _, h⟩ | ⟨_, hr, _, rfl⟩ | ⟨_, _, _, rfl⟩
  · exact .cpU1 h
  · exact .ri h
  · exact .writesFpr _ _ _ _ _ (.one hs) hb hd fun hf hw => fpr64Ok_31 hr (hm hw) hf
  · exact .trapsFp _ _ (.one hs) hb

theorem Ends.ofArith1 {op : FpOp1} {fmt : ArithFmt} {fd fs : FprNo}
    (h : (fpArith1 op fmt fd fs s).commit s = .next t) (hs : fprSources i s = s.operandRegs fs fmt.toFmt)
    (hd : fprDests i s = s.operandRegs fd fmt.toFmt) (hb : fcsrBits i = 0x0003F07C#32) : Ends i s t :=
  .ofUnary h hs hd hb fun hw => by simp [Fmt.checked, hw]

theorem Ends.ofConvert {src dst : Fmt} {op : BitVec 64 → BitVec 64 × FpExcs} {fd fs : FprNo}
    (h : (fpConvert src dst op fd fs s).commit s = .next t) (hs : fprSources i s = s.operandRegs fs src)
    (hd : fprDests i s = s.operandRegs fd dst) (hb : fcsrBits i = 0x0003F07C#32) : Ends i s t :=
  .ofUnary h hs hd hb fun hw => by simp [convertRegs, Fmt.checked, hw]

theorem Ends.ofArith2 {op : FpOp2} {fmt : ArithFmt} {fd fs ft : FprNo}
    (h : (fpArith2 op fmt fd fs ft s).commit s = .next t)
    (hs : fprSources i s = s.operandRegs fs fmt.toFmt ++ s.operandRegs ft fmt.toFmt)
    (hd : fprDests i s = s.operandRegs fd fmt.toFmt) (hb : fcsrBits i = 0x0003F07C#32) : Ends i s t := by
  rcases fpArith2_cases h with ⟨_, h⟩ | ⟨_, _, h⟩ | ⟨_, hr, _, rfl⟩ | ⟨_, _, _, rfl⟩
  · exact .cpU1 h
  · exact .ri h
  · exact .writesFpr _ _ _ _ _ (.two hs) hb hd (checked_31 hr (by simp))
  · exact .trapsFp _ _ (.two hs) hb

theorem Ends.ofArith3 {op : FpOp3} {fmt : ArithFmt} {fd fr fs ft : FprNo}
    (h : (fpArith3 op fmt fd fr fs ft s).commit s = .next t)
    (hs : fprSources i s = s.operandRegs fs fmt.toFmt ++ s.operandRegs ft fmt.toFmt ++ s.operandRegs fr fmt.toFmt)
    (hd : fprDests i s = s.operandRegs fd fmt.toFmt) (hb : fcsrBits i = 0x0003F07C#32) : Ends i s t := by
  rcases fpArith3_cases h with ⟨_, h⟩ | ⟨_, _, h⟩ | ⟨_, hr, _, rfl⟩ | ⟨_, _, _, rfl⟩
  · exact .cpU1 h
  · exact .ri h
  · exact .writesFpr _ _ _ _ _ (.three hs) hb hd (checked_31 hr (by simp))
  · exact .trapsFp _ _ (.three hs) hb

theorem Ends.ofMove {fmt : ArithFmt} {fd fs : FprNo} (h : (fpMove fmt fd fs s).commit s = .next t)
    (hs : fprSources i s = s.operandRegs fs fmt.toFmt) (hd : fprDests i s = s.operandRegs fd fmt.toFmt) :
    Ends i s t := by
  rcases fpMove_cases h with ⟨_, h⟩ | ⟨_, _, h⟩ | ⟨_, hr, rfl⟩
  · exact .cpU1 h
  · exact .ri h
  · exact .movesFpr _ _ _ _ (.one hs) hd (checked_31 hr (by simp))

theorem Ends.ofCompare {f : FpFmt} {fmt : ArithFmt} {narrow : BitVec 64 → FpBits f} {cond : BitVec 4}
    {cc : BitVec 3} {fs ft : FprNo} (h : (fpCompareScalar f fmt narrow cond cc fs ft s).commit s = .next t)
    (hs : fprSources i s = s.operandRegs fs fmt.toFmt ++ s.operandRegs ft fmt.toFmt)
    (hb : fcsrBits i = 0x0003F07C#32) (hq : queueEntries i = 1) : Ends i s t := by
  rcases fpCompareScalar_cases h with ⟨_, h⟩ | ⟨_, _, h⟩ | ⟨_, _, _, rfl⟩ | ⟨_, _, _, hl, rfl⟩ | ⟨_, _, _, hl, rfl⟩
  · exact .cpU1 h
  · exact .ri h
  · exact .trapsFp _ _ (.two hs) hb
  · exact .schedules _ _ [(cc, _)] (.two hs) hb hq (by simpa using hl)
  · exact .stops (by omega)

theorem Ends.ofComparePs {cond : BitVec 4} {cc : BitVec 3} {fs ft : FprNo}
    (h : (fpComparePs cond cc fs ft s).commit s = .next t)
    (hs : fprSources i s = s.operandRegs fs .ps ++ s.operandRegs ft .ps)
    (hb : fcsrBits i = 0x0003F07C#32) (hq : queueEntries i = 2) : Ends i s t := by
  rcases fpComparePs_cases h with ⟨_, h⟩ | ⟨_, _, h⟩ | ⟨_, _, _, rfl⟩ | ⟨_, _, _, hl, rfl⟩ | ⟨_, _, _, hl, rfl⟩
  · exact .cpU1 h
  · exact .ri h
  · exact .trapsFp _ _ (.two hs) hb
  · exact .schedules _ _ [(cc, _), (cc + 1#3, _)] (.two hs) hb hq (by simpa using hl)
  · exact .stops (by omega)

theorem Ends.ofVector {vd : FprNo} {r : State → Word} (h : (mdmxWrite vd r s).commit s = .next t)
    (hd : fprDests i s = [vd]) : Ends i s t := by
  rcases mdmxWrite_cases h with ⟨_, h⟩ | ⟨_, _, h⟩ | ⟨_, hf, rfl⟩
  · exact .cpU1 h
  · exact .ri h
  · exact .writesVector _ _ hd hf

theorem Ends.ofCompareOb {f : Int → Int → Bool} {vs : FprNo} {o : ObOperand}
    (h : (mdmxCompareOb f vs o s).commit s = .next t) (hb : fcsrBits i = 0xFE800000#32) : Ends i s t := by
  rcases mdmxCompareOb_cases h with ⟨_, h⟩ | ⟨_, _, h⟩ | ⟨_, _, rfl⟩
  · exact .cpU1 h
  · exact .ri h
  · exact .setsCodesOb _ hb

theorem Ends.ofCompareQh {f : Int → Int → Bool} {vs : FprNo} {o : QhOperand}
    (h : (mdmxCompareQh f vs o s).commit s = .next t) (hb : fcsrBits i = 0x0E800000#32) : Ends i s t := by
  rcases mdmxCompareQh_cases h with ⟨_, h⟩ | ⟨_, _, h⟩ | ⟨_, _, rfl⟩
  · exact .cpU1 h
  · exact .ri h
  · exact .setsCodesQh _ hb

theorem Ends.ofAccOb {f : Int → Int → Int → Int} {vs : FprNo} {o : ObOperand}
    (h : (mdmxAccOb f vs o s).commit s = .next t) (hi : Machine.writesAccOb i = true) : Ends i s t := by
  rcases mdmxAccOb_cases h with ⟨_, h⟩ | ⟨_, _, h⟩ | ⟨_, _, rfl⟩
  · exact .cpU1 h
  · exact .ri h
  · exact .writesAccOb _ hi

theorem Ends.ofAccQh {f : Int → Int → Int → Int} {vs : FprNo} {o : QhOperand}
    (h : (mdmxAccQh f vs o s).commit s = .next t) (hi : Machine.writesAccQh i = true) : Ends i s t := by
  rcases mdmxAccQh_cases h with ⟨_, h⟩ | ⟨_, _, h⟩ | ⟨_, _, rfl⟩
  · exact .cpU1 h
  · exact .ri h
  · exact .writesAccQh _ hi

theorem Ends.ofWriteAccOb {f : BitVec 24 → Fin 8 → BitVec 24} (h : (writeAccOb f s).commit s = .next t)
    (hi : Machine.writesAccOb i = true) : Ends i s t := by
  rcases writeAccOb_cases h with ⟨_, h⟩ | ⟨_, _, h⟩ | ⟨_, _, rfl⟩
  · exact .cpU1 h
  · exact .ri h
  · exact .writesAccOb _ hi

theorem Ends.ofWriteAccQh {f : BitVec 48 → Fin 4 → BitVec 48} (h : (writeAccQh f s).commit s = .next t)
    (hi : Machine.writesAccQh i = true) : Ends i s t := by
  rcases writeAccQh_cases h with ⟨_, h⟩ | ⟨_, _, h⟩ | ⟨_, _, rfl⟩
  · exact .cpU1 h
  · exact .ri h
  · exact .writesAccQh _ hi

/-- A word of the R layout has its primary opcode in front (R112). -/
theorem rType_primary (op : BitVec 6) (a b c d : BitVec 5) (f : BitVec 6) :
    (rType op a b c d f).extractLsb' 26 6 = op := by
  unfold rType
  ext k hk
  simp only [BitVec.getElem_extractLsb', BitVec.getLsbD_append]
  simp [show ¬ (26 + k < 6) by omega, show ¬ (26 + k - 6 < 5) by omega, show ¬ (26 + k - 6 - 5 < 5) by omega,
    show ¬ (26 + k - 6 - 5 - 5 < 5) by omega, show ¬ (26 + k - 6 - 5 - 5 - 5 < 5) by omega,
    show 26 + k - 6 - 5 - 5 - 5 - 5 = k by omega, BitVec.getLsbD_eq_getElem hk]

theorem usesCp0_mtc0 (rt : GprNo) (rd : BitVec 5) : usesCp0 (.mtc0 rt rd) = true :=
  beq_iff_eq.2 (rType_primary _ _ _ _ _ _)

theorem usesCp0_dmtc0 (rt : GprNo) (rd : BitVec 5) : usesCp0 (.dmtc0 rt rd) = true :=
  beq_iff_eq.2 (rType_primary _ _ _ _ _ _)

/-! ### Every instruction -/

/-- Everything one instruction can do. -/
theorem exec_ends (i : Instr) {s t : State} (h : exec i s = .next t) : Ends i s t :=
  match i with
  | .sll _ _ _ => .ofWrite h rfl
  | .srl _ _ _ => .ofWrite h rfl
  | .sra _ _ _ => .ofWrite h rfl
  | .dsll _ _ _ => .ofWrite h rfl
  | .dsrl _ _ _ => .ofWrite h rfl
  | .dsra _ _ _ => .ofWrite h rfl
  | .dsll32 _ _ _ => .ofWrite h rfl
  | .dsrl32 _ _ _ => .ofWrite h rfl
  | .dsra32 _ _ _ => .ofWrite h rfl
  | .sllv _ _ _ => .ofWrite h rfl
  | .srlv _ _ _ => .ofWrite h rfl
  | .srav _ _ _ => .ofWrite h rfl
  | .dsllv _ _ _ => .ofWrite h rfl
  | .dsrlv _ _ _ => .ofWrite h rfl
  | .dsrav _ _ _ => .ofWrite h rfl
  | .add _ _ _ => .ofTrapOrWrite h rfl
  | .addu _ _ _ => .ofWrite h rfl
  | .sub _ _ _ => .ofTrapOrWrite h rfl
  | .subu _ _ _ => .ofWrite h rfl
  | .and _ _ _ => .ofWrite h rfl
  | .or _ _ _ => .ofWrite h rfl
  | .xor _ _ _ => .ofWrite h rfl
  | .nor _ _ _ => .ofWrite h rfl
  | .slt _ _ _ => .ofWrite h rfl
  | .sltu _ _ _ => .ofWrite h rfl
  | .dadd _ _ _ => .ofTrapOrWrite h rfl
  | .daddu _ _ _ => .ofWrite h rfl
  | .dsub _ _ _ => .ofTrapOrWrite h rfl
  | .dsubu _ _ _ => .ofWrite h rfl
  | .jr _ => by cases h; exact .goes _
  | .jalr _ _ => .ofJumpAndLink h rfl
  | .syscall _ => by cases h; exact .traps _ (by simp) (by simp)
  | .brk _ => by cases h; exact .traps _ (by simp) (by simp)
  | .halt => by cases h; exact .halts rfl
  | .sync => by cases h; exact .goes _
  | .bltz _ _ => .ofBranch h
  | .bgez _ _ => .ofBranch h
  | .j _ => by cases h; exact .goes _
  | .jal _ => .ofJumpAndLink h rfl
  | .beq _ _ _ => .ofBranch h
  | .bne _ _ _ => .ofBranch h
  | .blez _ _ => .ofBranch h
  | .bgtz _ _ => .ofBranch h
  | .addi _ _ _ => .ofTrapOrWrite h rfl
  | .addiu _ _ _ => .ofWrite h rfl
  | .slti _ _ _ => .ofWrite h rfl
  | .sltiu _ _ _ => .ofWrite h rfl
  | .andi _ _ _ => .ofWrite h rfl
  | .ori _ _ _ => .ofWrite h rfl
  | .xori _ _ _ => .ofWrite h rfl
  | .daddi _ _ _ => .ofTrapOrWrite h rfl
  | .daddiu _ _ _ => .ofWrite h rfl
  | .lui _ _ => .ofWrite h rfl
  | .lb _ _ _ => .ofLoad h (.inl rfl) rfl
  | .lbu _ _ _ => .ofLoad h (.inl rfl) rfl
  | .lh _ _ _ => .ofLoad h (.inr (.inl rfl)) rfl
  | .lhu _ _ _ => .ofLoad h (.inr (.inl rfl)) rfl
  | .lw _ _ _ => .ofLoad h (.inr (.inr (.inl rfl))) rfl
  | .lwu _ _ _ => .ofLoad h (.inr (.inr (.inl rfl))) rfl
  | .ld _ _ _ => .ofLoad h (.inr (.inr (.inr rfl))) rfl
  | .sb _ _ _ => .ofStore h (.inl rfl) rfl
  | .sh _ _ _ => .ofStore h (.inr (.inl rfl)) rfl
  | .sw _ _ _ => .ofStore h (.inr (.inr (.inl rfl))) rfl
  | .sd _ _ _ => .ofStore h (.inr (.inr (.inr rfl))) rfl
  | .ll _ _ _ => .ofLinked h (.inr (.inr (.inl rfl))) rfl ⟨_, _, _, .inl rfl⟩
  | .lld _ _ _ => .ofLinked h (.inr (.inr (.inr rfl))) rfl ⟨_, _, _, .inr rfl⟩
  | .sc _ _ _ => .ofConditional h (.inr (.inr (.inl rfl))) rfl rfl
  | .scd _ _ _ => .ofConditional h (.inr (.inr (.inr rfl))) rfl rfl
  | .lwl _ _ _ => .ofMergeWord h (leftAccess_inside 4 _ _ (.inl rfl)).1 rfl
  | .lwr _ _ _ => .ofMergeWord h (rightAccess_inside 4 _ _ (.inl rfl)).1 rfl
  | .ldl _ _ _ => .ofMergeDouble h (leftAccess_inside 8 _ _ (.inr rfl)).1 rfl
  | .ldr _ _ _ => .ofMergeDouble h (rightAccess_inside 8 _ _ (.inr rfl)).1 rfl
  | .swl _ _ _ => .ofMergeStore h (leftAccess_inside 4 _ _ (.inl rfl)).1 (congrArg some (leftPart_eq 4 _ _))
  | .swr _ _ _ => .ofMergeStore h (rightAccess_inside 4 _ _ (.inl rfl)).1 (congrArg some (rightPart_eq 4 _ _))
  | .sdl _ _ _ => .ofMergeStore h (leftAccess_inside 8 _ _ (.inr rfl)).1 (congrArg some (leftPart_eq 8 _ _))
  | .sdr _ _ _ => .ofMergeStore h (rightAccess_inside 8 _ _ (.inr rfl)).1 (congrArg some (rightPart_eq 8 _ _))
  | .lwc1 _ _ _ => .ofFpuLoad h (.inr (.inr (.inl rfl))) (by simp) rfl
  | .ldc1 _ _ _ => .ofFpuLoad h (.inr (.inr (.inr rfl))) (by simp) rfl
  | .swc1 _ _ _ => .ofFpuStore h (.inr (.inr (.inl rfl))) rfl
  | .sdc1 _ _ _ => .ofFpuStore h (.inr (.inr (.inr rfl))) rfl
  | .mfc0 _ _ => .ofMoveFromCp0 h rfl
  | .dmfc0 _ _ => .ofMoveFromCp0 h rfl
  | .mtc0 _ _ => .ofMoveToCp0 h (usesCp0_mtc0 _ _)
  | .dmtc0 _ _ => .ofMoveToCp0 h (usesCp0_dmtc0 _ _)
  | .eret => .ofEret h rfl
  | .mfc1 _ _ => .ofWithFpu h fun _ h => .ofWrite h rfl
  | .dmfc1 _ _ => .ofWithFpu h fun _ h => .ofWrite h rfl
  | .cfc1 _ _ => .ofWithFpu h fun _ h => by
      rcases moveFromFpControl_cases h with ⟨v, _, rfl⟩ | ⟨_, rfl⟩
      · exact .ofWrite rfl rfl
      · exact .ri rfl
  | .mtc1 _ _ => .ofWithFpu h fun _ h => by cases h; exact .writesRaw32 _ _ rfl
  | .dmtc1 _ _ => .ofWithFpu h fun hr h => by cases h; exact .writesRaw64 _ _ rfl (fpr64Ok_31 hr (by simp))
  | .ctc1 _ _ => .ofWithFpu h fun _ h => by
      split at h
      · rcases writeFcsr_cases h with rfl | rfl
        · exact .writesFcsr _ rfl
        · exact .trapsCtc _ rfl
      · cases h; exact .ri rfl
  | .bc1f _ _ => .ofFpuBranch h
  | .bc1t _ _ => .ofFpuBranch h
  | .addS _ _ _ => .ofArith2 h rfl rfl rfl
  | .addD _ _ _ => .ofArith2 h rfl rfl rfl
  | .addPs _ _ _ => .ofArith2 h rfl rfl rfl
  | .subS _ _ _ => .ofArith2 h rfl rfl rfl
  | .subD _ _ _ => .ofArith2 h rfl rfl rfl
  | .subPs _ _ _ => .ofArith2 h rfl rfl rfl
  | .mulS _ _ _ => .ofArith2 h rfl rfl rfl
  | .mulD _ _ _ => .ofArith2 h rfl rfl rfl
  | .mulPs _ _ _ => .ofArith2 h rfl rfl rfl
  | .divS _ _ _ => .ofArith2 h rfl rfl rfl
  | .divD _ _ _ => .ofArith2 h rfl rfl rfl
  | .divPs _ _ _ => .ofArith2 h rfl rfl rfl
  | .recip2S _ _ _ => .ofArith2 h rfl rfl rfl
  | .recip2D _ _ _ => .ofArith2 h rfl rfl rfl
  | .recip2Ps _ _ _ => .ofArith2 h rfl rfl rfl
  | .rsqrt2S _ _ _ => .ofArith2 h rfl rfl rfl
  | .rsqrt2D _ _ _ => .ofArith2 h rfl rfl rfl
  | .rsqrt2Ps _ _ _ => .ofArith2 h rfl rfl rfl
  | .sqrtS _ _ => .ofArith1 h rfl rfl rfl
  | .sqrtD _ _ => .ofArith1 h rfl rfl rfl
  | .sqrtPs _ _ => .ofArith1 h rfl rfl rfl
  | .absS _ _ => .ofArith1 h rfl rfl rfl
  | .absD _ _ => .ofArith1 h rfl rfl rfl
  | .absPs _ _ => .ofArith1 h rfl rfl rfl
  | .movS _ _ => .ofMove h rfl rfl
  | .movD _ _ => .ofMove h rfl rfl
  | .movPs _ _ => .ofMove h rfl rfl
  | .negS _ _ => .ofArith1 h rfl rfl rfl
  | .negD _ _ => .ofArith1 h rfl rfl rfl
  | .negPs _ _ => .ofArith1 h rfl rfl rfl
  | .recipS _ _ => .ofArith1 h rfl rfl rfl
  | .recipD _ _ => .ofArith1 h rfl rfl rfl
  | .recipPs _ _ => .ofArith1 h rfl rfl rfl
  | .roundLS _ _ => .ofConvert h rfl rfl rfl
  | .roundLD _ _ => .ofConvert h rfl rfl rfl
  | .truncLS _ _ => .ofConvert h rfl rfl rfl
  | .truncLD _ _ => .ofConvert h rfl rfl rfl
  | .ceilLS _ _ => .ofConvert h rfl rfl rfl
  | .ceilLD _ _ => .ofConvert h rfl rfl rfl
  | .floorLS _ _ => .ofConvert h rfl rfl rfl
  | .floorLD _ _ => .ofConvert h rfl rfl rfl
  | .roundWS _ _ => .ofConvert h rfl rfl rfl
  | .roundWD _ _ => .ofConvert h rfl rfl rfl
  | .truncWS _ _ => .ofConvert h rfl rfl rfl
  | .truncWD _ _ => .ofConvert h rfl rfl rfl
  | .ceilWS _ _ => .ofConvert h rfl rfl rfl
  | .ceilWD _ _ => .ofConvert h rfl rfl rfl
  | .floorWS _ _ => .ofConvert h rfl rfl rfl
  | .floorWD _ _ => .ofConvert h rfl rfl rfl
  | .cvtWS _ _ => .ofConvert h rfl rfl rfl
  | .cvtWD _ _ => .ofConvert h rfl rfl rfl
  | .cvtLS _ _ => .ofConvert h rfl rfl rfl
  | .cvtLD _ _ => .ofConvert h rfl rfl rfl
  | .cvtSD _ _ => .ofConvert h rfl rfl rfl
  | .cvtSW _ _ => .ofConvert h rfl rfl rfl
  | .cvtSL _ _ => .ofConvert h rfl rfl rfl
  | .cvtDS _ _ => .ofConvert h rfl rfl rfl
  | .cvtDW _ _ => .ofConvert h rfl rfl rfl
  | .cvtDL _ _ => .ofConvert h rfl rfl rfl
  | .cFS _ _ _ => .ofCompare h rfl rfl rfl
  | .cFD _ _ _ => .ofCompare h rfl rfl rfl
  | .cFPs _ _ _ => .ofComparePs h rfl rfl rfl
  | .cUnS _ _ _ => .ofCompare h rfl rfl rfl
  | .cUnD _ _ _ => .ofCompare h rfl rfl rfl
  | .cUnPs _ _ _ => .ofComparePs h rfl rfl rfl
  | .cEqS _ _ _ => .ofCompare h rfl rfl rfl
  | .cEqD _ _ _ => .ofCompare h rfl rfl rfl
  | .cEqPs _ _ _ => .ofComparePs h rfl rfl rfl
  | .cUeqS _ _ _ => .ofCompare h rfl rfl rfl
  | .cUeqD _ _ _ => .ofCompare h rfl rfl rfl
  | .cUeqPs _ _ _ => .ofComparePs h rfl rfl rfl
  | .cOltS _ _ _ => .ofCompare h rfl rfl rfl
  | .cOltD _ _ _ => .ofCompare h rfl rfl rfl
  | .cOltPs _ _ _ => .ofComparePs h rfl rfl rfl
  | .cUltS _ _ _ => .ofCompare h rfl rfl rfl
  | .cUltD _ _ _ => .ofCompare h rfl rfl rfl
  | .cUltPs _ _ _ => .ofComparePs h rfl rfl rfl
  | .cOleS _ _ _ => .ofCompare h rfl rfl rfl
  | .cOleD _ _ _ => .ofCompare h rfl rfl rfl
  | .cOlePs _ _ _ => .ofComparePs h rfl rfl rfl
  | .cUleS _ _ _ => .ofCompare h rfl rfl rfl
  | .cUleD _ _ _ => .ofCompare h rfl rfl rfl
  | .cUlePs _ _ _ => .ofComparePs h rfl rfl rfl
  | .cSfS _ _ _ => .ofCompare h rfl rfl rfl
  | .cSfD _ _ _ => .ofCompare h rfl rfl rfl
  | .cSfPs _ _ _ => .ofComparePs h rfl rfl rfl
  | .cNgleS _ _ _ => .ofCompare h rfl rfl rfl
  | .cNgleD _ _ _ => .ofCompare h rfl rfl rfl
  | .cNglePs _ _ _ => .ofComparePs h rfl rfl rfl
  | .cSeqS _ _ _ => .ofCompare h rfl rfl rfl
  | .cSeqD _ _ _ => .ofCompare h rfl rfl rfl
  | .cSeqPs _ _ _ => .ofComparePs h rfl rfl rfl
  | .cNglS _ _ _ => .ofCompare h rfl rfl rfl
  | .cNglD _ _ _ => .ofCompare h rfl rfl rfl
  | .cNglPs _ _ _ => .ofComparePs h rfl rfl rfl
  | .cLtS _ _ _ => .ofCompare h rfl rfl rfl
  | .cLtD _ _ _ => .ofCompare h rfl rfl rfl
  | .cLtPs _ _ _ => .ofComparePs h rfl rfl rfl
  | .cNgeS _ _ _ => .ofCompare h rfl rfl rfl
  | .cNgeD _ _ _ => .ofCompare h rfl rfl rfl
  | .cNgePs _ _ _ => .ofComparePs h rfl rfl rfl
  | .cLeS _ _ _ => .ofCompare h rfl rfl rfl
  | .cLeD _ _ _ => .ofCompare h rfl rfl rfl
  | .cLePs _ _ _ => .ofComparePs h rfl rfl rfl
  | .cNgtS _ _ _ => .ofCompare h rfl rfl rfl
  | .cNgtD _ _ _ => .ofCompare h rfl rfl rfl
  | .cNgtPs _ _ _ => .ofComparePs h rfl rfl rfl
  | .maddS _ _ _ _ => .ofArith3 h rfl rfl rfl
  | .maddD _ _ _ _ => .ofArith3 h rfl rfl rfl
  | .maddPs _ _ _ _ => .ofArith3 h rfl rfl rfl
  | .msubS _ _ _ _ => .ofArith3 h rfl rfl rfl
  | .msubD _ _ _ _ => .ofArith3 h rfl rfl rfl
  | .msubPs _ _ _ _ => .ofArith3 h rfl rfl rfl
  | .nmaddS _ _ _ _ => .ofArith3 h rfl rfl rfl
  | .nmaddD _ _ _ _ => .ofArith3 h rfl rfl rfl
  | .nmaddPs _ _ _ _ => .ofArith3 h rfl rfl rfl
  | .nmsubS _ _ _ _ => .ofArith3 h rfl rfl rfl
  | .nmsubD _ _ _ _ => .ofArith3 h rfl rfl rfl
  | .nmsubPs _ _ _ _ => .ofArith3 h rfl rfl rfl
  | .addObE _ _ _ _ => .ofVector h rfl
  | .addObV _ _ _ => .ofVector h rfl
  | .addObI _ _ _ => .ofVector h rfl
  | .addQhE _ _ _ _ => .ofVector h rfl
  | .addQhV _ _ _ => .ofVector h rfl
  | .addQhI _ _ _ => .ofVector h rfl
  | .subObE _ _ _ _ => .ofVector h rfl
  | .subObV _ _ _ => .ofVector h rfl
  | .subObI _ _ _ => .ofVector h rfl
  | .subQhE _ _ _ _ => .ofVector h rfl
  | .subQhV _ _ _ => .ofVector h rfl
  | .subQhI _ _ _ => .ofVector h rfl
  | .mulObE _ _ _ _ => .ofVector h rfl
  | .mulObV _ _ _ => .ofVector h rfl
  | .mulObI _ _ _ => .ofVector h rfl
  | .mulQhE _ _ _ _ => .ofVector h rfl
  | .mulQhV _ _ _ => .ofVector h rfl
  | .mulQhI _ _ _ => .ofVector h rfl
  | .minObE _ _ _ _ => .ofVector h rfl
  | .minObV _ _ _ => .ofVector h rfl
  | .minObI _ _ _ => .ofVector h rfl
  | .minQhE _ _ _ _ => .ofVector h rfl
  | .minQhV _ _ _ => .ofVector h rfl
  | .minQhI _ _ _ => .ofVector h rfl
  | .maxObE _ _ _ _ => .ofVector h rfl
  | .maxObV _ _ _ => .ofVector h rfl
  | .maxObI _ _ _ => .ofVector h rfl
  | .maxQhE _ _ _ _ => .ofVector h rfl
  | .maxQhV _ _ _ => .ofVector h rfl
  | .maxQhI _ _ _ => .ofVector h rfl
  | .andObE _ _ _ _ => .ofVector h rfl
  | .andObV _ _ _ => .ofVector h rfl
  | .andObI _ _ _ => .ofVector h rfl
  | .andQhE _ _ _ _ => .ofVector h rfl
  | .andQhV _ _ _ => .ofVector h rfl
  | .andQhI _ _ _ => .ofVector h rfl
  | .orObE _ _ _ _ => .ofVector h rfl
  | .orObV _ _ _ => .ofVector h rfl
  | .orObI _ _ _ => .ofVector h rfl
  | .orQhE _ _ _ _ => .ofVector h rfl
  | .orQhV _ _ _ => .ofVector h rfl
  | .orQhI _ _ _ => .ofVector h rfl
  | .xorObE _ _ _ _ => .ofVector h rfl
  | .xorObV _ _ _ => .ofVector h rfl
  | .xorObI _ _ _ => .ofVector h rfl
  | .xorQhE _ _ _ _ => .ofVector h rfl
  | .xorQhV _ _ _ => .ofVector h rfl
  | .xorQhI _ _ _ => .ofVector h rfl
  | .norObE _ _ _ _ => .ofVector h rfl
  | .norObV _ _ _ => .ofVector h rfl
  | .norObI _ _ _ => .ofVector h rfl
  | .norQhE _ _ _ _ => .ofVector h rfl
  | .norQhV _ _ _ => .ofVector h rfl
  | .norQhI _ _ _ => .ofVector h rfl
  | .sllObE _ _ _ _ => .ofVector h rfl
  | .sllObV _ _ _ => .ofVector h rfl
  | .sllObI _ _ _ => .ofVector h rfl
  | .sllQhE _ _ _ _ => .ofVector h rfl
  | .sllQhV _ _ _ => .ofVector h rfl
  | .sllQhI _ _ _ => .ofVector h rfl
  | .srlObE _ _ _ _ => .ofVector h rfl
  | .srlObV _ _ _ => .ofVector h rfl
  | .srlObI _ _ _ => .ofVector h rfl
  | .srlQhE _ _ _ _ => .ofVector h rfl
  | .srlQhV _ _ _ => .ofVector h rfl
  | .srlQhI _ _ _ => .ofVector h rfl
  | .sraQhE _ _ _ _ => .ofVector h rfl
  | .sraQhV _ _ _ => .ofVector h rfl
  | .sraQhI _ _ _ => .ofVector h rfl
  | .msgnQhE _ _ _ _ => .ofVector h rfl
  | .msgnQhV _ _ _ => .ofVector h rfl
  | .msgnQhI _ _ _ => .ofVector h rfl
  | .pabsdiffObE _ _ _ _ => .ofVector h rfl
  | .pabsdiffObV _ _ _ => .ofVector h rfl
  | .pabsdiffObI _ _ _ => .ofVector h rfl
  | .pavgObE _ _ _ _ => .ofVector h rfl
  | .pavgObV _ _ _ => .ofVector h rfl
  | .pavgObI _ _ _ => .ofVector h rfl
  | .pickfObE _ _ _ _ => .ofVector h rfl
  | .pickfObV _ _ _ => .ofVector h rfl
  | .pickfObI _ _ _ => .ofVector h rfl
  | .pickfQhE _ _ _ _ => .ofVector h rfl
  | .pickfQhV _ _ _ => .ofVector h rfl
  | .pickfQhI _ _ _ => .ofVector h rfl
  | .picktObE _ _ _ _ => .ofVector h rfl
  | .picktObV _ _ _ => .ofVector h rfl
  | .picktObI _ _ _ => .ofVector h rfl
  | .picktQhE _ _ _ _ => .ofVector h rfl
  | .picktQhV _ _ _ => .ofVector h rfl
  | .picktQhI _ _ _ => .ofVector h rfl
  | .cEqObE _ _ _ => .ofCompareOb h rfl
  | .cEqObV _ _ => .ofCompareOb h rfl
  | .cEqObI _ _ => .ofCompareOb h rfl
  | .cEqQhE _ _ _ => .ofCompareQh h rfl
  | .cEqQhV _ _ => .ofCompareQh h rfl
  | .cEqQhI _ _ => .ofCompareQh h rfl
  | .cLtObE _ _ _ => .ofCompareOb h rfl
  | .cLtObV _ _ => .ofCompareOb h rfl
  | .cLtObI _ _ => .ofCompareOb h rfl
  | .cLtQhE _ _ _ => .ofCompareQh h rfl
  | .cLtQhV _ _ => .ofCompareQh h rfl
  | .cLtQhI _ _ => .ofCompareQh h rfl
  | .cLeObE _ _ _ => .ofCompareOb h rfl
  | .cLeObV _ _ => .ofCompareOb h rfl
  | .cLeObI _ _ => .ofCompareOb h rfl
  | .cLeQhE _ _ _ => .ofCompareQh h rfl
  | .cLeQhV _ _ => .ofCompareQh h rfl
  | .cLeQhI _ _ => .ofCompareQh h rfl
  | .mulaObE _ _ _ => .ofAccOb h rfl
  | .mulaObV _ _ => .ofAccOb h rfl
  | .mulaObI _ _ => .ofAccOb h rfl
  | .mulaQhE _ _ _ => .ofAccQh h rfl
  | .mulaQhV _ _ => .ofAccQh h rfl
  | .mulaQhI _ _ => .ofAccQh h rfl
  | .mulsObE _ _ _ => .ofAccOb h rfl
  | .mulsObV _ _ => .ofAccOb h rfl
  | .mulsObI _ _ => .ofAccOb h rfl
  | .mulsQhE _ _ _ => .ofAccQh h rfl
  | .mulsQhV _ _ => .ofAccQh h rfl
  | .mulsQhI _ _ => .ofAccQh h rfl
  | .mullObE _ _ _ => .ofAccOb h rfl
  | .mullObV _ _ => .ofAccOb h rfl
  | .mullObI _ _ => .ofAccOb h rfl
  | .mullQhE _ _ _ => .ofAccQh h rfl
  | .mullQhV _ _ => .ofAccQh h rfl
  | .mullQhI _ _ => .ofAccQh h rfl
  | .mulslObE _ _ _ => .ofAccOb h rfl
  | .mulslObV _ _ => .ofAccOb h rfl
  | .mulslObI _ _ => .ofAccOb h rfl
  | .mulslQhE _ _ _ => .ofAccQh h rfl
  | .mulslQhV _ _ => .ofAccQh h rfl
  | .mulslQhI _ _ => .ofAccQh h rfl
  | .addaObE _ _ _ => .ofAccOb h rfl
  | .addaObV _ _ => .ofAccOb h rfl
  | .addaObI _ _ => .ofAccOb h rfl
  | .addaQhE _ _ _ => .ofAccQh h rfl
  | .addaQhV _ _ => .ofAccQh h rfl
  | .addaQhI _ _ => .ofAccQh h rfl
  | .addlObE _ _ _ => .ofAccOb h rfl
  | .addlObV _ _ => .ofAccOb h rfl
  | .addlObI _ _ => .ofAccOb h rfl
  | .addlQhE _ _ _ => .ofAccQh h rfl
  | .addlQhV _ _ => .ofAccQh h rfl
  | .addlQhI _ _ => .ofAccQh h rfl
  | .subaObE _ _ _ => .ofAccOb h rfl
  | .subaObV _ _ => .ofAccOb h rfl
  | .subaObI _ _ => .ofAccOb h rfl
  | .subaQhE _ _ _ => .ofAccQh h rfl
  | .subaQhV _ _ => .ofAccQh h rfl
  | .subaQhI _ _ => .ofAccQh h rfl
  | .sublObE _ _ _ => .ofAccOb h rfl
  | .sublObV _ _ => .ofAccOb h rfl
  | .sublObI _ _ => .ofAccOb h rfl
  | .sublQhE _ _ _ => .ofAccQh h rfl
  | .sublQhV _ _ => .ofAccQh h rfl
  | .sublQhI _ _ => .ofAccQh h rfl
  | .rzuObE _ _ _ => .ofVector h rfl
  | .rzuObV _ _ => .ofVector h rfl
  | .rzuObI _ _ => .ofVector h rfl
  | .rzuQhE _ _ _ => .ofVector h rfl
  | .rzuQhV _ _ => .ofVector h rfl
  | .rzuQhI _ _ => .ofVector h rfl
  | .rnauObE _ _ _ => .ofVector h rfl
  | .rnauObV _ _ => .ofVector h rfl
  | .rnauObI _ _ => .ofVector h rfl
  | .rnauQhE _ _ _ => .ofVector h rfl
  | .rnauQhV _ _ => .ofVector h rfl
  | .rnauQhI _ _ => .ofVector h rfl
  | .rneuObE _ _ _ => .ofVector h rfl
  | .rneuObV _ _ => .ofVector h rfl
  | .rneuObI _ _ => .ofVector h rfl
  | .rneuQhE _ _ _ => .ofVector h rfl
  | .rneuQhV _ _ => .ofVector h rfl
  | .rneuQhI _ _ => .ofVector h rfl
  | .rzsQhE _ _ _ => .ofVector h rfl
  | .rzsQhV _ _ => .ofVector h rfl
  | .rzsQhI _ _ => .ofVector h rfl
  | .rnasQhE _ _ _ => .ofVector h rfl
  | .rnasQhV _ _ => .ofVector h rfl
  | .rnasQhI _ _ => .ofVector h rfl
  | .rnesQhE _ _ _ => .ofVector h rfl
  | .rnesQhV _ _ => .ofVector h rfl
  | .rnesQhI _ _ => .ofVector h rfl
  | .shflPachOb _ _ _ => .ofVector h rfl
  | .shflPachQh _ _ _ => .ofVector h rfl
  | .shflPaclOb _ _ _ => .ofVector h rfl
  | .shflPaclQh _ _ _ => .ofVector h rfl
  | .shflMixhOb _ _ _ => .ofVector h rfl
  | .shflMixhQh _ _ _ => .ofVector h rfl
  | .shflMixlOb _ _ _ => .ofVector h rfl
  | .shflMixlQh _ _ _ => .ofVector h rfl
  | .shflBflaQh _ _ _ => .ofVector h rfl
  | .shflBflbQh _ _ _ => .ofVector h rfl
  | .shflRepaQh _ _ _ => .ofVector h rfl
  | .shflRepbQh _ _ _ => .ofVector h rfl
  | .wachOb _ => .ofWriteAccOb h rfl
  | .waclOb _ _ => .ofWriteAccOb h rfl
  | .raclOb _ => .ofVector h rfl
  | .racmOb _ => .ofVector h rfl
  | .rachOb _ => .ofVector h rfl
  | .wachQh _ => .ofWriteAccQh h rfl
  | .waclQh _ _ => .ofWriteAccQh h rfl
  | .raclQh _ => .ofVector h rfl
  | .racmQh _ => .ofVector h rfl
  | .rachQh _ => .ofVector h rfl

theorem commit_intro {x : Effect} {o : Host.Outcome State Fault Refusal} (s : State) (h : o = x.commit s) :
    ∃ y : Effect, o = y.commit s := ⟨x, h⟩

/-- Every meaning is the end of one effect (R510, R530). -/
theorem exec_commit (i : Instr) (s : State) : ∃ x : Effect, exec i s = x.commit s := by
  cases i <;> (apply commit_intro; dsimp only [exec]; rfl)

end Sys2Proof.Machine
end

