-- ==== Sys2Proof/Pseudo.lean ====
section
/-! DEFINITION. The pseudo-instructions of 30_encoding.md R131: other spellings of instructions of CORE. Nothing in the
machine uses them. HALT is the constructor `Instr.halt`. -/

namespace Sys2Proof.Pseudo

/-- `NOP`. -/
def nop : Instr := .sll 0#5 0#5 0#5

/-- `MOVE rd,rs`. -/
def move (rd rs : GprNo) : Instr := .or rd rs 0#5

/-- `LI rt,imm` for a 32-bit value, sign-extended: one ADDIU for a signed 16-bit value, one ORI for an unsigned one,
else LUI and, unless the low half is 0, ORI. -/
def li (rt : GprNo) (imm : BitVec 32) : List Instr :=
  let low := imm.extractLsb' 0 16
  if low.signExtend 32 = imm then [.addiu rt 0#5 low]
  else if low.setWidth 32 = imm then [.ori rt 0#5 low]
  else .lui rt (imm.extractLsb' 16 16) :: (if low = 0#16 then [] else [.ori rt rt low])

/-- `NOT rd,rs`. -/
def not (rd rs : GprNo) : Instr := .nor rd rs 0#5

/-- `NEGU rd,rs`. -/
def negu (rd rs : GprNo) : Instr := .subu rd 0#5 rs

/-- `B label`, by the offset field of the branch. -/
def b (imm : BitVec 16) : Instr := .beq 0#5 0#5 imm

/-- `BEQZ rs,label`. -/
def beqz (rs : GprNo) (imm : BitVec 16) : Instr := .beq rs 0#5 imm

/-- `BNEZ rs,label`. -/
def bnez (rs : GprNo) (imm : BitVec 16) : Instr := .bne rs 0#5 imm

/-- `JALR rs`, with the link in `x[31]`. -/
def jalr (rs : GprNo) : Instr := .jalr 31#5 rs

end Sys2Proof.Pseudo
end

