-- ==== Sys2Proof/Tests/Slice0.lean ====
section
/-! SUPPORT. Tests: the well-formedness smoke test, one word of every row of the opcode table, single steps with values
of the spec's own vectors (95_test_vectors.md, 96_test_vectors_fpu_mdmx.md), and for every statement with hypotheses a
state and operands that meet them. Every expected value is the spec's. -/

namespace Sys2Proof.Tests

open Sys2Proof.Machine

set_option Elab.async false

/-- The state an outcome leaves. -/
def after (o : Host.Outcome State Fault Refusal) : State :=
  match o with
  | .next s => s
  | .fault _ => State.reset
  | .refused _ => State.reset

/-- The state of the vectors: after reset, at 0x1000. -/
def s0 : State := { State.reset with pc := 0x1000#64 }

/-- Some general registers set. -/
def gprs (l : List (GprNo × Word)) (s : State) : State := l.foldl (fun s p => s.writeGpr p.1 p.2) s

/-- A little-endian core. -/
def le (s : State) : State := { s with configBE := false }

/-- The memory of 95_test_vectors.md section 5. -/
def mem2 (s : State) : State :=
  s.storeBytes 0x2000#64 [0x11, 0x22, 0x33, 0x44, 0x55, 0x66, 0x77, 0x88, 0x99, 0xAA, 0xBB, 0xCC, 0xDD, 0xEE, 0xFF, 0]

/-- The state of 96_test_vectors_fpu_mdmx.md: CU1 = FR = 1, some registers set raw, and the FCSR. -/
def fpu (l : List (FprNo × Word)) (fcsr : BitVec 32) : State :=
  l.foldl (fun s p => s.rawWrite64 p.1 p.2) { s0 with status := 0x24000000#32, fcsr := fcsr }

/-! ### Well-formedness -/

/-- BREAK with HALT's code is refused (R111, R127). -/
theorem test_wellFormed_brk :
    Instr.wellFormed (.brk 0xFFFFF) = false ∧
    Instr.wellFormed (.brk 0xFFFFE) = true :=
  by decide

/-- A paired-single compare with an odd condition code is refused, each of the sixteen (R371). -/
theorem test_wellFormed_pairedCompares :
    Instr.wellFormed (.cFPs 1 1 2) = false ∧
    Instr.wellFormed (.cUnPs 3 1 2) = false ∧
    Instr.wellFormed (.cEqPs 5 1 2) = false ∧
    Instr.wellFormed (.cUeqPs 7 1 2) = false ∧
    Instr.wellFormed (.cOltPs 1 1 2) = false ∧
    Instr.wellFormed (.cUltPs 3 1 2) = false ∧
    Instr.wellFormed (.cOlePs 5 1 2) = false ∧
    Instr.wellFormed (.cUlePs 7 1 2) = false ∧
    Instr.wellFormed (.cSfPs 1 1 2) = false ∧
    Instr.wellFormed (.cNglePs 3 1 2) = false ∧
    Instr.wellFormed (.cSeqPs 5 1 2) = false ∧
    Instr.wellFormed (.cNglPs 7 1 2) = false ∧
    Instr.wellFormed (.cLtPs 1 1 2) = false ∧
    Instr.wellFormed (.cNgePs 3 1 2) = false ∧
    Instr.wellFormed (.cLePs 5 1 2) = false ∧
    Instr.wellFormed (.cNgtPs 7 1 2) = false :=
  by decide

/-- With an even one it is accepted (R371). -/
theorem test_wellFormed_pairedCompares_even :
    Instr.wellFormed (.cFPs 0 1 2) = true ∧
    Instr.wellFormed (.cUnPs 2 1 2) = true ∧
    Instr.wellFormed (.cEqPs 4 1 2) = true ∧
    Instr.wellFormed (.cUeqPs 6 1 2) = true ∧
    Instr.wellFormed (.cOltPs 0 1 2) = true ∧
    Instr.wellFormed (.cUltPs 2 1 2) = true ∧
    Instr.wellFormed (.cOlePs 4 1 2) = true ∧
    Instr.wellFormed (.cUlePs 6 1 2) = true ∧
    Instr.wellFormed (.cSfPs 0 1 2) = true ∧
    Instr.wellFormed (.cNglePs 2 1 2) = true ∧
    Instr.wellFormed (.cSeqPs 4 1 2) = true ∧
    Instr.wellFormed (.cNglPs 6 1 2) = true ∧
    Instr.wellFormed (.cLtPs 0 1 2) = true ∧
    Instr.wellFormed (.cNgePs 2 1 2) = true ∧
    Instr.wellFormed (.cLePs 4 1 2) = true ∧
    Instr.wellFormed (.cNgtPs 6 1 2) = true :=
  by decide

/-! ### Decoding: a word of every row, written from the masks and fields of opcode_table.json -/

/-- Decoding, from SLL to ADDU. -/
theorem test_decode_sll_to_addu :
    decode 0x000AACC0#32 = .ok (.sll 21 10 19) ∧
    decode 0x000AACC2#32 = .ok (.srl 21 10 19) ∧
    decode 0x000AACC3#32 = .ok (.sra 21 10 19) ∧
    decode 0x000AACF8#32 = .ok (.dsll 21 10 19) ∧
    decode 0x000AACFA#32 = .ok (.dsrl 21 10 19) ∧
    decode 0x000AACFB#32 = .ok (.dsra 21 10 19) ∧
    decode 0x000AACFC#32 = .ok (.dsll32 21 10 19) ∧
    decode 0x000AACFE#32 = .ok (.dsrl32 21 10 19) ∧
    decode 0x000AACFF#32 = .ok (.dsra32 21 10 19) ∧
    decode 0x026AA804#32 = .ok (.sllv 21 10 19) ∧
    decode 0x026AA806#32 = .ok (.srlv 21 10 19) ∧
    decode 0x026AA807#32 = .ok (.srav 21 10 19) ∧
    decode 0x026AA814#32 = .ok (.dsllv 21 10 19) ∧
    decode 0x026AA816#32 = .ok (.dsrlv 21 10 19) ∧
    decode 0x026AA817#32 = .ok (.dsrav 21 10 19) ∧
    decode 0x0153A820#32 = .ok (.add 21 10 19) ∧
    decode 0x0153A821#32 = .ok (.addu 21 10 19) :=
  ⟨rfl, rfl, rfl, rfl, rfl, rfl, rfl, rfl, rfl, rfl, rfl, rfl, rfl, rfl, rfl, rfl, rfl⟩

/-- Decoding, from SUB to HALT. -/
theorem test_decode_sub_to_halt :
    decode 0x0153A822#32 = .ok (.sub 21 10 19) ∧
    decode 0x0153A823#32 = .ok (.subu 21 10 19) ∧
    decode 0x0153A824#32 = .ok (.and 21 10 19) ∧
    decode 0x0153A825#32 = .ok (.or 21 10 19) ∧
    decode 0x0153A826#32 = .ok (.xor 21 10 19) ∧
    decode 0x0153A827#32 = .ok (.nor 21 10 19) ∧
    decode 0x0153A82A#32 = .ok (.slt 21 10 19) ∧
    decode 0x0153A82B#32 = .ok (.sltu 21 10 19) ∧
    decode 0x0153A82C#32 = .ok (.dadd 21 10 19) ∧
    decode 0x0153A82D#32 = .ok (.daddu 21 10 19) ∧
    decode 0x0153A82E#32 = .ok (.dsub 21 10 19) ∧
    decode 0x0153A82F#32 = .ok (.dsubu 21 10 19) ∧
    decode 0x02A00008#32 = .ok (.jr 21) ∧
    decode 0x0140A809#32 = .ok (.jalr 21 10) ∧
    decode 0x02AF378C#32 = .ok (.syscall 0xABCDE) ∧
    decode 0x02AF378D#32 = .ok (.brk 0xABCDE) ∧
    decode 0x03FFFFCD#32 = .ok .halt :=
  ⟨rfl, rfl, rfl, rfl, rfl, rfl, rfl, rfl, rfl, rfl, rfl, rfl, rfl, rfl, rfl, rfl, rfl⟩

/-- Decoding, from SYNC to DADDI. -/
theorem test_decode_sync_to_daddi :
    decode 0x0000000F#32 = .ok .sync ∧
    decode 0x06A08123#32 = .ok (.bltz 21 0x8123) ∧
    decode 0x06A18123#32 = .ok (.bgez 21 0x8123) ∧
    decode 0x0A345678#32 = .ok (.j 0x2345678) ∧
    decode 0x0E345678#32 = .ok (.jal 0x2345678) ∧
    decode 0x12AA8123#32 = .ok (.beq 21 10 0x8123) ∧
    decode 0x16AA8123#32 = .ok (.bne 21 10 0x8123) ∧
    decode 0x1AA08123#32 = .ok (.blez 21 0x8123) ∧
    decode 0x1EA08123#32 = .ok (.bgtz 21 0x8123) ∧
    decode 0x21558123#32 = .ok (.addi 21 10 0x8123) ∧
    decode 0x25558123#32 = .ok (.addiu 21 10 0x8123) ∧
    decode 0x29558123#32 = .ok (.slti 21 10 0x8123) ∧
    decode 0x2D558123#32 = .ok (.sltiu 21 10 0x8123) ∧
    decode 0x31558123#32 = .ok (.andi 21 10 0x8123) ∧
    decode 0x35558123#32 = .ok (.ori 21 10 0x8123) ∧
    decode 0x39558123#32 = .ok (.xori 21 10 0x8123) ∧
    decode 0x61558123#32 = .ok (.daddi 21 10 0x8123) :=
  ⟨rfl, rfl, rfl, rfl, rfl, rfl, rfl, rfl, rfl, rfl, rfl, rfl, rfl, rfl, rfl, rfl, rfl⟩

/-- Decoding, from DADDIU to SCD. -/
theorem test_decode_daddiu_to_scd :
    decode 0x65558123#32 = .ok (.daddiu 21 10 0x8123) ∧
    decode 0x3C158123#32 = .ok (.lui 21 0x8123) ∧
    decode 0x81558123#32 = .ok (.lb 21 10 0x8123) ∧
    decode 0x91558123#32 = .ok (.lbu 21 10 0x8123) ∧
    decode 0x85558123#32 = .ok (.lh 21 10 0x8123) ∧
    decode 0x95558123#32 = .ok (.lhu 21 10 0x8123) ∧
    decode 0x8D558123#32 = .ok (.lw 21 10 0x8123) ∧
    decode 0x9D558123#32 = .ok (.lwu 21 10 0x8123) ∧
    decode 0xDD558123#32 = .ok (.ld 21 10 0x8123) ∧
    decode 0xA1558123#32 = .ok (.sb 21 10 0x8123) ∧
    decode 0xA5558123#32 = .ok (.sh 21 10 0x8123) ∧
    decode 0xAD558123#32 = .ok (.sw 21 10 0x8123) ∧
    decode 0xFD558123#32 = .ok (.sd 21 10 0x8123) ∧
    decode 0xC1558123#32 = .ok (.ll 21 10 0x8123) ∧
    decode 0xD1558123#32 = .ok (.lld 21 10 0x8123) ∧
    decode 0xE1558123#32 = .ok (.sc 21 10 0x8123) ∧
    decode 0xF1558123#32 = .ok (.scd 21 10 0x8123) :=
  ⟨rfl, rfl, rfl, rfl, rfl, rfl, rfl, rfl, rfl, rfl, rfl, rfl, rfl, rfl, rfl, rfl, rfl⟩

/-- Decoding, from LWL to ERET. -/
theorem test_decode_lwl_to_eret :
    decode 0x89558123#32 = .ok (.lwl 21 10 0x8123) ∧
    decode 0x99558123#32 = .ok (.lwr 21 10 0x8123) ∧
    decode 0x69558123#32 = .ok (.ldl 21 10 0x8123) ∧
    decode 0x6D558123#32 = .ok (.ldr 21 10 0x8123) ∧
    decode 0xA9558123#32 = .ok (.swl 21 10 0x8123) ∧
    decode 0xB9558123#32 = .ok (.swr 21 10 0x8123) ∧
    decode 0xB1558123#32 = .ok (.sdl 21 10 0x8123) ∧
    decode 0xB5558123#32 = .ok (.sdr 21 10 0x8123) ∧
    decode 0xC5558123#32 = .ok (.lwc1 21 10 0x8123) ∧
    decode 0xD5558123#32 = .ok (.ldc1 21 10 0x8123) ∧
    decode 0xE5558123#32 = .ok (.swc1 21 10 0x8123) ∧
    decode 0xF5558123#32 = .ok (.sdc1 21 10 0x8123) ∧
    decode 0x40155000#32 = .ok (.mfc0 21 10) ∧
    decode 0x40355000#32 = .ok (.dmfc0 21 10) ∧
    decode 0x40955000#32 = .ok (.mtc0 21 10) ∧
    decode 0x40B55000#32 = .ok (.dmtc0 21 10) ∧
    decode 0x42000018#32 = .ok .eret :=
  ⟨rfl, rfl, rfl, rfl, rfl, rfl, rfl, rfl, rfl, rfl, rfl, rfl, rfl, rfl, rfl, rfl, rfl⟩

/-- Decoding, from MFC1 to MUL.PS. -/
theorem test_decode_mfc1_to_mulPs :
    decode 0x44155000#32 = .ok (.mfc1 21 10) ∧
    decode 0x44355000#32 = .ok (.dmfc1 21 10) ∧
    decode 0x44555000#32 = .ok (.cfc1 21 10) ∧
    decode 0x44955000#32 = .ok (.mtc1 21 10) ∧
    decode 0x44B55000#32 = .ok (.dmtc1 21 10) ∧
    decode 0x44D55000#32 = .ok (.ctc1 21 10) ∧
    decode 0x45148123#32 = .ok (.bc1f 5 0x8123) ∧
    decode 0x45158123#32 = .ok (.bc1t 5 0x8123) ∧
    decode 0x46135540#32 = .ok (.addS 21 10 19) ∧
    decode 0x46335540#32 = .ok (.addD 21 10 19) ∧
    decode 0x46D35540#32 = .ok (.addPs 21 10 19) ∧
    decode 0x46135541#32 = .ok (.subS 21 10 19) ∧
    decode 0x46335541#32 = .ok (.subD 21 10 19) ∧
    decode 0x46D35541#32 = .ok (.subPs 21 10 19) ∧
    decode 0x46135542#32 = .ok (.mulS 21 10 19) ∧
    decode 0x46335542#32 = .ok (.mulD 21 10 19) ∧
    decode 0x46D35542#32 = .ok (.mulPs 21 10 19) :=
  ⟨rfl, rfl, rfl, rfl, rfl, rfl, rfl, rfl, rfl, rfl, rfl, rfl, rfl, rfl, rfl, rfl, rfl⟩

/-- Decoding, from DIV.S to MOV.D. -/
theorem test_decode_divS_to_movD :
    decode 0x46135543#32 = .ok (.divS 21 10 19) ∧
    decode 0x46335543#32 = .ok (.divD 21 10 19) ∧
    decode 0x46D35543#32 = .ok (.divPs 21 10 19) ∧
    decode 0x4613555C#32 = .ok (.recip2S 21 10 19) ∧
    decode 0x4633555C#32 = .ok (.recip2D 21 10 19) ∧
    decode 0x46D3555C#32 = .ok (.recip2Ps 21 10 19) ∧
    decode 0x4613555F#32 = .ok (.rsqrt2S 21 10 19) ∧
    decode 0x4633555F#32 = .ok (.rsqrt2D 21 10 19) ∧
    decode 0x46D3555F#32 = .ok (.rsqrt2Ps 21 10 19) ∧
    decode 0x46005544#32 = .ok (.sqrtS 21 10) ∧
    decode 0x46205544#32 = .ok (.sqrtD 21 10) ∧
    decode 0x46C05544#32 = .ok (.sqrtPs 21 10) ∧
    decode 0x46005545#32 = .ok (.absS 21 10) ∧
    decode 0x46205545#32 = .ok (.absD 21 10) ∧
    decode 0x46C05545#32 = .ok (.absPs 21 10) ∧
    decode 0x46005546#32 = .ok (.movS 21 10) ∧
    decode 0x46205546#32 = .ok (.movD 21 10) :=
  ⟨rfl, rfl, rfl, rfl, rfl, rfl, rfl, rfl, rfl, rfl, rfl, rfl, rfl, rfl, rfl, rfl, rfl⟩

/-- Decoding, from MOV.PS to ROUND.W.D. -/
theorem test_decode_movPs_to_roundWD :
    decode 0x46C05546#32 = .ok (.movPs 21 10) ∧
    decode 0x46005547#32 = .ok (.negS 21 10) ∧
    decode 0x46205547#32 = .ok (.negD 21 10) ∧
    decode 0x46C05547#32 = .ok (.negPs 21 10) ∧
    decode 0x46005555#32 = .ok (.recipS 21 10) ∧
    decode 0x46205555#32 = .ok (.recipD 21 10) ∧
    decode 0x46C05555#32 = .ok (.recipPs 21 10) ∧
    decode 0x46005548#32 = .ok (.roundLS 21 10) ∧
    decode 0x46205548#32 = .ok (.roundLD 21 10) ∧
    decode 0x46005549#32 = .ok (.truncLS 21 10) ∧
    decode 0x46205549#32 = .ok (.truncLD 21 10) ∧
    decode 0x4600554A#32 = .ok (.ceilLS 21 10) ∧
    decode 0x4620554A#32 = .ok (.ceilLD 21 10) ∧
    decode 0x4600554B#32 = .ok (.floorLS 21 10) ∧
    decode 0x4620554B#32 = .ok (.floorLD 21 10) ∧
    decode 0x4600554C#32 = .ok (.roundWS 21 10) ∧
    decode 0x4620554C#32 = .ok (.roundWD 21 10) :=
  ⟨rfl, rfl, rfl, rfl, rfl, rfl, rfl, rfl, rfl, rfl, rfl, rfl, rfl, rfl, rfl, rfl, rfl⟩

/-- Decoding, from TRUNC.W.S to C.F.S. -/
theorem test_decode_truncWS_to_cFS :
    decode 0x4600554D#32 = .ok (.truncWS 21 10) ∧
    decode 0x4620554D#32 = .ok (.truncWD 21 10) ∧
    decode 0x4600554E#32 = .ok (.ceilWS 21 10) ∧
    decode 0x4620554E#32 = .ok (.ceilWD 21 10) ∧
    decode 0x4600554F#32 = .ok (.floorWS 21 10) ∧
    decode 0x4620554F#32 = .ok (.floorWD 21 10) ∧
    decode 0x46005564#32 = .ok (.cvtWS 21 10) ∧
    decode 0x46205564#32 = .ok (.cvtWD 21 10) ∧
    decode 0x46005565#32 = .ok (.cvtLS 21 10) ∧
    decode 0x46205565#32 = .ok (.cvtLD 21 10) ∧
    decode 0x46205560#32 = .ok (.cvtSD 21 10) ∧
    decode 0x46805560#32 = .ok (.cvtSW 21 10) ∧
    decode 0x46A05560#32 = .ok (.cvtSL 21 10) ∧
    decode 0x46005561#32 = .ok (.cvtDS 21 10) ∧
    decode 0x46805561#32 = .ok (.cvtDW 21 10) ∧
    decode 0x46A05561#32 = .ok (.cvtDL 21 10) ∧
    decode 0x46135530#32 = .ok (.cFS 5 10 19) :=
  ⟨rfl, rfl, rfl, rfl, rfl, rfl, rfl, rfl, rfl, rfl, rfl, rfl, rfl, rfl, rfl, rfl, rfl⟩

/-- Decoding, from C.F.D to C.ULT.PS. -/
theorem test_decode_cFD_to_cUltPs :
    decode 0x46335530#32 = .ok (.cFD 5 10 19) ∧
    decode 0x46D35630#32 = .ok (.cFPs 6 10 19) ∧
    decode 0x46135531#32 = .ok (.cUnS 5 10 19) ∧
    decode 0x46335531#32 = .ok (.cUnD 5 10 19) ∧
    decode 0x46D35631#32 = .ok (.cUnPs 6 10 19) ∧
    decode 0x46135532#32 = .ok (.cEqS 5 10 19) ∧
    decode 0x46335532#32 = .ok (.cEqD 5 10 19) ∧
    decode 0x46D35632#32 = .ok (.cEqPs 6 10 19) ∧
    decode 0x46135533#32 = .ok (.cUeqS 5 10 19) ∧
    decode 0x46335533#32 = .ok (.cUeqD 5 10 19) ∧
    decode 0x46D35633#32 = .ok (.cUeqPs 6 10 19) ∧
    decode 0x46135534#32 = .ok (.cOltS 5 10 19) ∧
    decode 0x46335534#32 = .ok (.cOltD 5 10 19) ∧
    decode 0x46D35634#32 = .ok (.cOltPs 6 10 19) ∧
    decode 0x46135535#32 = .ok (.cUltS 5 10 19) ∧
    decode 0x46335535#32 = .ok (.cUltD 5 10 19) ∧
    decode 0x46D35635#32 = .ok (.cUltPs 6 10 19) :=
  ⟨rfl, rfl, rfl, rfl, rfl, rfl, rfl, rfl, rfl, rfl, rfl, rfl, rfl, rfl, rfl, rfl, rfl⟩

/-- Decoding, from C.OLE.S to C.NGL.D. -/
theorem test_decode_cOleS_to_cNglD :
    decode 0x46135536#32 = .ok (.cOleS 5 10 19) ∧
    decode 0x46335536#32 = .ok (.cOleD 5 10 19) ∧
    decode 0x46D35636#32 = .ok (.cOlePs 6 10 19) ∧
    decode 0x46135537#32 = .ok (.cUleS 5 10 19) ∧
    decode 0x46335537#32 = .ok (.cUleD 5 10 19) ∧
    decode 0x46D35637#32 = .ok (.cUlePs 6 10 19) ∧
    decode 0x46135538#32 = .ok (.cSfS 5 10 19) ∧
    decode 0x46335538#32 = .ok (.cSfD 5 10 19) ∧
    decode 0x46D35638#32 = .ok (.cSfPs 6 10 19) ∧
    decode 0x46135539#32 = .ok (.cNgleS 5 10 19) ∧
    decode 0x46335539#32 = .ok (.cNgleD 5 10 19) ∧
    decode 0x46D35639#32 = .ok (.cNglePs 6 10 19) ∧
    decode 0x4613553A#32 = .ok (.cSeqS 5 10 19) ∧
    decode 0x4633553A#32 = .ok (.cSeqD 5 10 19) ∧
    decode 0x46D3563A#32 = .ok (.cSeqPs 6 10 19) ∧
    decode 0x4613553B#32 = .ok (.cNglS 5 10 19) ∧
    decode 0x4633553B#32 = .ok (.cNglD 5 10 19) :=
  ⟨rfl, rfl, rfl, rfl, rfl, rfl, rfl, rfl, rfl, rfl, rfl, rfl, rfl, rfl, rfl, rfl, rfl⟩

/-- Decoding, from C.NGL.PS to MSUB.S. -/
theorem test_decode_cNglPs_to_msubS :
    decode 0x46D3563B#32 = .ok (.cNglPs 6 10 19) ∧
    decode 0x4613553C#32 = .ok (.cLtS 5 10 19) ∧
    decode 0x4633553C#32 = .ok (.cLtD 5 10 19) ∧
    decode 0x46D3563C#32 = .ok (.cLtPs 6 10 19) ∧
    decode 0x4613553D#32 = .ok (.cNgeS 5 10 19) ∧
    decode 0x4633553D#32 = .ok (.cNgeD 5 10 19) ∧
    decode 0x46D3563D#32 = .ok (.cNgePs 6 10 19) ∧
    decode 0x4613553E#32 = .ok (.cLeS 5 10 19) ∧
    decode 0x4633553E#32 = .ok (.cLeD 5 10 19) ∧
    decode 0x46D3563E#32 = .ok (.cLePs 6 10 19) ∧
    decode 0x4613553F#32 = .ok (.cNgtS 5 10 19) ∧
    decode 0x4633553F#32 = .ok (.cNgtD 5 10 19) ∧
    decode 0x46D3563F#32 = .ok (.cNgtPs 6 10 19) ∧
    decode 0x4D469D60#32 = .ok (.maddS 21 10 19 6) ∧
    decode 0x4D469D61#32 = .ok (.maddD 21 10 19 6) ∧
    decode 0x4D469D66#32 = .ok (.maddPs 21 10 19 6) ∧
    decode 0x4D469D68#32 = .ok (.msubS 21 10 19 6) :=
  ⟨rfl, rfl, rfl, rfl, rfl, rfl, rfl, rfl, rfl, rfl, rfl, rfl, rfl, rfl, rfl, rfl, rfl⟩

/-- Decoding, from MSUB.D to SUB.OB. -/
theorem test_decode_msubD_to_subObI :
    decode 0x4D469D69#32 = .ok (.msubD 21 10 19 6) ∧
    decode 0x4D469D6E#32 = .ok (.msubPs 21 10 19 6) ∧
    decode 0x4D469D70#32 = .ok (.nmaddS 21 10 19 6) ∧
    decode 0x4D469D71#32 = .ok (.nmaddD 21 10 19 6) ∧
    decode 0x4D469D76#32 = .ok (.nmaddPs 21 10 19 6) ∧
    decode 0x4D469D78#32 = .ok (.nmsubS 21 10 19 6) ∧
    decode 0x4D469D79#32 = .ok (.nmsubD 21 10 19 6) ∧
    decode 0x4D469D7E#32 = .ok (.nmsubPs 21 10 19 6) ∧
    decode 0x7953554B#32 = .ok (.addObE 21 10 19 5) ∧
    decode 0x7AD3554B#32 = .ok (.addObV 21 10 19) ∧
    decode 0x7BD3554B#32 = .ok (.addObI 21 10 19) ∧
    decode 0x7933554B#32 = .ok (.addQhE 21 10 19 2) ∧
    decode 0x7AB3554B#32 = .ok (.addQhV 21 10 19) ∧
    decode 0x7BB3554B#32 = .ok (.addQhI 21 10 19) ∧
    decode 0x7953554A#32 = .ok (.subObE 21 10 19 5) ∧
    decode 0x7AD3554A#32 = .ok (.subObV 21 10 19) ∧
    decode 0x7BD3554A#32 = .ok (.subObI 21 10 19) :=
  ⟨rfl, rfl, rfl, rfl, rfl, rfl, rfl, rfl, rfl, rfl, rfl, rfl, rfl, rfl, rfl, rfl, rfl⟩

/-- Decoding, from SUB.QH to MAX.OB. -/
theorem test_decode_subQhE_to_maxObV :
    decode 0x7933554A#32 = .ok (.subQhE 21 10 19 2) ∧
    decode 0x7AB3554A#32 = .ok (.subQhV 21 10 19) ∧
    decode 0x7BB3554A#32 = .ok (.subQhI 21 10 19) ∧
    decode 0x79535570#32 = .ok (.mulObE 21 10 19 5) ∧
    decode 0x7AD35570#32 = .ok (.mulObV 21 10 19) ∧
    decode 0x7BD35570#32 = .ok (.mulObI 21 10 19) ∧
    decode 0x79335570#32 = .ok (.mulQhE 21 10 19 2) ∧
    decode 0x7AB35570#32 = .ok (.mulQhV 21 10 19) ∧
    decode 0x7BB35570#32 = .ok (.mulQhI 21 10 19) ∧
    decode 0x79535546#32 = .ok (.minObE 21 10 19 5) ∧
    decode 0x7AD35546#32 = .ok (.minObV 21 10 19) ∧
    decode 0x7BD35546#32 = .ok (.minObI 21 10 19) ∧
    decode 0x79335546#32 = .ok (.minQhE 21 10 19 2) ∧
    decode 0x7AB35546#32 = .ok (.minQhV 21 10 19) ∧
    decode 0x7BB35546#32 = .ok (.minQhI 21 10 19) ∧
    decode 0x79535547#32 = .ok (.maxObE 21 10 19 5) ∧
    decode 0x7AD35547#32 = .ok (.maxObV 21 10 19) :=
  ⟨rfl, rfl, rfl, rfl, rfl, rfl, rfl, rfl, rfl, rfl, rfl, rfl, rfl, rfl, rfl, rfl, rfl⟩

/-- Decoding, from MAX.OB to XOR.OB. -/
theorem test_decode_maxObI_to_xorObE :
    decode 0x7BD35547#32 = .ok (.maxObI 21 10 19) ∧
    decode 0x79335547#32 = .ok (.maxQhE 21 10 19 2) ∧
    decode 0x7AB35547#32 = .ok (.maxQhV 21 10 19) ∧
    decode 0x7BB35547#32 = .ok (.maxQhI 21 10 19) ∧
    decode 0x7953554C#32 = .ok (.andObE 21 10 19 5) ∧
    decode 0x7AD3554C#32 = .ok (.andObV 21 10 19) ∧
    decode 0x7BD3554C#32 = .ok (.andObI 21 10 19) ∧
    decode 0x7933554C#32 = .ok (.andQhE 21 10 19 2) ∧
    decode 0x7AB3554C#32 = .ok (.andQhV 21 10 19) ∧
    decode 0x7BB3554C#32 = .ok (.andQhI 21 10 19) ∧
    decode 0x7953554E#32 = .ok (.orObE 21 10 19 5) ∧
    decode 0x7AD3554E#32 = .ok (.orObV 21 10 19) ∧
    decode 0x7BD3554E#32 = .ok (.orObI 21 10 19) ∧
    decode 0x7933554E#32 = .ok (.orQhE 21 10 19 2) ∧
    decode 0x7AB3554E#32 = .ok (.orQhV 21 10 19) ∧
    decode 0x7BB3554E#32 = .ok (.orQhI 21 10 19) ∧
    decode 0x7953554D#32 = .ok (.xorObE 21 10 19 5) :=
  ⟨rfl, rfl, rfl, rfl, rfl, rfl, rfl, rfl, rfl, rfl, rfl, rfl, rfl, rfl, rfl, rfl, rfl⟩

/-- Decoding, from XOR.OB to SLL.QH. -/
theorem test_decode_xorObV_to_sllQhI :
    decode 0x7AD3554D#32 = .ok (.xorObV 21 10 19) ∧
    decode 0x7BD3554D#32 = .ok (.xorObI 21 10 19) ∧
    decode 0x7933554D#32 = .ok (.xorQhE 21 10 19 2) ∧
    decode 0x7AB3554D#32 = .ok (.xorQhV 21 10 19) ∧
    decode 0x7BB3554D#32 = .ok (.xorQhI 21 10 19) ∧
    decode 0x7953554F#32 = .ok (.norObE 21 10 19 5) ∧
    decode 0x7AD3554F#32 = .ok (.norObV 21 10 19) ∧
    decode 0x7BD3554F#32 = .ok (.norObI 21 10 19) ∧
    decode 0x7933554F#32 = .ok (.norQhE 21 10 19 2) ∧
    decode 0x7AB3554F#32 = .ok (.norQhV 21 10 19) ∧
    decode 0x7BB3554F#32 = .ok (.norQhI 21 10 19) ∧
    decode 0x79535550#32 = .ok (.sllObE 21 10 19 5) ∧
    decode 0x7AD35550#32 = .ok (.sllObV 21 10 19) ∧
    decode 0x7BD35550#32 = .ok (.sllObI 21 10 19) ∧
    decode 0x79335550#32 = .ok (.sllQhE 21 10 19 2) ∧
    decode 0x7AB35550#32 = .ok (.sllQhV 21 10 19) ∧
    decode 0x7BB35550#32 = .ok (.sllQhI 21 10 19) :=
  ⟨rfl, rfl, rfl, rfl, rfl, rfl, rfl, rfl, rfl, rfl, rfl, rfl, rfl, rfl, rfl, rfl, rfl⟩

/-- Decoding, from SRL.OB to PAVG.OB. -/
theorem test_decode_srlObE_to_pavgObV :
    decode 0x79535552#32 = .ok (.srlObE 21 10 19 5) ∧
    decode 0x7AD35552#32 = .ok (.srlObV 21 10 19) ∧
    decode 0x7BD35552#32 = .ok (.srlObI 21 10 19) ∧
    decode 0x79335552#32 = .ok (.srlQhE 21 10 19 2) ∧
    decode 0x7AB35552#32 = .ok (.srlQhV 21 10 19) ∧
    decode 0x7BB35552#32 = .ok (.srlQhI 21 10 19) ∧
    decode 0x79335553#32 = .ok (.sraQhE 21 10 19 2) ∧
    decode 0x7AB35553#32 = .ok (.sraQhV 21 10 19) ∧
    decode 0x7BB35553#32 = .ok (.sraQhI 21 10 19) ∧
    decode 0x79335540#32 = .ok (.msgnQhE 21 10 19 2) ∧
    decode 0x7AB35540#32 = .ok (.msgnQhV 21 10 19) ∧
    decode 0x7BB35540#32 = .ok (.msgnQhI 21 10 19) ∧
    decode 0x79535549#32 = .ok (.pabsdiffObE 21 10 19 5) ∧
    decode 0x7AD35549#32 = .ok (.pabsdiffObV 21 10 19) ∧
    decode 0x7BD35549#32 = .ok (.pabsdiffObI 21 10 19) ∧
    decode 0x79535548#32 = .ok (.pavgObE 21 10 19 5) ∧
    decode 0x7AD35548#32 = .ok (.pavgObV 21 10 19) :=
  ⟨rfl, rfl, rfl, rfl, rfl, rfl, rfl, rfl, rfl, rfl, rfl, rfl, rfl, rfl, rfl, rfl, rfl⟩

/-- Decoding, from PAVG.OB to C.EQ.QH. -/
theorem test_decode_pavgObI_to_cEqQhE :
    decode 0x7BD35548#32 = .ok (.pavgObI 21 10 19) ∧
    decode 0x79535542#32 = .ok (.pickfObE 21 10 19 5) ∧
    decode 0x7AD35542#32 = .ok (.pickfObV 21 10 19) ∧
    decode 0x7BD35542#32 = .ok (.pickfObI 21 10 19) ∧
    decode 0x79335542#32 = .ok (.pickfQhE 21 10 19 2) ∧
    decode 0x7AB35542#32 = .ok (.pickfQhV 21 10 19) ∧
    decode 0x7BB35542#32 = .ok (.pickfQhI 21 10 19) ∧
    decode 0x79535543#32 = .ok (.picktObE 21 10 19 5) ∧
    decode 0x7AD35543#32 = .ok (.picktObV 21 10 19) ∧
    decode 0x7BD35543#32 = .ok (.picktObI 21 10 19) ∧
    decode 0x79335543#32 = .ok (.picktQhE 21 10 19 2) ∧
    decode 0x7AB35543#32 = .ok (.picktQhV 21 10 19) ∧
    decode 0x7BB35543#32 = .ok (.picktQhI 21 10 19) ∧
    decode 0x794AA801#32 = .ok (.cEqObE 21 10 5) ∧
    decode 0x7ACAA801#32 = .ok (.cEqObV 21 10) ∧
    decode 0x7BCAA801#32 = .ok (.cEqObI 21 10) ∧
    decode 0x792AA801#32 = .ok (.cEqQhE 21 10 2) :=
  ⟨rfl, rfl, rfl, rfl, rfl, rfl, rfl, rfl, rfl, rfl, rfl, rfl, rfl, rfl, rfl, rfl, rfl⟩

/-- Decoding, from C.EQ.QH to MULA.OB. -/
theorem test_decode_cEqQhV_to_mulaObI :
    decode 0x7AAAA801#32 = .ok (.cEqQhV 21 10) ∧
    decode 0x7BAAA801#32 = .ok (.cEqQhI 21 10) ∧
    decode 0x794AA804#32 = .ok (.cLtObE 21 10 5) ∧
    decode 0x7ACAA804#32 = .ok (.cLtObV 21 10) ∧
    decode 0x7BCAA804#32 = .ok (.cLtObI 21 10) ∧
    decode 0x792AA804#32 = .ok (.cLtQhE 21 10 2) ∧
    decode 0x7AAAA804#32 = .ok (.cLtQhV 21 10) ∧
    decode 0x7BAAA804#32 = .ok (.cLtQhI 21 10) ∧
    decode 0x794AA805#32 = .ok (.cLeObE 21 10 5) ∧
    decode 0x7ACAA805#32 = .ok (.cLeObV 21 10) ∧
    decode 0x7BCAA805#32 = .ok (.cLeObI 21 10) ∧
    decode 0x792AA805#32 = .ok (.cLeQhE 21 10 2) ∧
    decode 0x7AAAA805#32 = .ok (.cLeQhV 21 10) ∧
    decode 0x7BAAA805#32 = .ok (.cLeQhI 21 10) ∧
    decode 0x794AA833#32 = .ok (.mulaObE 21 10 5) ∧
    decode 0x7ACAA833#32 = .ok (.mulaObV 21 10) ∧
    decode 0x7BCAA833#32 = .ok (.mulaObI 21 10) :=
  ⟨rfl, rfl, rfl, rfl, rfl, rfl, rfl, rfl, rfl, rfl, rfl, rfl, rfl, rfl, rfl, rfl, rfl⟩

/-- Decoding, from MULA.QH to MULSL.OB. -/
theorem test_decode_mulaQhE_to_mulslObV :
    decode 0x792AA833#32 = .ok (.mulaQhE 21 10 2) ∧
    decode 0x7AAAA833#32 = .ok (.mulaQhV 21 10) ∧
    decode 0x7BAAA833#32 = .ok (.mulaQhI 21 10) ∧
    decode 0x794AA832#32 = .ok (.mulsObE 21 10 5) ∧
    decode 0x7ACAA832#32 = .ok (.mulsObV 21 10) ∧
    decode 0x7BCAA832#32 = .ok (.mulsObI 21 10) ∧
    decode 0x792AA832#32 = .ok (.mulsQhE 21 10 2) ∧
    decode 0x7AAAA832#32 = .ok (.mulsQhV 21 10) ∧
    decode 0x7BAAA832#32 = .ok (.mulsQhI 21 10) ∧
    decode 0x794AAC33#32 = .ok (.mullObE 21 10 5) ∧
    decode 0x7ACAAC33#32 = .ok (.mullObV 21 10) ∧
    decode 0x7BCAAC33#32 = .ok (.mullObI 21 10) ∧
    decode 0x792AAC33#32 = .ok (.mullQhE 21 10 2) ∧
    decode 0x7AAAAC33#32 = .ok (.mullQhV 21 10) ∧
    decode 0x7BAAAC33#32 = .ok (.mullQhI 21 10) ∧
    decode 0x794AAC32#32 = .ok (.mulslObE 21 10 5) ∧
    decode 0x7ACAAC32#32 = .ok (.mulslObV 21 10) :=
  ⟨rfl, rfl, rfl, rfl, rfl, rfl, rfl, rfl, rfl, rfl, rfl, rfl, rfl, rfl, rfl, rfl, rfl⟩

/-- Decoding, from MULSL.OB to SUBA.OB. -/
theorem test_decode_mulslObI_to_subaObE :
    decode 0x7BCAAC32#32 = .ok (.mulslObI 21 10) ∧
    decode 0x792AAC32#32 = .ok (.mulslQhE 21 10 2) ∧
    decode 0x7AAAAC32#32 = .ok (.mulslQhV 21 10) ∧
    decode 0x7BAAAC32#32 = .ok (.mulslQhI 21 10) ∧
    decode 0x794AA837#32 = .ok (.addaObE 21 10 5) ∧
    decode 0x7ACAA837#32 = .ok (.addaObV 21 10) ∧
    decode 0x7BCAA837#32 = .ok (.addaObI 21 10) ∧
    decode 0x792AA837#32 = .ok (.addaQhE 21 10 2) ∧
    decode 0x7AAAA837#32 = .ok (.addaQhV 21 10) ∧
    decode 0x7BAAA837#32 = .ok (.addaQhI 21 10) ∧
    decode 0x794AAC37#32 = .ok (.addlObE 21 10 5) ∧
    decode 0x7ACAAC37#32 = .ok (.addlObV 21 10) ∧
    decode 0x7BCAAC37#32 = .ok (.addlObI 21 10) ∧
    decode 0x792AAC37#32 = .ok (.addlQhE 21 10 2) ∧
    decode 0x7AAAAC37#32 = .ok (.addlQhV 21 10) ∧
    decode 0x7BAAAC37#32 = .ok (.addlQhI 21 10) ∧
    decode 0x794AA836#32 = .ok (.subaObE 21 10 5) :=
  ⟨rfl, rfl, rfl, rfl, rfl, rfl, rfl, rfl, rfl, rfl, rfl, rfl, rfl, rfl, rfl, rfl, rfl⟩

/-- Decoding, from SUBA.OB to RZU.QH. -/
theorem test_decode_subaObV_to_rzuQhI :
    decode 0x7ACAA836#32 = .ok (.subaObV 21 10) ∧
    decode 0x7BCAA836#32 = .ok (.subaObI 21 10) ∧
    decode 0x792AA836#32 = .ok (.subaQhE 21 10 2) ∧
    decode 0x7AAAA836#32 = .ok (.subaQhV 21 10) ∧
    decode 0x7BAAA836#32 = .ok (.subaQhI 21 10) ∧
    decode 0x794AAC36#32 = .ok (.sublObE 21 10 5) ∧
    decode 0x7ACAAC36#32 = .ok (.sublObV 21 10) ∧
    decode 0x7BCAAC36#32 = .ok (.sublObI 21 10) ∧
    decode 0x792AAC36#32 = .ok (.sublQhE 21 10 2) ∧
    decode 0x7AAAAC36#32 = .ok (.sublQhV 21 10) ∧
    decode 0x7BAAAC36#32 = .ok (.sublQhI 21 10) ∧
    decode 0x794A0560#32 = .ok (.rzuObE 21 10 5) ∧
    decode 0x7ACA0560#32 = .ok (.rzuObV 21 10) ∧
    decode 0x7BCA0560#32 = .ok (.rzuObI 21 10) ∧
    decode 0x792A0560#32 = .ok (.rzuQhE 21 10 2) ∧
    decode 0x7AAA0560#32 = .ok (.rzuQhV 21 10) ∧
    decode 0x7BAA0560#32 = .ok (.rzuQhI 21 10) :=
  ⟨rfl, rfl, rfl, rfl, rfl, rfl, rfl, rfl, rfl, rfl, rfl, rfl, rfl, rfl, rfl, rfl, rfl⟩

/-- Decoding, from RNAU.OB to RNAS.QH. -/
theorem test_decode_rnauObE_to_rnasQhV :
    decode 0x794A0561#32 = .ok (.rnauObE 21 10 5) ∧
    decode 0x7ACA0561#32 = .ok (.rnauObV 21 10) ∧
    decode 0x7BCA0561#32 = .ok (.rnauObI 21 10) ∧
    decode 0x792A0561#32 = .ok (.rnauQhE 21 10 2) ∧
    decode 0x7AAA0561#32 = .ok (.rnauQhV 21 10) ∧
    decode 0x7BAA0561#32 = .ok (.rnauQhI 21 10) ∧
    decode 0x794A0562#32 = .ok (.rneuObE 21 10 5) ∧
    decode 0x7ACA0562#32 = .ok (.rneuObV 21 10) ∧
    decode 0x7BCA0562#32 = .ok (.rneuObI 21 10) ∧
    decode 0x792A0562#32 = .ok (.rneuQhE 21 10 2) ∧
    decode 0x7AAA0562#32 = .ok (.rneuQhV 21 10) ∧
    decode 0x7BAA0562#32 = .ok (.rneuQhI 21 10) ∧
    decode 0x792A0564#32 = .ok (.rzsQhE 21 10 2) ∧
    decode 0x7AAA0564#32 = .ok (.rzsQhV 21 10) ∧
    decode 0x7BAA0564#32 = .ok (.rzsQhI 21 10) ∧
    decode 0x792A0565#32 = .ok (.rnasQhE 21 10 2) ∧
    decode 0x7AAA0565#32 = .ok (.rnasQhV 21 10) :=
  ⟨rfl, rfl, rfl, rfl, rfl, rfl, rfl, rfl, rfl, rfl, rfl, rfl, rfl, rfl, rfl, rfl, rfl⟩

/-- Decoding, from RNAS.QH to WACH.OB. -/
theorem test_decode_rnasQhI_to_wachOb :
    decode 0x7BAA0565#32 = .ok (.rnasQhI 21 10) ∧
    decode 0x792A0566#32 = .ok (.rnesQhE 21 10 2) ∧
    decode 0x7AAA0566#32 = .ok (.rnesQhV 21 10) ∧
    decode 0x7BAA0566#32 = .ok (.rnesQhI 21 10) ∧
    decode 0x7893555F#32 = .ok (.shflPachOb 21 10 19) ∧
    decode 0x78B3555F#32 = .ok (.shflPachQh 21 10 19) ∧
    decode 0x78D3555F#32 = .ok (.shflPaclOb 21 10 19) ∧
    decode 0x78F3555F#32 = .ok (.shflPaclQh 21 10 19) ∧
    decode 0x7913555F#32 = .ok (.shflMixhOb 21 10 19) ∧
    decode 0x7933555F#32 = .ok (.shflMixhQh 21 10 19) ∧
    decode 0x7953555F#32 = .ok (.shflMixlOb 21 10 19) ∧
    decode 0x7973555F#32 = .ok (.shflMixlQh 21 10 19) ∧
    decode 0x79B3555F#32 = .ok (.shflBflaQh 21 10 19) ∧
    decode 0x79F3555F#32 = .ok (.shflBflbQh 21 10 19) ∧
    decode 0x7A33555F#32 = .ok (.shflRepaQh 21 10 19) ∧
    decode 0x7A73555F#32 = .ok (.shflRepbQh 21 10 19) ∧
    decode 0x7800A83E#32 = .ok (.wachOb 21) :=
  ⟨rfl, rfl, rfl, rfl, rfl, rfl, rfl, rfl, rfl, rfl, rfl, rfl, rfl, rfl, rfl, rfl, rfl⟩

/-- Decoding, from WACL.OB to RACH.QH. -/
theorem test_decode_waclOb_to_rachQh :
    decode 0x7A0AA83E#32 = .ok (.waclOb 21 10) ∧
    decode 0x7800057F#32 = .ok (.raclOb 21) ∧
    decode 0x7900057F#32 = .ok (.racmOb 21) ∧
    decode 0x7A00057F#32 = .ok (.rachOb 21) ∧
    decode 0x7820A83E#32 = .ok (.wachQh 21) ∧
    decode 0x7A2AA83E#32 = .ok (.waclQh 21 10) ∧
    decode 0x7820057F#32 = .ok (.raclQh 21) ∧
    decode 0x7920057F#32 = .ok (.racmQh 21) ∧
    decode 0x7A20057F#32 = .ok (.rachQh 21) :=
  ⟨rfl, rfl, rfl, rfl, rfl, rfl, rfl, rfl, rfl⟩

/-- Reserved words of the integer side raise ReservedInstruction (95_test_vectors.md section 6.1). -/
theorem test_reserved_words :
    (after (step (s0.withFetchWord 32 0x00000001))).excCode = 10#5 ∧
    (after (step (s0.withFetchWord 32 0x70000000))).excCode = 10#5 ∧
    (after (step (s0.withFetchWord 32 0xEC000000))).excCode = 10#5 ∧
    (after (step (s0.withFetchWord 32 0x0000004F))).excCode = 10#5 ∧
    (after (step (s0.withFetchWord 32 0x00200000))).excCode = 10#5 ∧
    (after (step (s0.withFetchWord 32 0x04020000))).excCode = 10#5 ∧
    (after (step (s0.withFetchWord 32 0x42000019))).excCode = 10#5 ∧
    (after (step (s0.withFetchWord 32 0x44000001))).excCode = 10#5 ∧
    (after (step (s0.withFetchWord 32 0x4D000000))).excCode = 10#5 :=
  by decide +kernel

/-- Reserved MDMX words, and C.LT.PS with an odd code (96_test_vectors_fpu_mdmx.md sections 9.3, 10.5). -/
theorem test_reserved_mdmx_words :
    (after (step ((fpu [] 0).withFetchWord 32 0x7AC10093))).excCode = 10#5 ∧
    (after (step ((fpu [] 0).withFetchWord 32 0x7AC10080))).excCode = 10#5 ∧
    (after (step ((fpu [] 0).withFetchWord 32 0x7AA10089))).excCode = 10#5 ∧
    (after (step ((fpu [] 0).withFetchWord 32 0x7AA10088))).excCode = 10#5 ∧
    (after (step ((fpu [] 0).withFetchWord 32 0x7AC100A4))).excCode = 10#5 ∧
    (after (step ((fpu [] 0).withFetchWord 32 0x7AC10041))).excCode = 10#5 ∧
    (after (step ((fpu [] 0).withFetchWord 32 0x7981009F))).excCode = 10#5 ∧
    (after (step ((fpu [] 0).withFetchWord 32 0x7801009F))).excCode = 10#5 ∧
    (after (step ((fpu [] 0).withFetchWord 32 0x7AC10011))).excCode = 10#5 ∧
    (after (step ((fpu [] 0).withFetchWord 32 0x7AC10073))).excCode = 10#5 ∧
    (after (step ((fpu [] 0).withFetchWord 32 0x46C1033C))).excCode = 10#5 :=
  by decide +kernel

/-- The pseudo-instructions (R131). -/
theorem test_pseudo :
    encode Pseudo.nop = 0#32 ∧
    encode .halt = 0x03FFFFCD#32 ∧
    Pseudo.li 1 0x7FFFFFFF = [.lui 1 0x7FFF, .ori 1 1 0xFFFF] ∧
    Pseudo.li 1 0xFFFF8000 = [.addiu 1 0 0x8000] ∧
    Pseudo.li 1 0x8000 = [.ori 1 0 0x8000] ∧
    Pseudo.li 1 0x10000 = [.lui 1 1] :=
  ⟨rfl, rfl, rfl, rfl, rfl, rfl⟩

/-! ### One step, with the values of 95_test_vectors.md and 96_test_vectors_fpu_mdmx.md -/

/-- 95_test_vectors.md section 1.1: the ALU edge cases, at 8 and 64 bits. -/
theorem test_alu_edges :
    (Alu.begin 0x80#8).addWithCarryIn 0x80#8 false = ⟨0#8, true, true⟩ ∧
    (Alu.begin 0x7F#8).addWithCarryIn 0x80#8 false = ⟨0xFF#8, false, false⟩ ∧
    (Alu.begin 0x8000000000000000#64).addWithCarryIn 0x8000000000000000#64 false = ⟨0#64, true, true⟩ ∧
    (Alu.begin 0x80#8).subtractViaNegatedAdd 0x7F#8 true = ⟨0x00#8, true, true⟩ ∧
    (Alu.begin 0x7F#8).subtractDirect 0x80#8 true = ⟨0xFE#8, true, true⟩ :=
  by decide +kernel

/-- 95_test_vectors.md section 3.1: the forms that wrap. -/
theorem test_adds_wrap :
    (let t := after (exec (.addu 3 1 2) (gprs [(2, 0x5555#64), (3, 0x5555#64), (1, 0x7FFFFFFF#64), (2, 0x1#64)]
      s0)); t.readGpr 3 = 0xFFFFFFFF80000000#64 ∧ t.pc = 0x1004#64) ∧
    (let t := after (exec (.subu 3 1 2) (gprs [(2, 0x5555#64), (3, 0x5555#64), (1, 0xFFFFFFFF80000000#64), (2,
      0x1#64)] s0)); t.readGpr 3 = 0x7FFFFFFF#64 ∧ t.pc = 0x1004#64) ∧
    (let t := after (exec (.daddu 3 1 2) (gprs [(2, 0x5555#64), (3, 0x5555#64), (1, 0x8000000000000000#64), (2,
      0x8000000000000000#64)] s0)); t.readGpr 3 = 0x0#64 ∧ t.pc = 0x1004#64) ∧
    (let t := after (exec (.dsubu 3 1 2) (gprs [(2, 0x5555#64), (3, 0x5555#64), (1, 0x8000000000000000#64), (2,
      0x1#64)] s0)); t.readGpr 3 = 0x7FFFFFFFFFFFFFFF#64 ∧ t.pc = 0x1004#64) ∧
    (let t := after (exec (.addiu 2 1 1) (gprs [(2, 0x5555#64), (3, 0x5555#64), (1, 0x7FFFFFFF#64)] s0));
      t.readGpr 2 = 0xFFFFFFFF80000000#64 ∧ t.pc = 0x1004#64) ∧
    (let t := after (exec (.daddiu 2 1 32768) (gprs [(2, 0x5555#64), (3, 0x5555#64), (1, 0x0#64)] s0)); t.readGpr
      2 = 0xFFFFFFFFFFFF8000#64 ∧ t.pc = 0x1004#64) :=
  by decide +kernel

/-- 95_test_vectors.md section 3.1: the forms that trap, with an overflow. -/
theorem test_adds_trap :
    (let t := after (exec (.add 3 1 2) (gprs [(2, 0x5555#64), (3, 0x5555#64), (1, 0x7FFFFFFF#64), (2, 0x1#64)]
      s0)); t.readGpr 3 = 0x5555#64 ∧ t.excCode = 12#5 ∧ t.epc = 0x1000#64 ∧ t.status = 2#32 ∧ t.pc =
      0xFFFFFFFF80000180#64) ∧
    (let t := after (exec (.sub 3 1 2) (gprs [(2, 0x5555#64), (3, 0x5555#64), (1, 0x0#64), (2,
      0xFFFFFFFF80000000#64)] s0)); t.readGpr 3 = 0x5555#64 ∧ t.excCode = 12#5 ∧ t.epc = 0x1000#64 ∧ t.status = 2#32
      ∧ t.pc = 0xFFFFFFFF80000180#64) ∧
    (let t := after (exec (.dadd 3 1 2) (gprs [(2, 0x5555#64), (3, 0x5555#64), (1, 0x7FFFFFFFFFFFFFFF#64), (2,
      0x1#64)] s0)); t.readGpr 3 = 0x5555#64 ∧ t.excCode = 12#5 ∧ t.epc = 0x1000#64 ∧ t.status = 2#32 ∧ t.pc =
      0xFFFFFFFF80000180#64) ∧
    (let t := after (exec (.dsub 3 1 2) (gprs [(2, 0x5555#64), (3, 0x5555#64), (1, 0x8000000000000000#64), (2,
      0x1#64)] s0)); t.readGpr 3 = 0x5555#64 ∧ t.excCode = 12#5 ∧ t.epc = 0x1000#64 ∧ t.status = 2#32 ∧ t.pc =
      0xFFFFFFFF80000180#64) ∧
    (let t := after (exec (.addi 2 1 1) (gprs [(2, 0x5555#64), (3, 0x5555#64), (1, 0x7FFFFFFF#64)] s0)); t.readGpr
      2 = 0x5555#64 ∧ t.excCode = 12#5 ∧ t.epc = 0x1000#64 ∧ t.status = 2#32 ∧ t.pc = 0xFFFFFFFF80000180#64) ∧
    (let t := after (exec (.daddi 2 1 1) (gprs [(2, 0x5555#64), (3, 0x5555#64), (1, 0x7FFFFFFFFFFFFFFF#64)] s0));
      t.readGpr 2 = 0x5555#64 ∧ t.excCode = 12#5 ∧ t.epc = 0x1000#64 ∧ t.status = 2#32 ∧ t.pc =
      0xFFFFFFFF80000180#64) :=
  by decide +kernel

/-- 95_test_vectors.md section 3.1: the forms that trap, without one. -/
theorem test_adds_fit :
    (let t := after (exec (.add 3 1 2) (gprs [(2, 0x5555#64), (3, 0x5555#64), (1, 0x7FFFFFFF#64), (2,
      0xFFFFFFFF80000000#64)] s0)); t.readGpr 3 = 0xFFFFFFFFFFFFFFFF#64 ∧ t.pc = 0x1004#64) ∧
    (let t := after (exec (.sub 3 1 2) (gprs [(2, 0x5555#64), (3, 0x5555#64), (1, 0x5#64), (2, 0x7#64)] s0));
      t.readGpr 3 = 0xFFFFFFFFFFFFFFFE#64 ∧ t.pc = 0x1004#64) ∧
    (let t := after (exec (.dadd 3 1 2) (gprs [(2, 0x5555#64), (3, 0x5555#64), (1, 0x7FFFFFFF#64), (2, 0x1#64)]
      s0)); t.readGpr 3 = 0x80000000#64 ∧ t.pc = 0x1004#64) ∧
    (let t := after (exec (.dsub 3 1 2) (gprs [(2, 0x5555#64), (3, 0x5555#64), (1, 0x5#64), (2, 0x7#64)] s0));
      t.readGpr 3 = 0xFFFFFFFFFFFFFFFE#64 ∧ t.pc = 0x1004#64) ∧
    (let t := after (exec (.addi 2 1 65530) (gprs [(2, 0x5555#64), (3, 0x5555#64), (1, 0x5#64)] s0)); t.readGpr 2
      = 0xFFFFFFFFFFFFFFFF#64 ∧ t.pc = 0x1004#64) ∧
    (let t := after (exec (.daddi 2 1 65520) (gprs [(2, 0x5555#64), (3, 0x5555#64), (1, 0x1000#64)] s0));
      t.readGpr 2 = 0xFF0#64 ∧ t.pc = 0x1004#64) :=
  by decide +kernel

/-- 95_test_vectors.md section 3.2. -/
theorem test_set_on_less_than :
    (let t := after (exec (.slt 3 1 2) (gprs [(2, 0x5555#64), (3, 0x5555#64), (1, 0x8000000000000000#64), (2,
      0x7FFFFFFFFFFFFFFF#64)] s0)); t.readGpr 3 = 0x1#64 ∧ t.pc = 0x1004#64) ∧
    (let t := after (exec (.sltu 3 1 2) (gprs [(2, 0x5555#64), (3, 0x5555#64), (1, 0x0#64), (2,
      0xFFFFFFFFFFFFFFFF#64)] s0)); t.readGpr 3 = 0x1#64 ∧ t.pc = 0x1004#64) ∧
    (let t := after (exec (.slti 2 1 65535) (gprs [(2, 0x5555#64), (3, 0x5555#64), (1, 0xFFFFFFFFFFFFFFFE#64)]
      s0)); t.readGpr 2 = 0x1#64 ∧ t.pc = 0x1004#64) ∧
    (let t := after (exec (.sltiu 2 1 65535) (gprs [(2, 0x5555#64), (3, 0x5555#64), (1, 0x5#64)] s0)); t.readGpr 2
      = 0x1#64 ∧ t.pc = 0x1004#64) :=
  by decide +kernel

/-- 95_test_vectors.md section 3.3. -/
theorem test_logic :
    (let t := after (exec (.and 3 1 2) (gprs [(2, 0x5555#64), (3, 0x5555#64), (1, 0xFF00FF00FF00FF00#64), (2,
      0xFF00FF00FF00FF0#64)] s0)); t.readGpr 3 = 0xF000F000F000F00#64 ∧ t.pc = 0x1004#64) ∧
    (let t := after (exec (.or 3 1 2) (gprs [(2, 0x5555#64), (3, 0x5555#64), (1, 0xFF00FF00FF00FF00#64), (2,
      0xFF00FF00FF00FF0#64)] s0)); t.readGpr 3 = 0xFFF0FFF0FFF0FFF0#64 ∧ t.pc = 0x1004#64) ∧
    (let t := after (exec (.xor 3 1 2) (gprs [(2, 0x5555#64), (3, 0x5555#64), (1, 0xFF00FF00FF00FF00#64), (2,
      0xFF00FF00FF00FF0#64)] s0)); t.readGpr 3 = 0xF0F0F0F0F0F0F0F0#64 ∧ t.pc = 0x1004#64) ∧
    (let t := after (exec (.nor 3 1 2) (gprs [(2, 0x5555#64), (3, 0x5555#64), (1, 0xFF00FF00FF00FF00#64), (2,
      0xFF00FF00FF00FF0#64)] s0)); t.readGpr 3 = 0xF000F000F000F#64 ∧ t.pc = 0x1004#64) ∧
    (let t := after (exec (.andi 2 1 32769) (gprs [(2, 0x5555#64), (3, 0x5555#64), (1, 0xFFFFFFFFFFFFFFFF#64)]
      s0)); t.readGpr 2 = 0x8001#64 ∧ t.pc = 0x1004#64) ∧
    (let t := after (exec (.ori 2 1 32769) (gprs [(2, 0x5555#64), (3, 0x5555#64), (1, 0x8000000000000000#64)]
      s0)); t.readGpr 2 = 0x8000000000008001#64 ∧ t.pc = 0x1004#64) ∧
    (let t := after (exec (.xori 2 1 65535) (gprs [(2, 0x5555#64), (3, 0x5555#64), (1, 0xFFFFFFFFFFFFFFFF#64)]
      s0)); t.readGpr 2 = 0xFFFFFFFFFFFF0000#64 ∧ t.pc = 0x1004#64) ∧
    (let t := after (exec (.lui 2 32768) (gprs [(2, 0x5555#64), (3, 0x5555#64)] s0)); t.readGpr 2 =
      0xFFFFFFFF80000000#64 ∧ t.pc = 0x1004#64) :=
  by decide +kernel

/-- 95_test_vectors.md section 3.4: the word forms. -/
theorem test_word_shifts :
    (let t := after (exec (.sll 2 1 31) (gprs [(2, 0x5555#64), (3, 0x5555#64), (1, 0x1#64)] s0)); t.readGpr 2 =
      0xFFFFFFFF80000000#64 ∧ t.pc = 0x1004#64) ∧
    (let t := after (exec (.srl 2 1 4) (gprs [(2, 0x5555#64), (3, 0x5555#64), (1, 0x123456789ABCDEF0#64)] s0));
      t.readGpr 2 = 0x9ABCDEF#64 ∧ t.pc = 0x1004#64) ∧
    (let t := after (exec (.sra 2 1 4) (gprs [(2, 0x5555#64), (3, 0x5555#64), (1, 0x80000000#64)] s0)); t.readGpr
      2 = 0xFFFFFFFFF8000000#64 ∧ t.pc = 0x1004#64) ∧
    (let t := after (exec (.sllv 2 1 3) (gprs [(2, 0x5555#64), (3, 0x5555#64), (1, 0x1#64), (3, 0x21#64)] s0));
      t.readGpr 2 = 0x2#64 ∧ t.pc = 0x1004#64) ∧
    (let t := after (exec (.srlv 2 1 3) (gprs [(2, 0x5555#64), (3, 0x5555#64), (1, 0x80000000#64), (3, 0x4#64)]
      s0)); t.readGpr 2 = 0x8000000#64 ∧ t.pc = 0x1004#64) ∧
    (let t := after (exec (.srav 2 1 3) (gprs [(2, 0x5555#64), (3, 0x5555#64), (1, 0x80000000#64), (3,
      0xFFFFFFFF#64)] s0)); t.readGpr 2 = 0xFFFFFFFFFFFFFFFF#64 ∧ t.pc = 0x1004#64) :=
  by decide +kernel

/-- 95_test_vectors.md section 3.4: the doubleword forms. -/
theorem test_doubleword_shifts :
    (let t := after (exec (.dsll 2 1 31) (gprs [(2, 0x5555#64), (3, 0x5555#64), (1, 0x1#64)] s0)); t.readGpr 2 =
      0x80000000#64 ∧ t.pc = 0x1004#64) ∧
    (let t := after (exec (.dsrl 2 1 4) (gprs [(2, 0x5555#64), (3, 0x5555#64), (1, 0x8000000000000000#64)] s0));
      t.readGpr 2 = 0x800000000000000#64 ∧ t.pc = 0x1004#64) ∧
    (let t := after (exec (.dsra 2 1 4) (gprs [(2, 0x5555#64), (3, 0x5555#64), (1, 0x8000000000000000#64)] s0));
      t.readGpr 2 = 0xF800000000000000#64 ∧ t.pc = 0x1004#64) ∧
    (let t := after (exec (.dsll32 2 1 31) (gprs [(2, 0x5555#64), (3, 0x5555#64), (1, 0x1#64)] s0)); t.readGpr 2 =
      0x8000000000000000#64 ∧ t.pc = 0x1004#64) ∧
    (let t := after (exec (.dsrl32 2 1 31) (gprs [(2, 0x5555#64), (3, 0x5555#64), (1, 0x8000000000000000#64)]
      s0)); t.readGpr 2 = 0x1#64 ∧ t.pc = 0x1004#64) ∧
    (let t := after (exec (.dsra32 2 1 0) (gprs [(2, 0x5555#64), (3, 0x5555#64), (1, 0x8000000000000000#64)] s0));
      t.readGpr 2 = 0xFFFFFFFF80000000#64 ∧ t.pc = 0x1004#64) ∧
    (let t := after (exec (.dsllv 2 1 3) (gprs [(2, 0x5555#64), (3, 0x5555#64), (1, 0x1#64), (3, 0x61#64)] s0));
      t.readGpr 2 = 0x200000000#64 ∧ t.pc = 0x1004#64) ∧
    (let t := after (exec (.dsrlv 2 1 3) (gprs [(2, 0x5555#64), (3, 0x5555#64), (1, 0x8000000000000000#64), (3,
      0x3C#64)] s0)); t.readGpr 2 = 0x8#64 ∧ t.pc = 0x1004#64) ∧
    (let t := after (exec (.dsrav 2 1 3) (gprs [(2, 0x5555#64), (3, 0x5555#64), (1, 0x8000000000000000#64), (3,
      0x3F#64)] s0)); t.readGpr 2 = 0xFFFFFFFFFFFFFFFF#64 ∧ t.pc = 0x1004#64) :=
  by decide +kernel

/-- 95_test_vectors.md section 4: branches, taken. -/
theorem test_branches_taken :
    (let t := after (exec (.beq 1 2 3) { (gprs [(1, 0x7#64), (2, 0x7#64)] s0) with pc := 0x1000#64 }); t.pc =
      0x1010#64) ∧
    (let t := after (exec (.bne 1 2 65534) { (gprs [(1, 0x1#64), (2, 0x2#64)] s0) with pc := 0x1000#64 }); t.pc =
      0xFFC#64) ∧
    (let t := after (exec (.blez 1 16) { (gprs [(1, 0xFFFFFFFFFFFFFFFF#64)] s0) with pc := 0x1000#64 }); t.pc =
      0x1044#64) ∧
    (let t := after (exec (.bgtz 1 16) { (gprs [(1, 0x80000000#64)] s0) with pc := 0x1000#64 }); t.pc = 0x1044#64) ∧
    (let t := after (exec (.bltz 1 16) { (gprs [(1, 0x8000000000000000#64)] s0) with pc := 0x1000#64 }); t.pc =
      0x1044#64) ∧
    (let t := after (exec (.bgez 1 16) { (gprs [(1, 0x0#64)] s0) with pc := 0x1000#64 }); t.pc = 0x1044#64) :=
  by decide +kernel

/-- 95_test_vectors.md section 4: branches, not taken. -/
theorem test_branches_not_taken :
    (let t := after (exec (.beq 1 2 3) { (gprs [(1, 0x100000007#64), (2, 0x7#64)] s0) with pc := 0x1000#64 });
      t.pc = 0x1004#64) ∧
    (let t := after (exec (.bne 1 2 65534) { (gprs [(1, 0x2#64), (2, 0x2#64)] s0) with pc := 0x1000#64 }); t.pc =
      0x1004#64) ∧
    (let t := after (exec (.blez 1 16) { (gprs [(1, 0x1#64)] s0) with pc := 0x1000#64 }); t.pc = 0x1004#64) ∧
    (let t := after (exec (.bgtz 1 16) { (gprs [(1, 0x8000000000000000#64)] s0) with pc := 0x1000#64 }); t.pc =
      0x1004#64) ∧
    (let t := after (exec (.bltz 1 16) { (gprs [(1, 0x0#64)] s0) with pc := 0x1000#64 }); t.pc = 0x1004#64) ∧
    (let t := after (exec (.bgez 1 16) { (gprs [(1, 0xFFFFFFFFFFFFFFFF#64)] s0) with pc := 0x1000#64 }); t.pc =
      0x1004#64) :=
  by decide +kernel

/-- 95_test_vectors.md section 4: jumps. -/
theorem test_jumps :
    (let t := after (exec (.j 67108863) { (gprs [] s0) with pc := 0xFFFFFFC#64 }); t.pc = 0x1FFFFFFC#64) ∧
    (let t := after (exec (.jal 256) { (gprs [] s0) with pc := 0xFFFFFFFFBFC00000#64 }); t.pc =
      0xFFFFFFFFB0000400#64 ∧ t.readGpr 31 = 0xFFFFFFFFBFC00004#64) ∧
    (let t := after (exec (.jr 5) { (gprs [(5, 0x4000#64)] s0) with pc := 0x1000#64 }); t.pc = 0x4000#64) ∧
    (let t := after (exec (.jalr 5 5) { (gprs [(5, 0x4000#64)] s0) with pc := 0x1000#64 }); t.pc = 0x4000#64 ∧
      t.readGpr 5 = 0x1004#64) :=
  by decide +kernel

/-- 95_test_vectors.md section 5.1, big-endian core. -/
theorem test_loads_big_endian :
    (pendingTick (pendingTick (after (exec (.lb 2 1 8) (gprs [(1, 0x2000#64)] (mem2 (s0))))))).readGpr 2 =
      0xFFFFFFFFFFFFFF99#64 ∧
    (pendingTick (pendingTick (after (exec (.lbu 2 1 8) (gprs [(1, 0x2000#64)] (mem2 (s0))))))).readGpr 2 =
      0x99#64 ∧
    (pendingTick (pendingTick (after (exec (.lh 2 1 8) (gprs [(1, 0x2000#64)] (mem2 (s0))))))).readGpr 2 =
      0xFFFFFFFFFFFF99AA#64 ∧
    (pendingTick (pendingTick (after (exec (.lhu 2 1 8) (gprs [(1, 0x2000#64)] (mem2 (s0))))))).readGpr 2 =
      0x99AA#64 ∧
    (pendingTick (pendingTick (after (exec (.lw 2 1 8) (gprs [(1, 0x2000#64)] (mem2 (s0))))))).readGpr 2 =
      0xFFFFFFFF99AABBCC#64 ∧
    (pendingTick (pendingTick (after (exec (.lwu 2 1 8) (gprs [(1, 0x2000#64)] (mem2 (s0))))))).readGpr 2 =
      0x99AABBCC#64 ∧
    (pendingTick (pendingTick (after (exec (.ld 2 1 8) (gprs [(1, 0x2000#64)] (mem2 (s0))))))).readGpr 2 =
      0x99AABBCCDDEEFF00#64 :=
  by decide +kernel

/-- 95_test_vectors.md section 5.1, little-endian core. -/
theorem test_loads_little_endian :
    (pendingTick (pendingTick (after (exec (.lb 2 1 8) (gprs [(1, 0x2000#64)] (mem2 (le s0))))))).readGpr 2 =
      0xFFFFFFFFFFFFFF99#64 ∧
    (pendingTick (pendingTick (after (exec (.lbu 2 1 8) (gprs [(1, 0x2000#64)] (mem2 (le s0))))))).readGpr 2 =
      0x99#64 ∧
    (pendingTick (pendingTick (after (exec (.lh 2 1 8) (gprs [(1, 0x2000#64)] (mem2 (le s0))))))).readGpr 2 =
      0xFFFFFFFFFFFFAA99#64 ∧
    (pendingTick (pendingTick (after (exec (.lhu 2 1 8) (gprs [(1, 0x2000#64)] (mem2 (le s0))))))).readGpr 2 =
      0xAA99#64 ∧
    (pendingTick (pendingTick (after (exec (.lw 2 1 8) (gprs [(1, 0x2000#64)] (mem2 (le s0))))))).readGpr 2 =
      0xFFFFFFFFCCBBAA99#64 ∧
    (pendingTick (pendingTick (after (exec (.lwu 2 1 8) (gprs [(1, 0x2000#64)] (mem2 (le s0))))))).readGpr 2 =
      0xCCBBAA99#64 ∧
    (pendingTick (pendingTick (after (exec (.ld 2 1 8) (gprs [(1, 0x2000#64)] (mem2 (le s0))))))).readGpr 2 =
      0xFFEEDDCCBBAA99#64 :=
  by decide +kernel

/-- 95_test_vectors.md section 5.2, big-endian core. -/
theorem test_merge_loads_big_endian :
    (pendingTick (pendingTick (after (exec (.lwl 2 1 1) (gprs [(1, 0x2000#64), (2, 0xFFFFFFFFAABBCCDD#64)] (mem2
      (s0))))))).readGpr 2 = 0x223344DD#64 ∧
    (pendingTick (pendingTick (after (exec (.lwr 2 1 1) (gprs [(1, 0x2000#64), (2, 0xFFFFFFFFAABBCCDD#64)] (mem2
      (s0))))))).readGpr 2 = 0xFFFFFFFFAABB1122#64 ∧
    (pendingTick (pendingTick (after (exec (.ldl 2 1 3) (gprs [(1, 0x2000#64), (2, 0xA1A2A3A4A5A6A7A8#64)] (mem2
      (s0))))))).readGpr 2 = 0x4455667788A6A7A8#64 ∧
    (pendingTick (pendingTick (after (exec (.ldr 2 1 3) (gprs [(1, 0x2000#64), (2, 0xA1A2A3A4A5A6A7A8#64)] (mem2
      (s0))))))).readGpr 2 = 0xA1A2A3A411223344#64 :=
  by decide +kernel

/-- 95_test_vectors.md section 5.2, little-endian core. -/
theorem test_merge_loads_little_endian :
    (pendingTick (pendingTick (after (exec (.lwl 2 1 1) (gprs [(1, 0x2000#64), (2, 0xFFFFFFFFAABBCCDD#64)] (mem2
      (le s0))))))).readGpr 2 = 0x2211CCDD#64 ∧
    (pendingTick (pendingTick (after (exec (.lwr 2 1 1) (gprs [(1, 0x2000#64), (2, 0xFFFFFFFFAABBCCDD#64)] (mem2
      (le s0))))))).readGpr 2 = 0xFFFFFFFFAA443322#64 ∧
    (pendingTick (pendingTick (after (exec (.ldl 2 1 3) (gprs [(1, 0x2000#64), (2, 0xA1A2A3A4A5A6A7A8#64)] (mem2
      (le s0))))))).readGpr 2 = 0x44332211A5A6A7A8#64 ∧
    (pendingTick (pendingTick (after (exec (.ldr 2 1 3) (gprs [(1, 0x2000#64), (2, 0xA1A2A3A4A5A6A7A8#64)] (mem2
      (le s0))))))).readGpr 2 = 0xA1A2A38877665544#64 :=
  by decide +kernel

/-- 95_test_vectors.md section 5.3. -/
theorem test_stores :
    (after (exec (.sb 2 1 3) (gprs [(1, 0x3000#64), (2, 0x102030405060708#64)] (s0)))).bytesFrom 0x3000 8 =
      [0x00#8, 0x00#8, 0x00#8, 0x08#8, 0x00#8, 0x00#8, 0x00#8, 0x00#8] ∧
    (after (exec (.sh 2 1 6) (gprs [(1, 0x3000#64), (2, 0x102030405060708#64)] (s0)))).bytesFrom 0x3000 8 =
      [0x00#8, 0x00#8, 0x00#8, 0x00#8, 0x00#8, 0x00#8, 0x07#8, 0x08#8] ∧
    (after (exec (.sw 2 1 0) (gprs [(1, 0x3000#64), (2, 0x102030405060708#64)] (le s0)))).bytesFrom 0x3000 8 =
      [0x08#8, 0x07#8, 0x06#8, 0x05#8, 0x00#8, 0x00#8, 0x00#8, 0x00#8] ∧
    (after (exec (.sd 2 1 0) (gprs [(1, 0x3000#64), (2, 0x102030405060708#64)] (le s0)))).bytesFrom 0x3000 8 =
      [0x08#8, 0x07#8, 0x06#8, 0x05#8, 0x04#8, 0x03#8, 0x02#8, 0x01#8] :=
  by decide +kernel

/-- 95_test_vectors.md section 5.4, big-endian core. -/
theorem test_merge_stores_big_endian :
    (after (exec (.swl 2 1 1) (gprs [(1, 0x3000#64), (2, 0xFFFFFFFFA5A6A7A8#64)] (s0)))).bytesFrom 0x3000 4 =
      [0x00#8, 0xA5#8, 0xA6#8, 0xA7#8] ∧
    (after (exec (.swr 2 1 1) (gprs [(1, 0x3000#64), (2, 0xFFFFFFFFA5A6A7A8#64)] (s0)))).bytesFrom 0x3000 4 =
      [0xA7#8, 0xA8#8, 0x00#8, 0x00#8] ∧
    (after (exec (.sdl 2 1 3) (gprs [(1, 0x3000#64), (2, 0x102030405060708#64)] (s0)))).bytesFrom 0x3000 8 =
      [0x00#8, 0x00#8, 0x00#8, 0x01#8, 0x02#8, 0x03#8, 0x04#8, 0x05#8] ∧
    (after (exec (.sdr 2 1 3) (gprs [(1, 0x3000#64), (2, 0x102030405060708#64)] (s0)))).bytesFrom 0x3000 8 =
      [0x05#8, 0x06#8, 0x07#8, 0x08#8, 0x00#8, 0x00#8, 0x00#8, 0x00#8] :=
  by decide +kernel

/-- 95_test_vectors.md section 5.4, little-endian core. -/
theorem test_merge_stores_little_endian :
    (after (exec (.swl 2 1 1) (gprs [(1, 0x3000#64), (2, 0xFFFFFFFFA5A6A7A8#64)] (le s0)))).bytesFrom 0x3000 4 =
      [0xA6#8, 0xA5#8, 0x00#8, 0x00#8] ∧
    (after (exec (.swr 2 1 1) (gprs [(1, 0x3000#64), (2, 0xFFFFFFFFA5A6A7A8#64)] (le s0)))).bytesFrom 0x3000 4 =
      [0x00#8, 0xA8#8, 0xA7#8, 0xA6#8] ∧
    (after (exec (.sdl 2 1 3) (gprs [(1, 0x3000#64), (2, 0x102030405060708#64)] (le s0)))).bytesFrom 0x3000 8 =
      [0x04#8, 0x03#8, 0x02#8, 0x01#8, 0x00#8, 0x00#8, 0x00#8, 0x00#8] ∧
    (after (exec (.sdr 2 1 3) (gprs [(1, 0x3000#64), (2, 0x102030405060708#64)] (le s0)))).bytesFrom 0x3000 8 =
      [0x00#8, 0x00#8, 0x00#8, 0x08#8, 0x07#8, 0x06#8, 0x05#8, 0x04#8] :=
  by decide +kernel

/-- 95_test_vectors.md section 5.5: loads. -/
theorem test_misaligned_loads :
    (let t := after (exec (.lh 2 1 1) (gprs [(1, 0x2000#64), (2, 0x5555#64)] s0)); t.excCode = 4#5 ∧ t.badVAddr =
      0x2001#64 ∧ t.epc = 0x1000#64 ∧ t.status = 2#32 ∧ t.readGpr 2 = 0x5555#64 ∧ t.pq = [] ∧ t.mem = []) ∧
    (let t := after (exec (.lhu 2 1 3) (gprs [(1, 0x2000#64), (2, 0x5555#64)] s0)); t.excCode = 4#5 ∧ t.badVAddr =
      0x2003#64 ∧ t.epc = 0x1000#64 ∧ t.status = 2#32 ∧ t.readGpr 2 = 0x5555#64 ∧ t.pq = [] ∧ t.mem = []) ∧
    (let t := after (exec (.lw 2 1 1) (gprs [(1, 0x2000#64), (2, 0x5555#64)] s0)); t.excCode = 4#5 ∧ t.badVAddr =
      0x2001#64 ∧ t.epc = 0x1000#64 ∧ t.status = 2#32 ∧ t.readGpr 2 = 0x5555#64 ∧ t.pq = [] ∧ t.mem = []) ∧
    (let t := after (exec (.lwu 2 1 6) (gprs [(1, 0x2000#64), (2, 0x5555#64)] s0)); t.excCode = 4#5 ∧ t.badVAddr =
      0x2006#64 ∧ t.epc = 0x1000#64 ∧ t.status = 2#32 ∧ t.readGpr 2 = 0x5555#64 ∧ t.pq = [] ∧ t.mem = []) ∧
    (let t := after (exec (.ld 2 1 4) (gprs [(1, 0x2000#64), (2, 0x5555#64)] s0)); t.excCode = 4#5 ∧ t.badVAddr =
      0x2004#64 ∧ t.epc = 0x1000#64 ∧ t.status = 2#32 ∧ t.readGpr 2 = 0x5555#64 ∧ t.pq = [] ∧ t.mem = []) ∧
    (let t := after (exec (.ll 2 1 2) (gprs [(1, 0x2000#64), (2, 0x5555#64)] s0)); t.excCode = 4#5 ∧ t.badVAddr =
      0x2002#64 ∧ t.epc = 0x1000#64 ∧ t.status = 2#32 ∧ t.readGpr 2 = 0x5555#64 ∧ t.pq = [] ∧ t.mem = []) ∧
    (let t := after (exec (.lld 2 1 4) (gprs [(1, 0x2000#64), (2, 0x5555#64)] s0)); t.excCode = 4#5 ∧ t.badVAddr =
      0x2004#64 ∧ t.epc = 0x1000#64 ∧ t.status = 2#32 ∧ t.readGpr 2 = 0x5555#64 ∧ t.pq = [] ∧ t.mem = []) :=
  by decide +kernel

/-- 95_test_vectors.md section 5.5: stores. -/
theorem test_misaligned_stores :
    (let t := after (exec (.sh 2 1 1) (gprs [(1, 0x2000#64), (2, 0x5555#64)] s0)); t.excCode = 5#5 ∧ t.badVAddr =
      0x2001#64 ∧ t.epc = 0x1000#64 ∧ t.status = 2#32 ∧ t.readGpr 2 = 0x5555#64 ∧ t.pq = [] ∧ t.mem = []) ∧
    (let t := after (exec (.sw 2 1 2) (gprs [(1, 0x2000#64), (2, 0x5555#64)] s0)); t.excCode = 5#5 ∧ t.badVAddr =
      0x2002#64 ∧ t.epc = 0x1000#64 ∧ t.status = 2#32 ∧ t.readGpr 2 = 0x5555#64 ∧ t.pq = [] ∧ t.mem = []) ∧
    (let t := after (exec (.sd 2 1 4) (gprs [(1, 0x2000#64), (2, 0x5555#64)] s0)); t.excCode = 5#5 ∧ t.badVAddr =
      0x2004#64 ∧ t.epc = 0x1000#64 ∧ t.status = 2#32 ∧ t.readGpr 2 = 0x5555#64 ∧ t.pq = [] ∧ t.mem = []) ∧
    (let t := after (exec (.sc 2 1 2) (gprs [(1, 0x2000#64), (2, 0x5555#64)] s0)); t.excCode = 5#5 ∧ t.badVAddr =
      0x2002#64 ∧ t.epc = 0x1000#64 ∧ t.status = 2#32 ∧ t.readGpr 2 = 0x5555#64 ∧ t.pq = [] ∧ t.mem = []) ∧
    (let t := after (exec (.scd 2 1 4) (gprs [(1, 0x2000#64), (2, 0x5555#64)] s0)); t.excCode = 5#5 ∧ t.badVAddr =
      0x2004#64 ∧ t.epc = 0x1000#64 ∧ t.status = 2#32 ∧ t.readGpr 2 = 0x5555#64 ∧ t.pq = [] ∧ t.mem = []) :=
  by decide +kernel

/-- 95_test_vectors.md section 5.6: user mode with RE = 1. -/
theorem test_reverse_endian :
    (pendingTick (pendingTick (after (exec (.lw 2 1 0) { gprs [(1, 0x2000#64)] (mem2 s0) with status :=
      0x02000010#32 })))).readGpr 2 = 0x44332211#64 ∧
    (after (exec (.sw 2 1 0) { gprs [(1, 0x3000#64), (2, 0xA1B2C3D4#64)] s0 with status := 0x02000010#32
      })).bytesFrom 0x3000 4 = [0xD4#8, 0xC3#8, 0xB2#8, 0xA1#8] :=
  by decide +kernel

/-- 20_memory.md R86: the two transfers of a 16-byte access, in each byte order. -/
theorem test_sixteen_bytes :
    laneTransfers16 true 0x2000#64 0x00112233445566778899AABBCCDDEEFF#128 = [(0x2000#64, 0x0011223344556677#64),
      (0x2008#64, 0x8899AABBCCDDEEFF#64)] ∧
    laneTransfers16 false 0x2000#64 0x00112233445566778899AABBCCDDEEFF#128 = [(0x2000#64, 0x8899AABBCCDDEEFF#64),
      (0x2008#64, 0x0011223344556677#64)] ∧
    laneLoad16 (mem2 s0) 0x2000#64 = 0x112233445566778899AABBCCDDEEFF00#128 ∧
    laneLoad16 (mem2 (le s0)) 0x2000#64 = 0x00FFEEDDCCBBAA998877665544332211#128 :=
  by decide +kernel

/-- 95_test_vectors.md section 5.7: LL and LLD link. -/
theorem test_linked_loads :
    (let t := after (exec (.ll 2 4 0) (gprs [(4, 0x2000#64)] (mem2 s0))); t.llBit = true ∧ t.llAddr = 0x2000#64 ∧
      t.pq = [⟨.gpr 2, 0x11223344#64, 1, none⟩]) ∧
    (let t := after (exec (.lld 2 4 8) (gprs [(4, 0x2000#64)] (mem2 s0))); t.llBit = true ∧ t.llAddr = 0x2008#64 ∧
      t.pq = [⟨.gpr 2, 0x99AABBCCDDEEFF00#64, 1, none⟩]) :=
  by decide +kernel

/-- 95_test_vectors.md section 5.7: SC and SCD with and without the link. -/
theorem test_store_conditionals :
    (let t := after (exec (.sc 3 4 0) { gprs [(4, 0x2000#64), (3, 9#64)] s0 with llBit := true }); t.readGpr 3 =
      1#64 ∧ t.llBit = false ∧ t.bytesFrom 0x2000 4 = [0#8, 0#8, 0#8, 9#8]) ∧
    (let t := after (exec (.sc 3 4 0) (gprs [(4, 0x2000#64), (3, 9#64)] s0)); t.readGpr 3 = 0#64 ∧ t.mem = []) ∧
    (let t := after (exec (.scd 3 4 0) { gprs [(4, 0x2000#64), (3, 0xFFFFFFFFFFFFFFFF#64)] s0 with llBit := true
      }); t.readGpr 3 = 1#64 ∧ t.bytesFrom 0x2000 8 = List.replicate 8 0xFF#8) ∧
    (let t := after (exec (.scd 3 4 0) (gprs [(4, 0x2000#64), (3, 9#64)] s0)); t.readGpr 3 = 0#64 ∧ t.mem = []) :=
  by decide +kernel

/-- 95_test_vectors.md section 6.1: system calls, breakpoints, SYNC and HALT. -/
theorem test_system_instructions :
    (let t := after (exec (.syscall 703710) { s0 with epc := 0x7777#64, status := 0x0#32 }); t.excCode = 8#5 ∧
      t.epc = 0x1000#64 ∧ t.status = 0x2#32 ∧ t.pc = 0xFFFFFFFF80000180#64) ∧
    (let t := after (exec (.syscall 0) { s0 with epc := 0x7777#64, status := 0x2#32 }); t.excCode = 8#5 ∧ t.epc =
      0x7777#64 ∧ t.status = 0x2#32 ∧ t.pc = 0xFFFFFFFF80000180#64) ∧
    (let t := after (exec (.brk 0) { s0 with epc := 0x7777#64, status := 0x0#32 }); t.excCode = 9#5 ∧ t.epc =
      0x1000#64 ∧ t.status = 0x2#32 ∧ t.pc = 0xFFFFFFFF80000180#64) ∧
    (let t := after (exec .sync { s0 with epc := 0x7777#64, status := 0x0#32 }); t.status = 0x0#32 ∧ t.pc =
      0x1004#64) ∧
    (let t := after (exec .halt { s0 with epc := 0x7777#64, status := 0x0#32 }); t.status = 0x0#32 ∧ t.pc =
      0x1004#64) :=
  by decide +kernel

/-- 95_test_vectors.md section 6.1: coprocessors that may not be used. -/
theorem test_coprocessor_unusable :
    (let t := after (exec (.addS 2 0 1) { s0 with epc := 0x7777#64, status := 0x0#32 }); t.excCode = 11#5 ∧ t.epc
      = 0x1000#64 ∧ t.status = 0x2#32 ∧ t.pc = 0xFFFFFFFF80000180#64 ∧ t.ce = 1#2) ∧
    (let t := after (exec (.lwc1 2 1 1) { s0 with epc := 0x7777#64, status := 0x0#32 }); t.excCode = 11#5 ∧ t.epc
      = 0x1000#64 ∧ t.status = 0x2#32 ∧ t.pc = 0xFFFFFFFF80000180#64 ∧ t.ce = 1#2) ∧
    (let t := after (exec (.addObV 2 0 1) { s0 with epc := 0x7777#64, status := 0x0#32 }); t.excCode = 11#5 ∧
      t.epc = 0x1000#64 ∧ t.status = 0x2#32 ∧ t.pc = 0xFFFFFFFF80000180#64 ∧ t.ce = 1#2) ∧
    (let t := after (exec (.mfc0 2 12) { s0 with epc := 0x7777#64, status := 0x10#32 }); t.excCode = 11#5 ∧ t.epc
      = 0x1000#64 ∧ t.status = 0x12#32 ∧ t.pc = 0xFFFFFFFF80000180#64 ∧ t.ce = 0#2) ∧
    (let t := after (exec (.mfc0 2 12) { s0 with epc := 0x7777#64, status := 0x10000010#32 }); t.status =
      0x10000010#32 ∧ t.pc = 0x1004#64) ∧
    (let t := after (exec .eret { s0 with epc := 0x7777#64, status := 0x10#32 }); t.excCode = 11#5 ∧ t.epc =
      0x1000#64 ∧ t.status = 0x12#32 ∧ t.pc = 0xFFFFFFFF80000180#64 ∧ t.ce = 0#2) :=
  by decide +kernel

/-- 95_test_vectors.md section 6.1: FR = 0. -/
theorem test_register_file_mode :
    (let t := after (exec (.addObV 2 0 1) { s0 with epc := 0x7777#64, status := 0x20000000#32 }); t.excCode = 10#5
      ∧ t.epc = 0x1000#64 ∧ t.status = 0x20000002#32 ∧ t.pc = 0xFFFFFFFF80000180#64) ∧
    (let t := after (exec (.addD 2 1 1) { s0 with epc := 0x7777#64, status := 0x20000000#32 }); t.excCode = 10#5 ∧
      t.epc = 0x1000#64 ∧ t.status = 0x20000002#32 ∧ t.pc = 0xFFFFFFFF80000180#64) :=
  by decide +kernel

/-- 95_test_vectors.md section 6.2: writes. -/
theorem test_cp0_writes :
    (after (exec (.mtc0 2 12) (gprs [(2, 0xFFFFFFFFFFFFFFFF#64)] s0))).status = 0x3600FF13#32 ∧
    (after (exec (.mtc0 2 14) (gprs [(2, 0x80001000#64)] s0))).epc = 0xFFFFFFFF80001000#64 ∧
    (after (exec (.dmtc0 2 14) (gprs [(2, 0x123456789ABCDEF0#64)] s0))).epc = 0x123456789ABCDEF0#64 :=
  by decide +kernel

/-- 95_test_vectors.md section 6.2: reads. -/
theorem test_cp0_reads :
    (after (exec (.mfc0 2 13) { s0 with excCode := 12, ce := 1, pins := ⟨false, false, 7⟩ })).readGpr 2 =
      0x10008030#64 ∧
    (after (exec (.mfc0 2 14) { s0 with epc := 0x123456789ABCDEF0#64 })).readGpr 2 = 0xFFFFFFFF9ABCDEF0#64 ∧
    (after (exec (.mfc0 2 16) s0)).readGpr 2 = 0x8000#64 ∧
    (after (exec (.dmfc0 2 13) { s0 with excCode := 12, ce := 1, pins := ⟨false, false, 7⟩ })).readGpr 2 =
      0x10008030#64 ∧
    (after (exec (.dmfc0 2 8) { s0 with badVAddr := 0x2002#64 })).readGpr 2 = 0x2002#64 :=
  by decide +kernel

/-- 95_test_vectors.md section 6.3. -/
theorem test_eret :
    (let t := after (exec .eret { s0 with status := 3, epc := 0x2000#64, llBit := true }); t.pc = 0x2000#64 ∧
      t.status = 1 ∧ t.llBit = false ∧ t.epc = 0x2000#64) :=
  by decide +kernel

/-- 95_test_vectors.md section 6.4: an interrupt is taken after the instruction. -/
theorem test_interrupt_taken :
    (let t := after (step (({ s0 with status := 0x401#32, pins := ⟨false, false, 2⟩ } : State).withFetchWord 32
      0x24010001)); t.excCode = 0 ∧ t.epc = 0x1004#64 ∧ t.status = 0x403#32 ∧ t.pc = 0xFFFFFFFF80000180#64 ∧
      t.readGpr 1 = 1#64) :=
  by decide +kernel

/-- 95_test_vectors.md section 6.4: a masked level is not. -/
theorem test_interrupt_masked :
    (let t := after (step (({ s0 with status := 0x401#32, pins := ⟨false, false, 3⟩ } : State).withFetchWord 32
      0x24010001)); t.pc = 0x1004#64 ∧ t.status = 0x401#32) :=
  by decide +kernel

/-- 95_test_vectors.md section 1.8: the queue drains in order. -/
theorem test_queue_order :
    (let t := pendingTick { s0 with pq := [⟨.gpr 2, 0x55#64, 1, none⟩, ⟨.gpr 2, 0x66#64, 1, none⟩] }; t.readGpr 2
      = 0#64 ∧ (pendingTick t).readGpr 2 = 0x66#64 ∧ (pendingTick t).pq = []) :=
  by decide +kernel

/-- 95_test_vectors.md section 6.3: a misaligned PC raises at the fetch. -/
theorem test_misaligned_fetch :
    (let t := after (step { s0 with pc := 0x2002#64 }); t.excCode = 4 ∧ t.epc = 0x2002#64 ∧ t.badVAddr =
      0x2002#64) :=
  by decide +kernel

/-- 96_test_vectors_fpu_mdmx.md section 9.1: add and subtract. -/
theorem test_fp_add_subtract :
    (let t := after (exec (.addS 2 0 1) (fpu [(0, 0x3F800000#64), (1, 0x33800000#64), (3, 0x0#64), (2,
      0x1111111122222222#64)] 0x2#32)); t.fcsr = 0x1006#32 ∧ t.fgrAt 2 = 0x111111113F800001#64 ∧ t.tagAt 2 = .single
      ∧ t.pc = 0x1004#64) ∧
    (let t := after (exec (.subS 2 0 1) (fpu [(0, 0x7F800000#64), (1, 0x7F800000#64), (3, 0x0#64), (2,
      0x1111111122222222#64)] 0x0#32)); t.fcsr = 0x10040#32 ∧ t.fgrAt 2 = 0x111111117FC00000#64 ∧ t.tagAt 2 =
      .single ∧ t.pc = 0x1004#64) ∧
    (let t := after (exec (.addD 2 0 1) (fpu [(0, 0x3FF0000000000000#64), (1, 0x3CA0000000000000#64), (3, 0x0#64),
      (2, 0x1111111122222222#64)] 0x0#32)); t.fcsr = 0x1004#32 ∧ t.fgrAt 2 = 0x3FF0000000000000#64 ∧ t.tagAt 2 =
      .double ∧ t.pc = 0x1004#64) ∧
    (let t := after (exec (.subD 2 0 1) (fpu [(0, 0x3FF0000000000000#64), (1, 0x3FF0000000000000#64), (3, 0x0#64),
      (2, 0x1111111122222222#64)] 0x3#32)); t.fcsr = 0x3#32 ∧ t.fgrAt 2 = 0x8000000000000000#64 ∧ t.tagAt 2 =
      .double ∧ t.pc = 0x1004#64) ∧
    (let t := after (exec (.addPs 2 0 1) (fpu [(0, 0x3F8000007F7FFFFF#64), (1, 0x3F8000007F7FFFFF#64), (3,
      0x0#64), (2, 0x1111111122222222#64)] 0x0#32)); t.fcsr = 0x5014#32 ∧ t.fgrAt 2 = 0x400000007F800000#64 ∧
      t.tagAt 2 = .pairedSingle ∧ t.pc = 0x1004#64) ∧
    (let t := after (exec (.subPs 2 0 1) (fpu [(0, 0x7F8000003F800000#64), (1, 0x7F8000003F800000#64), (3,
      0x0#64), (2, 0x1111111122222222#64)] 0x0#32)); t.fcsr = 0x10040#32 ∧ t.fgrAt 2 = 0x7FC0000000000000#64 ∧
      t.tagAt 2 = .pairedSingle ∧ t.pc = 0x1004#64) :=
  by decide +kernel

/-- 96_test_vectors_fpu_mdmx.md section 9.1: multiply and divide. -/
theorem test_fp_multiply_divide :
    (let t := after (exec (.mulS 2 0 1) (fpu [(0, 0x800000#64), (1, 0x3F000000#64), (3, 0x0#64), (2,
      0x1111111122222222#64)] 0x1000000#32)); t.fcsr = 0x100300C#32 ∧ t.fgrAt 2 = 0x1111111100000000#64 ∧ t.tagAt 2
      = .single ∧ t.pc = 0x1004#64) ∧
    (let t := after (exec (.mulD 2 0 1) (fpu [(0, 0x4000000000000000#64), (1, 0x4008000000000000#64), (3, 0x0#64),
      (2, 0x1111111122222222#64)] 0x0#32)); t.fcsr = 0x0#32 ∧ t.fgrAt 2 = 0x4018000000000000#64 ∧ t.tagAt 2 =
      .double ∧ t.pc = 0x1004#64) ∧
    (let t := after (exec (.mulPs 2 0 1) (fpu [(0, 0x4000000040400000#64), (1, 0x40800000BF800000#64), (3,
      0x0#64), (2, 0x1111111122222222#64)] 0x0#32)); t.fcsr = 0x0#32 ∧ t.fgrAt 2 = 0x41000000C0400000#64 ∧ t.tagAt 2
      = .pairedSingle ∧ t.pc = 0x1004#64) ∧
    (let t := after (exec (.divS 2 0 1) (fpu [(0, 0x3F800000#64), (1, 0x0#64), (3, 0x0#64), (2,
      0x1111111122222222#64)] 0x0#32)); t.fcsr = 0x8020#32 ∧ t.fgrAt 2 = 0x111111117F800000#64 ∧ t.tagAt 2 = .single
      ∧ t.pc = 0x1004#64) ∧
    (let t := after (exec (.divD 2 0 1) (fpu [(0, 0x3FF0000000000000#64), (1, 0x4008000000000000#64), (3, 0x0#64),
      (2, 0x1111111122222222#64)] 0x0#32)); t.fcsr = 0x1004#32 ∧ t.fgrAt 2 = 0x3FD5555555555555#64 ∧ t.tagAt 2 =
      .double ∧ t.pc = 0x1004#64) ∧
    (let t := after (exec (.divPs 2 0 1) (fpu [(0, 0x3F8000003F800000#64), (1, 0x40000000#64), (3, 0x0#64), (2,
      0x1111111122222222#64)] 0x0#32)); t.fcsr = 0x8020#32 ∧ t.fgrAt 2 = 0x7F8000003F000000#64 ∧ t.tagAt 2 =
      .pairedSingle ∧ t.pc = 0x1004#64) :=
  by decide +kernel

/-- 96_test_vectors_fpu_mdmx.md section 9.1: an enabled exception traps. -/
theorem test_fp_exception :
    (let t := after (exec (.addS 2 0 1) (fpu [(0, 0x3F800000#64), (1, 0x33800000#64), (3, 0x0#64), (2,
      0x1111111122222222#64)] 0x80#32)); t.fcsr = 0x1084#32 ∧ t.fgrAt 2 = 0x1111111122222222#64 ∧ t.excCode = 15#5 ∧
      t.epc = 0x1000#64) ∧
    (let t := after (exec (.divS 2 0 1) (fpu [(0, 0x3F800000#64), (1, 0x0#64), (3, 0x0#64), (2,
      0x1111111122222222#64)] 0x400#32)); t.fcsr = 0x8420#32 ∧ t.fgrAt 2 = 0x1111111122222222#64 ∧ t.excCode = 15#5
      ∧ t.epc = 0x1000#64) :=
  by decide +kernel

/-- 96_test_vectors_fpu_mdmx.md section 9.1: one operand. -/
theorem test_fp_unary :
    (let t := after (exec (.sqrtS 2 0) (fpu [(0, 0x40000000#64), (1, 0x0#64), (3, 0x0#64), (2,
      0x1111111122222222#64)] 0x0#32)); t.fcsr = 0x1004#32 ∧ t.fgrAt 2 = 0x111111113FB504F3#64 ∧ t.tagAt 2 = .single
      ∧ t.pc = 0x1004#64) ∧
    (let t := after (exec (.sqrtD 2 0) (fpu [(0, 0x4000000000000000#64), (1, 0x0#64), (3, 0x0#64), (2,
      0x1111111122222222#64)] 0x0#32)); t.fcsr = 0x1004#32 ∧ t.fgrAt 2 = 0x3FF6A09E667F3BCD#64 ∧ t.tagAt 2 = .double
      ∧ t.pc = 0x1004#64) ∧
    (let t := after (exec (.recipS 2 0) (fpu [(0, 0x40400000#64), (1, 0x0#64), (3, 0x0#64), (2,
      0x1111111122222222#64)] 0x0#32)); t.fcsr = 0x1004#32 ∧ t.fgrAt 2 = 0x111111113EAAAAAB#64 ∧ t.tagAt 2 = .single
      ∧ t.pc = 0x1004#64) ∧
    (let t := after (exec (.recipD 2 0) (fpu [(0, 0x0#64), (1, 0x0#64), (3, 0x0#64), (2, 0x1111111122222222#64)]
      0x0#32)); t.fcsr = 0x8020#32 ∧ t.fgrAt 2 = 0x7FF0000000000000#64 ∧ t.tagAt 2 = .double ∧ t.pc = 0x1004#64) ∧
    (let t := after (exec (.absS 2 0) (fpu [(0, 0xBF800000#64), (1, 0x0#64), (3, 0x0#64), (2,
      0x1111111122222222#64)] 0x0#32)); t.fcsr = 0x0#32 ∧ t.fgrAt 2 = 0x111111113F800000#64 ∧ t.tagAt 2 = .single ∧
      t.pc = 0x1004#64) ∧
    (let t := after (exec (.absD 2 0) (fpu [(0, 0xFFF8000000000001#64), (1, 0x0#64), (3, 0x0#64), (2,
      0x1111111122222222#64)] 0x0#32)); t.fcsr = 0x0#32 ∧ t.fgrAt 2 = 0x7FF8000000000000#64 ∧ t.tagAt 2 = .double ∧
      t.pc = 0x1004#64) ∧
    (let t := after (exec (.negS 2 0) (fpu [(0, 0x7FA00000#64), (1, 0x0#64), (3, 0x0#64), (2,
      0x1111111122222222#64)] 0x0#32)); t.fcsr = 0x10040#32 ∧ t.fgrAt 2 = 0x111111117FC00000#64 ∧ t.tagAt 2 =
      .single ∧ t.pc = 0x1004#64) ∧
    (let t := after (exec (.negD 2 0) (fpu [(0, 0x3FF0000000000000#64), (1, 0x0#64), (3, 0x0#64), (2,
      0x1111111122222222#64)] 0x0#32)); t.fcsr = 0x0#32 ∧ t.fgrAt 2 = 0xBFF0000000000000#64 ∧ t.tagAt 2 = .double ∧
      t.pc = 0x1004#64) ∧
    (let t := after (exec (.negPs 2 0) (fpu [(0, 0x3F800000BF800000#64), (1, 0x0#64), (3, 0x0#64), (2,
      0x1111111122222222#64)] 0x0#32)); t.fcsr = 0x0#32 ∧ t.fgrAt 2 = 0xBF8000003F800000#64 ∧ t.tagAt 2 =
      .pairedSingle ∧ t.pc = 0x1004#64) :=
  by decide +kernel

/-- 96_test_vectors_fpu_mdmx.md section 9.1: RECIP2 and RSQRT2. -/
theorem test_fp_recip2_rsqrt2 :
    (let t := after (exec (.recip2S 2 0 1) (fpu [(0, 0x40000000#64), (1, 0x3F000000#64), (3, 0x0#64), (2,
      0x1111111122222222#64)] 0x0#32)); t.fcsr = 0x0#32 ∧ t.fgrAt 2 = 0x1111111180000000#64 ∧ t.tagAt 2 = .single ∧
      t.pc = 0x1004#64) ∧
    (let t := after (exec (.rsqrt2S 2 0 1) (fpu [(0, 0x40800000#64), (1, 0x3E800000#64), (3, 0x0#64), (2,
      0x1111111122222222#64)] 0x0#32)); t.fcsr = 0x0#32 ∧ t.fgrAt 2 = 0x1111111180000000#64 ∧ t.tagAt 2 = .single ∧
      t.pc = 0x1004#64) ∧
    (let t := after (exec (.rsqrt2D 2 0 1) (fpu [(0, 0x4000000000000000#64), (1, 0x4000000000000000#64), (3,
      0x0#64), (2, 0x1111111122222222#64)] 0x0#32)); t.fcsr = 0x0#32 ∧ t.fgrAt 2 = 0xBFF8000000000000#64 ∧ t.tagAt 2
      = .double ∧ t.pc = 0x1004#64) :=
  by decide +kernel

/-- 96_test_vectors_fpu_mdmx.md section 9.1: multiply-add rounds twice. -/
theorem test_fp_multiply_add :
    (let t := after (exec (.maddS 2 3 0 1) (fpu [(0, 0x3F800800#64), (1, 0x3F800800#64), (3, 0xBF801000#64), (2,
      0x1111111122222222#64)] 0x0#32)); t.fcsr = 0x1004#32 ∧ t.fgrAt 2 = 0x1111111100000000#64 ∧ t.tagAt 2 = .single
      ∧ t.pc = 0x1004#64) ∧
    (let t := after (exec (.nmaddS 2 3 0 1) (fpu [(0, 0x3F800800#64), (1, 0x3F800800#64), (3, 0xBF801000#64), (2,
      0x1111111122222222#64)] 0x0#32)); t.fcsr = 0x1004#32 ∧ t.fgrAt 2 = 0x1111111180000000#64 ∧ t.tagAt 2 = .single
      ∧ t.pc = 0x1004#64) ∧
    (let t := after (exec (.msubD 2 3 0 1) (fpu [(0, 0x4000000000000000#64), (1, 0x4008000000000000#64), (3,
      0x3FF0000000000000#64), (2, 0x1111111122222222#64)] 0x0#32)); t.fcsr = 0x0#32 ∧ t.fgrAt 2 =
      0x4014000000000000#64 ∧ t.tagAt 2 = .double ∧ t.pc = 0x1004#64) ∧
    (let t := after (exec (.nmsubS 2 3 0 1) (fpu [(0, 0x40000000#64), (1, 0x40400000#64), (3, 0x3F800000#64), (2,
      0x1111111122222222#64)] 0x0#32)); t.fcsr = 0x0#32 ∧ t.fgrAt 2 = 0x11111111C0A00000#64 ∧ t.tagAt 2 = .single ∧
      t.pc = 0x1004#64) ∧
    (let t := after (exec (.maddPs 2 3 0 1) (fpu [(0, 0x4000000040000000#64), (1, 0x4040000040400000#64), (3,
      0x3F800000BF800000#64), (2, 0x1111111122222222#64)] 0x0#32)); t.fcsr = 0x0#32 ∧ t.fgrAt 2 =
      0x40E0000040A00000#64 ∧ t.tagAt 2 = .pairedSingle ∧ t.pc = 0x1004#64) :=
  by decide +kernel

/-- 96_test_vectors_fpu_mdmx.md section 9.2: conversions. -/
theorem test_fp_conversions :
    (let t := after (exec (.cvtWS 2 0) (fpu [(0, 0x3FC00000#64), (2, 0x1111111122222222#64)] 0x0#32)); t.fcsr =
      0x1004#32 ∧ t.fgrAt 2 = 0x1111111100000002#64 ∧ t.tagAt 2 = .word ∧ t.pc = 0x1004#64) ∧
    (let t := after (exec (.cvtWD 2 0) (fpu [(0, 0x41DFFFFFFFE00000#64), (2, 0x1111111122222222#64)] 0x0#32));
      t.fcsr = 0x10040#32 ∧ t.fgrAt 2 = 0x111111117FFFFFFF#64 ∧ t.tagAt 2 = .word ∧ t.pc = 0x1004#64) ∧
    (let t := after (exec (.cvtLD 2 0) (fpu [(0, 0xC3E0000000000000#64), (2, 0x1111111122222222#64)] 0x0#32));
      t.fcsr = 0x0#32 ∧ t.fgrAt 2 = 0x8000000000000000#64 ∧ t.tagAt 2 = .long ∧ t.pc = 0x1004#64) ∧
    (let t := after (exec (.cvtLS 2 0) (fpu [(0, 0x5F000000#64), (2, 0x1111111122222222#64)] 0x0#32)); t.fcsr =
      0x10040#32 ∧ t.fgrAt 2 = 0x7FFFFFFFFFFFFFFF#64 ∧ t.tagAt 2 = .long ∧ t.pc = 0x1004#64) ∧
    (let t := after (exec (.cvtSW 2 0) (fpu [(0, 0x1000001#64), (2, 0x1111111122222222#64)] 0x0#32)); t.fcsr =
      0x1004#32 ∧ t.fgrAt 2 = 0x111111114B800000#64 ∧ t.tagAt 2 = .single ∧ t.pc = 0x1004#64) ∧
    (let t := after (exec (.cvtDW 2 0) (fpu [(0, 0x7FFFFFFF#64), (2, 0x1111111122222222#64)] 0x0#32)); t.fcsr =
      0x0#32 ∧ t.fgrAt 2 = 0x41DFFFFFFFC00000#64 ∧ t.tagAt 2 = .double ∧ t.pc = 0x1004#64) ∧
    (let t := after (exec (.cvtSL 2 0) (fpu [(0, 0x7FFFFFFFFFFFFFFF#64), (2, 0x1111111122222222#64)] 0x0#32));
      t.fcsr = 0x1004#32 ∧ t.fgrAt 2 = 0x111111115F000000#64 ∧ t.tagAt 2 = .single ∧ t.pc = 0x1004#64) ∧
    (let t := after (exec (.cvtDL 2 0) (fpu [(0, 0x7FFFFFFFFFFFFFFF#64), (2, 0x1111111122222222#64)] 0x0#32));
      t.fcsr = 0x1004#32 ∧ t.fgrAt 2 = 0x43E0000000000000#64 ∧ t.tagAt 2 = .double ∧ t.pc = 0x1004#64) ∧
    (let t := after (exec (.cvtDS 2 0) (fpu [(0, 0x7FA00000#64), (2, 0x1111111122222222#64)] 0x0#32)); t.fcsr =
      0x10040#32 ∧ t.fgrAt 2 = 0x7FF8000000000000#64 ∧ t.tagAt 2 = .double ∧ t.pc = 0x1004#64) ∧
    (let t := after (exec (.cvtSD 2 0) (fpu [(0, 0x7E37E43C8800759C#64), (2, 0x1111111122222222#64)] 0x0#32));
      t.fcsr = 0x5014#32 ∧ t.fgrAt 2 = 0x111111117F800000#64 ∧ t.tagAt 2 = .single ∧ t.pc = 0x1004#64) :=
  by decide +kernel

/-- 96_test_vectors_fpu_mdmx.md section 9.2: rounding to an integer by name. -/
theorem test_fp_rounding_words :
    (let t := after (exec (.roundWS 2 0) (fpu [(0, 0x40200000#64), (2, 0x1111111122222222#64)] 0x1#32)); t.fcsr =
      0x1005#32 ∧ t.fgrAt 2 = 0x1111111100000002#64 ∧ t.tagAt 2 = .word ∧ t.pc = 0x1004#64) ∧
    (let t := after (exec (.roundWD 2 0) (fpu [(0, 0x400C000000000000#64), (2, 0x1111111122222222#64)] 0x0#32));
      t.fcsr = 0x1004#32 ∧ t.fgrAt 2 = 0x1111111100000004#64 ∧ t.tagAt 2 = .word ∧ t.pc = 0x1004#64) ∧
    (let t := after (exec (.truncWS 2 0) (fpu [(0, 0xBFC00000#64), (2, 0x1111111122222222#64)] 0x0#32)); t.fcsr =
      0x1004#32 ∧ t.fgrAt 2 = 0x11111111FFFFFFFF#64 ∧ t.tagAt 2 = .word ∧ t.pc = 0x1004#64) ∧
    (let t := after (exec (.truncWD 2 0) (fpu [(0, 0x41DFFFFFFFE00000#64), (2, 0x1111111122222222#64)] 0x0#32));
      t.fcsr = 0x1004#32 ∧ t.fgrAt 2 = 0x111111117FFFFFFF#64 ∧ t.tagAt 2 = .word ∧ t.pc = 0x1004#64) ∧
    (let t := after (exec (.ceilWS 2 0) (fpu [(0, 0xBF000000#64), (2, 0x1111111122222222#64)] 0x0#32)); t.fcsr =
      0x1004#32 ∧ t.fgrAt 2 = 0x1111111100000000#64 ∧ t.tagAt 2 = .word ∧ t.pc = 0x1004#64) ∧
    (let t := after (exec (.ceilWD 2 0) (fpu [(0, 0x3FF8000000000000#64), (2, 0x1111111122222222#64)] 0x0#32));
      t.fcsr = 0x1004#32 ∧ t.fgrAt 2 = 0x1111111100000002#64 ∧ t.tagAt 2 = .word ∧ t.pc = 0x1004#64) ∧
    (let t := after (exec (.floorWS 2 0) (fpu [(0, 0xBFC00000#64), (2, 0x1111111122222222#64)] 0x0#32)); t.fcsr =
      0x1004#32 ∧ t.fgrAt 2 = 0x11111111FFFFFFFE#64 ∧ t.tagAt 2 = .word ∧ t.pc = 0x1004#64) ∧
    (let t := after (exec (.floorWD 2 0) (fpu [(0, 0xBFE0000000000000#64), (2, 0x1111111122222222#64)] 0x0#32));
      t.fcsr = 0x1004#32 ∧ t.fgrAt 2 = 0x11111111FFFFFFFF#64 ∧ t.tagAt 2 = .word ∧ t.pc = 0x1004#64) :=
  by decide +kernel

/-- 96_test_vectors_fpu_mdmx.md section 9.2: the same, to 64 bits. -/
theorem test_fp_rounding_longs :
    (let t := after (exec (.roundLS 2 0) (fpu [(0, 0x40600000#64), (2, 0x1111111122222222#64)] 0x0#32)); t.fcsr =
      0x1004#32 ∧ t.fgrAt 2 = 0x4#64 ∧ t.tagAt 2 = .long ∧ t.pc = 0x1004#64) ∧
    (let t := after (exec (.roundLD 2 0) (fpu [(0, 0x4004000000000000#64), (2, 0x1111111122222222#64)] 0x0#32));
      t.fcsr = 0x1004#32 ∧ t.fgrAt 2 = 0x2#64 ∧ t.tagAt 2 = .long ∧ t.pc = 0x1004#64) ∧
    (let t := after (exec (.truncLS 2 0) (fpu [(0, 0xC0200000#64), (2, 0x1111111122222222#64)] 0x0#32)); t.fcsr =
      0x1004#32 ∧ t.fgrAt 2 = 0xFFFFFFFFFFFFFFFE#64 ∧ t.tagAt 2 = .long ∧ t.pc = 0x1004#64) ∧
    (let t := after (exec (.truncLD 2 0) (fpu [(0, 0x7FF0000000000000#64), (2, 0x1111111122222222#64)] 0x0#32));
      t.fcsr = 0x10040#32 ∧ t.fgrAt 2 = 0x7FFFFFFFFFFFFFFF#64 ∧ t.tagAt 2 = .long ∧ t.pc = 0x1004#64) ∧
    (let t := after (exec (.ceilLS 2 0) (fpu [(0, 0xBF000000#64), (2, 0x1111111122222222#64)] 0x0#32)); t.fcsr =
      0x1004#32 ∧ t.fgrAt 2 = 0x0#64 ∧ t.tagAt 2 = .long ∧ t.pc = 0x1004#64) ∧
    (let t := after (exec (.ceilLD 2 0) (fpu [(0, 0x4004000000000000#64), (2, 0x1111111122222222#64)] 0x0#32));
      t.fcsr = 0x1004#32 ∧ t.fgrAt 2 = 0x3#64 ∧ t.tagAt 2 = .long ∧ t.pc = 0x1004#64) ∧
    (let t := after (exec (.floorLS 2 0) (fpu [(0, 0x40200000#64), (2, 0x1111111122222222#64)] 0x0#32)); t.fcsr =
      0x1004#32 ∧ t.fgrAt 2 = 0x2#64 ∧ t.tagAt 2 = .long ∧ t.pc = 0x1004#64) ∧
    (let t := after (exec (.floorLD 2 0) (fpu [(0, 0xC004000000000000#64), (2, 0x1111111122222222#64)] 0x0#32));
      t.fcsr = 0x1004#32 ∧ t.fgrAt 2 = 0xFFFFFFFFFFFFFFFD#64 ∧ t.tagAt 2 = .long ∧ t.pc = 0x1004#64) :=
  by decide +kernel

/-- 96_test_vectors_fpu_mdmx.md section 9.3: compares schedule their codes. -/
theorem test_fp_compares :
    (after (exec (.cLtS 0 0 1) (fpu [(0, 0x3F800000#64), (1, 0x40000000#64)] 0))).pq = [⟨.fcsr, 1#64, 1, some 23⟩] ∧
    (after (exec (.cLeD 1 0 1) (fpu [(0, 0x3FF0000000000000#64), (1, 0x3FF0000000000000#64)] 0))).pq = [⟨.fcsr,
      1#64, 1, some 25⟩] ∧
    (after (exec (.cLtPs 2 0 1) (fpu [(0, 0x3F80000040000000#64), (1, 0x400000003F800000#64)] 0))).pq = [⟨.fcsr,
      0#64, 1, some 26⟩, ⟨.fcsr, 1#64, 1, some 27⟩] ∧
    (after (exec (.cEqS 0 0 1) (fpu [(0, 0x7FA00000#64), (1, 0x3F800000#64)] 0))).fcsr = 0x10040#32 :=
  by decide +kernel

/-- 96_test_vectors_fpu_mdmx.md section 9.3: branches on a code. -/
theorem test_fp_branches :
    (after (exec (.bc1f 1 0xFFFE) (fpu [] 0))).pc = 0xFFC#64 ∧
    (after (exec (.bc1f 1 0xFFFE) (fpu [] 0x02000000#32))).pc = 0x1004#64 ∧
    (after (exec (.bc1t 7 3) (fpu [] 0x80000000#32))).pc = 0x1010#64 ∧
    (after (exec (.bc1t 7 3) (fpu [] 0x7F800000#32))).pc = 0x1004#64 :=
  by decide +kernel

/-- 96_test_vectors_fpu_mdmx.md section 9.4: moves and tags. -/
theorem test_fp_moves :
    (let t := after (exec (.movS 1 0) (fpu [(0, 0x555555553F800000#64), (1, 0xAAAAAAAA00000000#64)] 0)); t.fgrAt 1
      = 0xAAAAAAAA3F800000#64 ∧ t.tagAt 0 = .single ∧ t.tagAt 1 = .single) ∧
    (let t := after (exec (.movD 1 0) ((fpu [] 0).setTag 0 .single)); t.fgrAt 1 = 0x7FF8000000000000#64 ∧ t.tagAt
      0 = .unknown ∧ t.tagAt 1 = .double) ∧
    (after (exec (.mfc1 2 0) (fpu [(0, 0x3FF00000BF800000#64)] 0))).readGpr 2 = 0xFFFFFFFFBF800000#64 ∧
    (after (exec (.dmfc1 3 0) (fpu [(0, 0x3FF00000BF800000#64)] 0))).readGpr 3 = 0x3FF00000BF800000#64 ∧
    (after (exec (.mtc1 2 0) (gprs [(2, 0x3F800000#64)] (fpu [(0, 0xAAAAAAAA00000000#64)] 0)))).fgrAt 0 =
      0xAAAAAAAA3F800000#64 ∧
    (let t := after (exec (.dmtc1 2 2) { gprs [(2, 0x1122334455667788#64)] (fpu [(2, 0xAAAAAAAA00000000#64), (3,
      0xBBBBBBBB00000000#64)] 0) with status := 0x20000000#32 }); t.fgrAt 2 = 0xAAAAAAAA55667788#64 ∧ t.fgrAt 3 =
      0xBBBBBBBB11223344#64) :=
  by decide +kernel

/-- 96_test_vectors_fpu_mdmx.md section 9.5: loads and stores. -/
theorem test_fp_loads_stores :
    (after (exec (.lwc1 2 1 0) (gprs [(1, 0x2000#64)] (mem2 (fpu [] 0))))).pq = [⟨.fpr32 2, 0x11223344#64, 1,
      none⟩] ∧
    (after (exec (.ldc1 2 1 0) (gprs [(1, 0x2000#64)] (mem2 (fpu [] 0))))).pq = [⟨.fpr64 2, 0x1122334455667788#64,
      1, none⟩] ∧
    (after (exec (.swc1 2 1 8) (gprs [(1, 0x2000#64)] (fpu [(2, 0x1122334455667788#64)] 0)))).bytesFrom 0x2008 4 =
      [0x55#8, 0x66#8, 0x77#8, 0x88#8] ∧
    (after (exec (.sdc1 2 1 8) (gprs [(1, 0x2000#64)] (le (fpu [(2, 0x1122334455667788#64)] 0))))).bytesFrom
      0x2008 8 = [0x88#8, 0x77#8, 0x66#8, 0x55#8, 0x44#8, 0x33#8, 0x22#8, 0x11#8] :=
  by decide +kernel

/-- 96_test_vectors_fpu_mdmx.md section 9.6. -/
theorem test_fp_control_registers :
    (let t := after (exec (.ctc1 2 31) (gprs [(2, 0xFFFFFFFF#64)] (fpu [] 0))); t.fcsr = 0xFF83FFFF#32 ∧ t.excCode
      = 15 ∧ t.epc = 0x1000#64) ∧
    (let t := after (exec (.ctc1 2 31) (gprs [(2, 0xFFFC0F83#64)] (fpu [] 0))); t.fcsr = 0xFF800F83#32 ∧ t.pc =
      0x1004#64 ∧ (after (exec (.cfc1 3 31) t)).readGpr 3 = 0xFFFFFFFFFF800F83#64) ∧
    (after (exec (.ctc1 2 25) (fpu [] 0))).excCode = 10 ∧
    (after (exec (.cfc1 2 25) (fpu [] 0))).excCode = 10 :=
  by decide +kernel

/-- 96_test_vectors_fpu_mdmx.md section 10.1: add and subtract. -/
theorem test_mdmx_add_subtract :
    (let t := after (exec (.addObV 2 0 1) (fpu [(0, 0xFF00FF80FE7F01FF#64), (1, 0x1010180027F0101#64), (2,
      0x1111111122222222#64)] 0)); t.fgrAt 2 = 0xFF01FFFFFFFE02FF#64 ∧ t.tagAt 2 = .uninterpreted ∧ t.fcsr = 0 ∧
      t.pc = 0x1004#64) ∧
    (let t := after (exec (.addQhE 2 0 1 3) (fpu [(0, 0x7FFF80007FFE0001#64), (1, 0x1FFFF0001FFFF#64), (2,
      0x1111111122222222#64)] 0)); t.fgrAt 2 = 0x7FFF80017FFF0002#64 ∧ t.tagAt 2 = .uninterpreted ∧ t.fcsr = 0 ∧
      t.pc = 0x1004#64) ∧
    (let t := after (exec (.addQhE 2 0 1 2) (fpu [(0, 0x7FFF80007FFE0001#64), (1, 0x1FFFF0001FFFF#64), (2,
      0x1111111122222222#64)] 0)); t.fgrAt 2 = 0x7FFE80007FFD0000#64 ∧ t.tagAt 2 = .uninterpreted ∧ t.fcsr = 0 ∧
      t.pc = 0x1004#64) ∧
    (let t := after (exec (.addQhI 2 0 31) (fpu [(0, 0x7FFF80007FFE0001#64), (1, 0x0#64), (2,
      0x1111111122222222#64)] 0)); t.fgrAt 2 = 0x7FFF801F7FFF0020#64 ∧ t.tagAt 2 = .uninterpreted ∧ t.fcsr = 0 ∧
      t.pc = 0x1004#64) ∧
    (let t := after (exec (.subObV 2 0 1) (fpu [(0, 0x305FF0080FF0100#64), (1, 0x503FF0181000200#64), (2,
      0x1111111122222222#64)] 0)); t.fgrAt 2 = 0x2000000FF0000#64 ∧ t.tagAt 2 = .uninterpreted ∧ t.fcsr = 0 ∧ t.pc =
      0x1004#64) ∧
    (let t := after (exec (.subQhV 2 0 1) (fpu [(0, 0x80007FFF00000005#64), (1, 0x1FFFF80000007#64), (2,
      0x1111111122222222#64)] 0)); t.fgrAt 2 = 0x80007FFF7FFFFFFE#64 ∧ t.tagAt 2 = .uninterpreted ∧ t.fcsr = 0 ∧
      t.pc = 0x1004#64) :=
  by decide +kernel

/-- 96_test_vectors_fpu_mdmx.md section 10.1: multiply, minimum, maximum. -/
theorem test_mdmx_multiply_min_max :
    (let t := after (exec (.mulObV 2 0 1) (fpu [(0, 0x10100FFF02000180#64), (1, 0x101011FF7F990102#64), (2,
      0x1111111122222222#64)] 0)); t.fgrAt 2 = 0xFFFFFFFFFE0001FF#64 ∧ t.tagAt 2 = .uninterpreted ∧ t.fcsr = 0 ∧
      t.pc = 0x1004#64) ∧
    (let t := after (exec (.mulQhE 2 0 1 0) (fpu [(0, 0x10080008000FFFF#64), (1, 0x100800000027FFF#64), (2,
      0x1111111122222222#64)] 0)); t.fgrAt 2 = 0x7FFF800080008001#64 ∧ t.tagAt 2 = .uninterpreted ∧ t.fcsr = 0 ∧
      t.pc = 0x1004#64) ∧
    (let t := after (exec (.minObV 2 0 1) (fpu [(0, 0xFF00FF80FE7F01FF#64), (1, 0x1010180027F0101#64), (2,
      0x1111111122222222#64)] 0)); t.fgrAt 2 = 0x1000180027F0101#64 ∧ t.tagAt 2 = .uninterpreted ∧ t.fcsr = 0 ∧ t.pc
      = 0x1004#64) ∧
    (let t := after (exec (.maxObV 2 0 1) (fpu [(0, 0xFF00FF80FE7F01FF#64), (1, 0x1010180027F0101#64), (2,
      0x1111111122222222#64)] 0)); t.fgrAt 2 = 0xFF01FF80FE7F01FF#64 ∧ t.tagAt 2 = .uninterpreted ∧ t.fcsr = 0 ∧
      t.pc = 0x1004#64) ∧
    (let t := after (exec (.minQhV 2 0 1) (fpu [(0, 0x7FFF80007FFE0001#64), (1, 0x1FFFF0001FFFF#64), (2,
      0x1111111122222222#64)] 0)); t.fgrAt 2 = 0x180000001FFFF#64 ∧ t.tagAt 2 = .uninterpreted ∧ t.fcsr = 0 ∧ t.pc =
      0x1004#64) ∧
    (let t := after (exec (.maxQhI 2 0 0) (fpu [(0, 0x7FFF80007FFE0001#64), (1, 0x0#64), (2,
      0x1111111122222222#64)] 0)); t.fgrAt 2 = 0x7FFF00007FFE0001#64 ∧ t.tagAt 2 = .uninterpreted ∧ t.fcsr = 0 ∧
      t.pc = 0x1004#64) :=
  by decide +kernel

/-- 96_test_vectors_fpu_mdmx.md section 10.2: logic. -/
theorem test_mdmx_logic :
    (let t := after (exec (.andObV 2 0 1) (fpu [(0, 0xFF00F0F0AAAA5555#64), (1, 0xFF0FF003C3CFFFF#64), (2,
      0x1111111122222222#64)] 0)); t.fgrAt 2 = 0xF00F00028285555#64 ∧ t.tagAt 2 = .uninterpreted ∧ t.fcsr = 0 ∧ t.pc
      = 0x1004#64) ∧
    (let t := after (exec (.orObV 2 0 1) (fpu [(0, 0xFF00F0F0AAAA5555#64), (1, 0xFF0FF003C3CFFFF#64), (2,
      0x1111111122222222#64)] 0)); t.fgrAt 2 = 0xFFF0FFF0BEBEFFFF#64 ∧ t.tagAt 2 = .uninterpreted ∧ t.fcsr = 0 ∧
      t.pc = 0x1004#64) ∧
    (let t := after (exec (.xorQhV 2 0 1) (fpu [(0, 0xFF00F0F0AAAA5555#64), (1, 0xFF0FF003C3CFFFF#64), (2,
      0x1111111122222222#64)] 0)); t.fgrAt 2 = 0xF0F00FF09696AAAA#64 ∧ t.tagAt 2 = .uninterpreted ∧ t.fcsr = 0 ∧
      t.pc = 0x1004#64) ∧
    (let t := after (exec (.norObV 2 0 1) (fpu [(0, 0xFF00F0F0AAAA5555#64), (1, 0xFF0FF003C3CFFFF#64), (2,
      0x1111111122222222#64)] 0)); t.fgrAt 2 = 0xF000F41410000#64 ∧ t.tagAt 2 = .uninterpreted ∧ t.fcsr = 0 ∧ t.pc =
      0x1004#64) ∧
    (let t := after (exec (.andQhI 2 0 15) (fpu [(0, 0xFF00F0F0AAAA5555#64), (1, 0x0#64), (2,
      0x1111111122222222#64)] 0)); t.fgrAt 2 = 0xA0005#64 ∧ t.tagAt 2 = .uninterpreted ∧ t.fcsr = 0 ∧ t.pc =
      0x1004#64) ∧
    (let t := after (exec (.norQhE 2 0 1 3) (fpu [(0, 0xFF00F0F0AAAA5555#64), (1, 0xFF0FF003C3CFFFF#64), (2,
      0x1111111122222222#64)] 0)); t.fgrAt 2 = 0xF000F5005A00A#64 ∧ t.tagAt 2 = .uninterpreted ∧ t.fcsr = 0 ∧ t.pc =
      0x1004#64) :=
  by decide +kernel

/-- 96_test_vectors_fpu_mdmx.md section 10.2: shifts. -/
theorem test_mdmx_shifts :
    (let t := after (exec (.sllObI 2 0 9) (fpu [(0, 0x8181FF0180402010#64), (1, 0x0#64), (2,
      0x1111111122222222#64)] 0)); t.fgrAt 2 = 0x202FE0200804020#64 ∧ t.tagAt 2 = .uninterpreted ∧ t.fcsr = 0 ∧ t.pc
      = 0x1004#64) ∧
    (let t := after (exec (.srlObV 2 0 1) (fpu [(0, 0x8181FF0180402010#64), (1, 0x1020304050607#64), (2,
      0x1111111122222222#64)] 0)); t.fgrAt 2 = 0x81403F0008020000#64 ∧ t.tagAt 2 = .uninterpreted ∧ t.fcsr = 0 ∧
      t.pc = 0x1004#64) ∧
    (let t := after (exec (.sllQhI 2 0 4) (fpu [(0, 0x8000F00012347FFF#64), (1, 0x0#64), (2,
      0x1111111122222222#64)] 0)); t.fgrAt 2 = 0x2340FFF0#64 ∧ t.tagAt 2 = .uninterpreted ∧ t.fcsr = 0 ∧ t.pc =
      0x1004#64) ∧
    (let t := after (exec (.srlQhI 2 0 4) (fpu [(0, 0x8000F00012347FFF#64), (1, 0x0#64), (2,
      0x1111111122222222#64)] 0)); t.fgrAt 2 = 0x8000F00012307FF#64 ∧ t.tagAt 2 = .uninterpreted ∧ t.fcsr = 0 ∧ t.pc
      = 0x1004#64) ∧
    (let t := after (exec (.sraQhV 2 0 1) (fpu [(0, 0x8000F00012347FFF#64), (1, 0xF0001FFF00010#64), (2,
      0x1111111122222222#64)] 0)); t.fgrAt 2 = 0xFFFFF80012347FFF#64 ∧ t.tagAt 2 = .uninterpreted ∧ t.fcsr = 0 ∧
      t.pc = 0x1004#64) :=
  by decide +kernel

/-- 96_test_vectors_fpu_mdmx.md section 10.2: MSGN, PABSDIFF, PAVG. -/
theorem test_mdmx_msgn_pabsdiff_pavg :
    (let t := after (exec (.msgnQhV 2 0 1) (fpu [(0, 0x80007FFF0005FFFB#64), (1, 0xFFFF00007FFF8000#64), (2,
      0x1111111122222222#64)] 0)); t.fgrAt 2 = 0x7FFF000000050005#64 ∧ t.tagAt 2 = .uninterpreted ∧ t.fcsr = 0 ∧
      t.pc = 0x1004#64) ∧
    (let t := after (exec (.pabsdiffObV 2 0 1) (fpu [(0, 0x3FA00FF80017F10#64), (1, 0xFA03FF0001807F20#64), (2,
      0x1111111122222222#64)] 0)); t.fgrAt 2 = 0xF7F7FFFF7F7F0010#64 ∧ t.tagAt 2 = .uninterpreted ∧ t.fcsr = 0 ∧
      t.pc = 0x1004#64) ∧
    (let t := after (exec (.pavgObV 2 0 1) (fpu [(0, 0xFFFF010000FE0102#64), (1, 0xFFFE020000FF0101#64), (2,
      0x1111111122222222#64)] 0)); t.fgrAt 2 = 0xFFFF020000FF0102#64 ∧ t.tagAt 2 = .uninterpreted ∧ t.fcsr = 0 ∧
      t.pc = 0x1004#64) :=
  by decide +kernel

/-- 96_test_vectors_fpu_mdmx.md section 10.3: compares. -/
theorem test_mdmx_compares :
    (after (exec (.cEqObV 0 1) (fpu [(0, 0x102030405060708#64), (1, 0x103020405070608#64)] 0x0#32))).fcsr =
      0x98800000#32 ∧
    (after (exec (.cLtObV 0 1) (fpu [(0, 0x102030405060708#64), (1, 0x103020405070608#64)] 0x0#32))).fcsr =
      0x44000000#32 ∧
    (after (exec (.cLeObI 0 4) (fpu [(0, 0x102030405060708#64), (1, 0x0#64)] 0x0#32))).fcsr = 0xF0000000#32 ∧
    (after (exec (.cLtQhV 0 1) (fpu [(0, 0x8000FFFF00017FFF#64), (1, 0x7FFF0000FFFF7FFF#64)] 0xFF800F9F#32))).fcsr
      = 0xFD000F9F#32 ∧
    (after (exec (.cEqQhI 0 3) (fpu [(0, 0x3000400030000#64), (1, 0x0#64)] 0x0#32))).fcsr = 0xA000000#32 ∧
    (after (exec (.cLeQhE 0 1 1) (fpu [(0, 0x8000FFFF00017FFF#64), (1, 0x7FFF0000FFFF7FFF#64)] 0x0#32))).fcsr =
      0xC000000#32 :=
  by decide +kernel

/-- 96_test_vectors_fpu_mdmx.md section 10.3: picks. -/
theorem test_mdmx_picks :
    (after (exec (.pickfObV 2 0 1) (fpu [(0, 0x1111111111111111#64), (1, 0x2222222222222222#64)]
      0xAA800000#32))).fgrAt 2 = 0x2211221122112222#64 ∧
    (after (exec (.picktObV 2 0 1) (fpu [(0, 0x1111111111111111#64), (1, 0x2222222222222222#64)]
      0xAA800000#32))).fgrAt 2 = 0x1122112211221111#64 ∧
    (after (exec (.picktQhV 2 0 1) (fpu [(0, 0x1111111111111111#64), (1, 0x2222222222222222#64)]
      0xF2800000#32))).fgrAt 2 = 0x2222222211111111#64 ∧
    (after (exec (.pickfQhI 2 0 7) (fpu [(0, 0x1111111111111111#64), (1, 0x0#64)] 0x4000000#32))).fgrAt 2 =
      0x1111000711111111#64 :=
  by decide +kernel

/-- 96_test_vectors_fpu_mdmx.md section 10.4. -/
theorem test_mdmx_shuffles :
    (after (exec (.shflPachOb 2 0 1) (fpu [(0, 0x0706050403020100#64), (1, 0x1716151413121110#64)] 0))).fgrAt 2 =
      0x705030117151311#64 ∧
    (after (exec (.shflPachQh 2 0 1) (fpu [(0, 0x0706050403020100#64), (1, 0x1716151413121110#64)] 0))).fgrAt 2 =
      0x706030217161312#64 ∧
    (after (exec (.shflPaclOb 2 0 1) (fpu [(0, 0x0706050403020100#64), (1, 0x1716151413121110#64)] 0))).fgrAt 2 =
      0x604020016141210#64 ∧
    (after (exec (.shflPaclQh 2 0 1) (fpu [(0, 0x0706050403020100#64), (1, 0x1716151413121110#64)] 0))).fgrAt 2 =
      0x504010015141110#64 ∧
    (after (exec (.shflMixhOb 2 0 1) (fpu [(0, 0x0706050403020100#64), (1, 0x1716151413121110#64)] 0))).fgrAt 2 =
      0x717061605150414#64 ∧
    (after (exec (.shflMixhQh 2 0 1) (fpu [(0, 0x0706050403020100#64), (1, 0x1716151413121110#64)] 0))).fgrAt 2 =
      0x706171605041514#64 ∧
    (after (exec (.shflMixlOb 2 0 1) (fpu [(0, 0x0706050403020100#64), (1, 0x1716151413121110#64)] 0))).fgrAt 2 =
      0x313021201110010#64 ∧
    (after (exec (.shflMixlQh 2 0 1) (fpu [(0, 0x0706050403020100#64), (1, 0x1716151413121110#64)] 0))).fgrAt 2 =
      0x302131201001110#64 ∧
    (after (exec (.shflBflaQh 2 0 1) (fpu [(0, 0x0706050403020100#64), (1, 0x1716151413121110#64)] 0))).fgrAt 2 =
      0x100030211101312#64 ∧
    (after (exec (.shflBflbQh 2 0 1) (fpu [(0, 0x0706050403020100#64), (1, 0x1716151413121110#64)] 0))).fgrAt 2 =
      0x504070615141716#64 ∧
    (after (exec (.shflRepaQh 2 0 1) (fpu [(0, 0x0706050403020100#64), (1, 0x1716151413121110#64)] 0))).fgrAt 2 =
      0x706050417161514#64 ∧
    (after (exec (.shflRepbQh 2 0 1) (fpu [(0, 0x0706050403020100#64), (1, 0x1716151413121110#64)] 0))).fgrAt 2 =
      0x302010013121110#64 :=
  by decide +kernel

/-- 96_test_vectors_fpu_mdmx.md section 11.1: OB. -/
theorem test_mdmx_accumulate_ob :
    (let t := after (exec (.mulaObV 0 1) { fpu [(0, 0xC8C8C8C8C8C8C8C8#64), (1, 0xC8010203040506FF#64)] 0 with
      accOb := #v[0x7FFFFF#24, 0xFFFFFF#24, 0x000001#24, 0x000000#24, 0x000000#24, 0x000000#24, 0x000000#24,
      0x7F0000#24] }); t.accOb = #v[0x80C737#24, 0x0004AF#24, 0x0003E9#24, 0x000320#24, 0x000258#24, 0x000190#24,
      0x0000C8#24, 0x7F9C40#24] ∧ t.accQh = State.reset.accQh ∧ t.pc = 0x1004#64) ∧
    (let t := after (exec (.mulsObV 0 1) { fpu [(0, 0x101010101010101#64), (1, 0x1020304050607FF#64)] 0 with accOb
      := #v[0#24, 0#24, 0#24, 0#24, 0#24, 0#24, 0#24, 0#24] }); t.accOb = #v[0xFFFF01#24, 0xFFFFF9#24, 0xFFFFFA#24,
      0xFFFFFB#24, 0xFFFFFC#24, 0xFFFFFD#24, 0xFFFFFE#24, 0xFFFFFF#24] ∧ t.accQh = State.reset.accQh ∧ t.pc =
      0x1004#64) ∧
    (let t := after (exec (.mullObV 0 1) { fpu [(0, 0xC8C8C8C8C8C8C8C8#64), (1, 0xC8010203040506FF#64)] 0 with
      accOb := #v[0x123456#24, 0x123456#24, 0x123456#24, 0x123456#24, 0x123456#24, 0x123456#24, 0x123456#24,
      0x123456#24] }); t.accOb = #v[0x00C738#24, 0x0004B0#24, 0x0003E8#24, 0x000320#24, 0x000258#24, 0x000190#24,
      0x0000C8#24, 0x009C40#24] ∧ t.accQh = State.reset.accQh ∧ t.pc = 0x1004#64) ∧
    (let t := after (exec (.mulslObV 0 1) { fpu [(0, 0xC8C8C8C8C8C8C8C8#64), (1, 0xC8010203040506FF#64)] 0 with
      accOb := #v[0x123456#24, 0x123456#24, 0x123456#24, 0x123456#24, 0x123456#24, 0x123456#24, 0x123456#24,
      0x123456#24] }); t.accOb = #v[0xFF38C8#24, 0xFFFB50#24, 0xFFFC18#24, 0xFFFCE0#24, 0xFFFDA8#24, 0xFFFE70#24,
      0xFFFF38#24, 0xFF63C0#24] ∧ t.accQh = State.reset.accQh ∧ t.pc = 0x1004#64) ∧
    (let t := after (exec (.addaObV 0 1) { fpu [(0, 0xFFFF000102030405#64), (1, 0xFF01000102030405#64)] 0 with
      accOb := #v[0x000001#24, 0x000001#24, 0x000001#24, 0x000001#24, 0x000001#24, 0x000001#24, 0x000001#24,
      0x000001#24] }); t.accOb = #v[0x00000B#24, 0x000009#24, 0x000007#24, 0x000005#24, 0x000003#24, 0x000001#24,
      0x000101#24, 0x0001FF#24] ∧ t.accQh = State.reset.accQh ∧ t.pc = 0x1004#64) ∧
    (let t := after (exec (.addlObV 0 1) { fpu [(0, 0xFFFF000102030405#64), (1, 0xFF01000102030405#64)] 0 with
      accOb := #v[0x123456#24, 0x123456#24, 0x123456#24, 0x123456#24, 0x123456#24, 0x123456#24, 0x123456#24,
      0x123456#24] }); t.accOb = #v[0x00000A#24, 0x000008#24, 0x000006#24, 0x000004#24, 0x000002#24, 0x000000#24,
      0x000100#24, 0x0001FE#24] ∧ t.accQh = State.reset.accQh ∧ t.pc = 0x1004#64) ∧
    (let t := after (exec (.subaObV 0 1) { fpu [(0, 0xFF000102030405#64), (1, 0xFF00010002030406#64)] 0 with accOb
      := #v[0x000001#24, 0x000001#24, 0x000001#24, 0x000001#24, 0x000001#24, 0x000001#24, 0x000001#24, 0x000001#24]
      }); t.accOb = #v[0x000000#24, 0x000001#24, 0x000001#24, 0x000001#24, 0x000002#24, 0x000000#24, 0x000100#24,
      0xFFFF02#24] ∧ t.accQh = State.reset.accQh ∧ t.pc = 0x1004#64) ∧
    (let t := after (exec (.sublObV 0 1) { fpu [(0, 0xFF000102030405#64), (1, 0xFF00010002030406#64)] 0 with accOb
      := #v[0x123456#24, 0x123456#24, 0x123456#24, 0x123456#24, 0x123456#24, 0x123456#24, 0x123456#24, 0x123456#24]
      }); t.accOb = #v[0xFFFFFF#24, 0x000000#24, 0x000000#24, 0x000000#24, 0x000001#24, 0xFFFFFF#24, 0x0000FF#24,
      0xFFFF01#24] ∧ t.accQh = State.reset.accQh ∧ t.pc = 0x1004#64) :=
  by decide +kernel

/-- 96_test_vectors_fpu_mdmx.md section 11.1: QH. -/
theorem test_mdmx_accumulate_qh :
    (let t := after (exec (.mulaQhV 0 1) { fpu [(0, 0x80007FFF0100FFFF#64), (1, 0x80007FFF01000002#64)] 0 with
      accQh := #v[0x000000000005#48, 0xFFFFFFFF0000#48, 0x7FFFFFFFFFFF#48, 0x800000000000#48] }); t.accQh =
      #v[0x000000000003#48, 0x000000000000#48, 0x80003FFF0000#48, 0x800040000000#48] ∧ t.accOb = State.reset.accOb ∧
      t.pc = 0x1004#64) ∧
    (let t := after (exec (.mulsQhV 0 1) { fpu [(0, 0x80007FFF0100FFFF#64), (1, 0x80007FFF01000002#64)] 0 with
      accQh := #v[0#48, 0#48, 0#48, 0#48] }); t.accQh = #v[0x000000000002#48, 0xFFFFFFFF0000#48, 0xFFFFC000FFFF#48,
      0xFFFFC0000000#48] ∧ t.accOb = State.reset.accOb ∧ t.pc = 0x1004#64) ∧
    (let t := after (exec (.mullQhE 0 1 3) { fpu [(0, 0x80007FFF0100FFFF#64), (1, 0x80007FFF01000002#64)] 0 with
      accQh := #v[0x000000000007#48, 0x000000000007#48, 0x000000000007#48, 0x000000000007#48] }); t.accQh =
      #v[0x000000008000#48, 0xFFFFFF800000#48, 0xFFFFC0008000#48, 0x000040000000#48] ∧ t.accOb = State.reset.accOb ∧
      t.pc = 0x1004#64) ∧
    (let t := after (exec (.mulslQhI 0 2) { fpu [(0, 0x80007FFF0100FFFF#64), (1, 0x0#64)] 0 with accQh :=
      #v[0x000000000007#48, 0x000000000007#48, 0x000000000007#48, 0x000000000007#48] }); t.accQh =
      #v[0x000000000002#48, 0xFFFFFFFFFE00#48, 0xFFFFFFFF0002#48, 0x000000010000#48] ∧ t.accOb = State.reset.accOb ∧
      t.pc = 0x1004#64) ∧
    (let t := after (exec (.addaQhV 0 1) { fpu [(0, 0x7FFF80000001FFFF#64), (1, 0x7FFF8000FFFF0001#64)] 0 with
      accQh := #v[0x000000000001#48, 0x000000000001#48, 0x000000000001#48, 0x000000000001#48] }); t.accQh =
      #v[0x000000000001#48, 0x000000000001#48, 0xFFFFFFFF0001#48, 0x00000000FFFF#48] ∧ t.accOb = State.reset.accOb ∧
      t.pc = 0x1004#64) ∧
    (let t := after (exec (.addlQhV 0 1) { fpu [(0, 0x7FFF80000001FFFF#64), (1, 0x7FFF8000FFFF0001#64)] 0 with
      accQh := #v[0x000000000009#48, 0x000000000009#48, 0x000000000009#48, 0x000000000009#48] }); t.accQh =
      #v[0x000000000000#48, 0x000000000000#48, 0xFFFFFFFF0000#48, 0x00000000FFFE#48] ∧ t.accOb = State.reset.accOb ∧
      t.pc = 0x1004#64) ∧
    (let t := after (exec (.subaQhI 0 1) { fpu [(0, 0x7FFF80000001FFFF#64), (1, 0x0#64)] 0 with accQh := #v[0#48,
      0#48, 0#48, 0#48] }); t.accQh = #v[0xFFFFFFFFFFFE#48, 0x000000000000#48, 0xFFFFFFFF7FFF#48, 0x000000007FFE#48]
      ∧ t.accOb = State.reset.accOb ∧ t.pc = 0x1004#64) ∧
    (let t := after (exec (.sublQhV 0 1) { fpu [(0, 0x7FFF80000001FFFF#64), (1, 0x80007FFF0001FFFF#64)] 0 with
      accQh := #v[0x000000000009#48, 0x000000000009#48, 0x000000000009#48, 0x000000000009#48] }); t.accQh =
      #v[0x000000000000#48, 0x000000000000#48, 0xFFFFFFFF0001#48, 0x00000000FFFF#48] ∧ t.accOb = State.reset.accOb ∧
      t.pc = 0x1004#64) :=
  by decide +kernel

/-- 96_test_vectors_fpu_mdmx.md section 11.2: writing the accumulator. -/
theorem test_mdmx_accumulator_writes :
    (after (exec (.waclOb 0 1) (fpu [(0, 0x80007F0102030405#64), (1, 0x01FF00FFAABBCCDD#64)] 0))).accOb =
      #v[0x0005DD#24, 0x0004CC#24, 0x0003BB#24, 0x0002AA#24, 0x0001FF#24, 0x007F00#24, 0x0000FF#24, 0xFF8001#24] ∧
    (after (exec (.waclQh 0 1) (fpu [(0, 0x8000000100007FFF#64), (1, 0x0001FFFF00008000#64)] 0))).accQh =
      #v[0x00007FFF8000#48, 0#48, 0x00000001FFFF#48, 0xFFFF80000001#48] ∧
    (after (exec (.wachOb 3) { fpu [(3, 0x1122334455667788#64)] 0 with accOb := Vector.replicate 8 0x5505DD#24
      })).accOb = #v[0x8805DD#24, 0x7705DD#24, 0x6605DD#24, 0x5505DD#24, 0x4405DD#24, 0x3305DD#24, 0x2205DD#24,
      0x1105DD#24] ∧
    (after (exec (.wachQh 3) { fpu [(3, 0x1111222233334444#64)] 0 with accQh := #v[0x00007FFF8000#48, 0#48,
      0x00000001FFFF#48, 0xFFFF80000001#48] })).accQh = #v[0x44447FFF8000#48, 0x333300000000#48, 0x22220001FFFF#48,
      0x111180000001#48] :=
  by decide +kernel

/-- 96_test_vectors_fpu_mdmx.md section 11.2: reading it. -/
theorem test_mdmx_accumulator_reads :
    (after (exec (.raclOb 4) { fpu [] 0 with accOb := #v[0x8805DD#24, 0x7704CC#24, 0x6603BB#24, 0x5502AA#24,
      0x4401FF#24, 0x337F00#24, 0x2200FF#24, 0x118001#24] })).fgrAt 4 = 0x01FF00FFAABBCCDD#64 ∧
    (after (exec (.racmOb 5) { fpu [] 0 with accOb := #v[0x8805DD#24, 0x7704CC#24, 0x6603BB#24, 0x5502AA#24,
      0x4401FF#24, 0x337F00#24, 0x2200FF#24, 0x118001#24] })).fgrAt 5 = 0x80007F0102030405#64 ∧
    (after (exec (.rachOb 6) { fpu [] 0 with accOb := #v[0x8805DD#24, 0x7704CC#24, 0x6603BB#24, 0x5502AA#24,
      0x4401FF#24, 0x337F00#24, 0x2200FF#24, 0x118001#24] })).fgrAt 6 = 0x1122334455667788#64 ∧
    (after (exec (.raclQh 4) { fpu [] 0 with accQh := #v[0x44447FFF8000#48, 0x333300000000#48, 0x22220001FFFF#48,
      0x111180000001#48] })).fgrAt 4 = 0x0001FFFF00008000#64 ∧
    (after (exec (.racmQh 5) { fpu [] 0 with accQh := #v[0x44447FFF8000#48, 0x333300000000#48, 0x22220001FFFF#48,
      0x111180000001#48] })).fgrAt 5 = 0x8000000100007FFF#64 ∧
    (after (exec (.rachQh 6) { fpu [] 0 with accQh := #v[0x44447FFF8000#48, 0x333300000000#48, 0x22220001FFFF#48,
      0x111180000001#48] })).fgrAt 6 = 0x1111222233334444#64 :=
  by decide +kernel

/-- 96_test_vectors_fpu_mdmx.md section 11.3: OB. -/
theorem test_mdmx_reductions_ob :
    (after (exec (.rzuObV 2 1) { fpu [(1, 0x1020304050607#64)] 0 with accOb := #v[384, 255, 256, -5, 5, 7, 6, -1]
      })).fgrAt 2 = 0x3010000080303#64 ∧
    (after (exec (.rnauObI 2 1) { fpu [(1, 0x0#64)] 0 with accOb := #v[384, 255, 256, -5, 5, 7, 6, -1] })).fgrAt 2
      = 0x30403008080C0#64 ∧
    (after (exec (.rneuObV 2 1) { fpu [(1, 0xFF00000000000001#64)] 0 with accOb := #v[384, 255, 256, -5, 5, 7, 6,
      -1] })).fgrAt 2 = 0x6070500FFFFC0#64 ∧
    (after (exec (.rnauObE 2 1 0) { fpu [(1, 0x3#64)] 0 with accOb := #v[384, 255, 256, -5, 5, 7, 6, -1] })).fgrAt
      2 = 0x1010100202030#64 :=
  by decide +kernel

/-- 96_test_vectors_fpu_mdmx.md section 11.3: QH. -/
theorem test_mdmx_reductions_qh :
    (after (exec (.rzuQhI 2 1) { fpu [(1, 0x0#64)] 0 with accQh := #v[BitVec.ofInt 48 (5), BitVec.ofInt 48 (-5),
      BitVec.ofInt 48 (7), BitVec.ofInt 48 (-7)] })).fgrAt 2 = 0x300000002#64 ∧
    (after (exec (.rnauQhI 2 1) { fpu [(1, 0x0#64)] 0 with accQh := #v[BitVec.ofInt 48 (5), BitVec.ofInt 48 (-5),
      BitVec.ofInt 48 (7), BitVec.ofInt 48 (-7)] })).fgrAt 2 = 0x400000003#64 ∧
    (after (exec (.rneuQhI 2 1) { fpu [(1, 0x0#64)] 0 with accQh := #v[BitVec.ofInt 48 (5), BitVec.ofInt 48 (-5),
      BitVec.ofInt 48 (7), BitVec.ofInt 48 (-7)] })).fgrAt 2 = 0x400000002#64 ∧
    (after (exec (.rzsQhV 2 1) { fpu [(1, 0x30001400100004#64)] 0 with accQh := #v[BitVec.ofInt 48 (1048576),
      BitVec.ofInt 48 (1048576), BitVec.ofInt 48 (1048576), BitVec.ofInt 48 (1048576)] })).fgrAt 2 = 0x100107FFF#64 ∧
    (after (exec (.rnasQhV 2 1) { fpu [(1, 0x2F002F00020002#64)] 0 with accQh := #v[BitVec.ofInt 48 (6),
      BitVec.ofInt 48 (-6), BitVec.ofInt 48 (140737488355327), BitVec.ofInt 48 (-140737488355328)] })).fgrAt 2 =
      0xFFFF0001FFFE0002#64 ∧
    (after (exec (.rnesQhI 2 1) { fpu [(1, 0x0#64)] 0 with accQh := #v[BitVec.ofInt 48 (5), BitVec.ofInt 48 (-5),
      BitVec.ofInt 48 (7), BitVec.ofInt 48 (-7)] })).fgrAt 2 = 0xFFFC0004FFFE0002#64 :=
  by decide +kernel

/-! ### Witnesses: for every statement with hypotheses, states and operands that meet them -/

/-- Whether an outcome is a next state. -/
def completes (o : Host.Outcome State Fault Refusal) : Bool :=
  match o with
  | .next _ => true
  | .fault _ => false
  | .refused _ => false

theorem next_of_completes {o : Host.Outcome State Fault Refusal} (h : completes o = true) : o = .next (after o) := by
  cases o <;> simp_all [completes, after]

/-- A word at the PC of a state. -/
noncomputable def at_ (w : Nat) (s : State) : State := s.withFetchWord 32 w

/-- A load of the word at 0x2000 in flight, and an addition to run. -/
noncomputable def busy : State :=
  at_ 0x00221820 { gprs [(1, 5#64), (2, 7#64)] (mem2 s0) with pq := [⟨.gpr 2, 9#64, 0, none⟩] }

theorem busy_inv : busy.Inv := by constructor <;> decide +kernel

theorem witness_DecodeEncode : Instr.wellFormed (.cLtPs 6 31 30) = true ∧ Instr.wellFormed (.brk 0xFFFFE) = true := by
  decide

theorem witness_EncodeDecode : decode 0x7BDF00A1#32 = .ok (.rnauObI 2 31) := rfl

theorem witness_StepRunsDecoded :
    (samplePins busy).Ready ∧ (samplePins busy).pc.toNat % 4 = 0 ∧
      decode (wordOfBytes (samplePins busy).configBE ((samplePins busy).byteAt (samplePins busy).pc)
        ((samplePins busy).byteAt ((samplePins busy).pc + 1#64))
        ((samplePins busy).byteAt ((samplePins busy).pc + 2#64))
        ((samplePins busy).byteAt ((samplePins busy).pc + 3#64))) = .ok (.add 3 1 2) ∧
      exec (.add 3 1 2) (samplePins busy) = .next (after (exec (.add 3 1 2) (samplePins busy))) := by
  refine ⟨by decide +kernel, by decide +kernel, by rfl, next_of_completes (by decide +kernel)⟩

/-- A PC of the least and of the greatest misalignment; a reserved word. -/
theorem witness_FetchTraps :
    ((samplePins { s0 with pc := 0x1001#64 }).Ready ∧ (samplePins { s0 with pc := 0x1001#64 }).pc.toNat % 4 ≠ 0 ∧
      (samplePins { s0 with pc := 0x1001#64 }).exl = false) ∧
    ((samplePins { s0 with pc := 0x1003#64 }).Ready ∧ (samplePins { s0 with pc := 0x1003#64 }).pc.toNat % 4 ≠ 0) ∧
    (samplePins (at_ 0x70000000 s0)).Ready ∧ (samplePins (at_ 0x70000000 s0)).pc.toNat % 4 = 0 ∧
      (samplePins (at_ 0x70000000 s0)).bytesFrom (samplePins (at_ 0x70000000 s0)).pc 4 = [0x70#8, 0#8, 0#8, 0#8] ∧
      decode (wordOfBytes true 0x70#8 0#8 0#8 0#8) = .error .primaryOpcode := by
  refine ⟨by decide, by decide, by decide +kernel, by decide +kernel, by decide +kernel, by rfl⟩

/-- The three clauses exclude each other: reset, not running, stopped. -/
theorem witness_RunControl :
    (samplePins { s0 with pinQueue := [⟨true, true, 0⟩], run := .halted }).pins.reset = true ∧
    ((samplePins { s0 with run := .halted }).pins.reset = false ∧
      (samplePins { s0 with run := .halted }).run ≠ .running) ∧
    ((samplePins { s0 with pinQueue := [⟨false, true, 0⟩] }).pins.reset = false ∧
      (samplePins { s0 with pinQueue := [⟨false, true, 0⟩] }).run = .running ∧
      (samplePins { s0 with pinQueue := [⟨false, true, 0⟩] }).pins.stop = true) := by
  decide

theorem witness_StepAlwaysNext : busy.isaMode = false := by decide +kernel

theorem witness_StepKeepsInv : busy.Inv ∧ step busy = .next (after (step busy)) := ⟨busy_inv, next_of_completes (by decide +kernel)⟩

theorem witness_StepNeverCheckStops : busy.Inv ∧ busy.Safe ∧ step busy = .next (after (step busy)) :=
  ⟨busy_inv, by decide +kernel, next_of_completes (by decide +kernel)⟩

theorem witness_ResetState : Config.default.Valid ∧ ({ Config.default with pendingCapacity := 5 } : Config).Valid := by
  decide

/-- `EXL` clear and set; and for ERET each disjunct alone: kernel by `UM` = 0, kernel by `EXL` = 1 with `UM` = 1, user
with `CU0` = 1. -/
theorem witness_TrapEntry :
    (s0.exl = false ∧ ({ s0 with status := 2#32 } : State).exl = true) ∧
    (s0.um = false ∧ s0.cu0 = false ∧ s0.exl = false) ∧
    (∀ s ∈ [({ s0 with status := 0x12#32 } : State)], s.um = true ∧ s.exl = true ∧ s.cu0 = false) ∧
    (∀ s ∈ [({ s0 with status := 0x10000010#32 } : State)], s.um = true ∧ s.exl = false ∧ s.cu0 = true) := by
  decide

/-- An interrupt wanted at the lowest and the highest level, one masked, no request, and a halted core. -/
theorem witness_InterruptTaken :
    (∀ s ∈ [({ s0 with status := 0x201#32, pins := ⟨false, false, 1⟩ } : State),
        { s0 with status := 0x8001#32, pins := ⟨false, false, 7⟩ }],
      s.run = .running ∧ (pendingTick s).run = .running ∧ (pendingTick s).status.getLsbD 0 = true ∧
        (pendingTick s).status.getLsbD 1 = false ∧ 1 ≤ (pendingTick s).pins.intLevel.toNat ∧
        (pendingTick s).status.getLsbD (8 + (pendingTick s).pins.intLevel.toNat) = true) ∧
    (∀ s ∈ [({ s0 with status := 0x201#32, pins := ⟨false, false, 2⟩ } : State), { s0 with status := 0xFF01#32 }],
      s.run = .running ∧ ¬ ((pendingTick s).status.getLsbD 0 = true ∧ (pendingTick s).status.getLsbD 1 = false ∧
        1 ≤ (pendingTick s).pins.intLevel.toNat ∧
        (pendingTick s).status.getLsbD (8 + (pendingTick s).pins.intLevel.toNat) = true)) ∧
    ({ s0 with run := .halted } : State).run = .halted := by
  decide +kernel

theorem witness_CoprocessorUnusable :
    (usesCop1 (.addS 1 2 3) = true ∧ usesCop1 (.raclOb 1) = true ∧ s0.cu1 = false) ∧
    (∀ s ∈ [({ s0 with status := 0x10#32 } : State)],
      usesCp0 .eret = true ∧ s.um = true ∧ s.exl = false ∧ s.cu0 = false) := by
  decide +kernel

theorem witness_RegisterFileModeTraps :
    (∀ s ∈ [({ s0 with status := 0x20000000#32 } : State)], s.cu1 = true ∧ s.fr = false) ∧
    usesMdmx (.addObV 0 2 4) = true ∧ (∃ r ∈ wideFields (.addD 0 2 31), r.toNat % 2 = 1) ∧
    (∃ r ∈ wideFields (.ldc1 1 0 0), r.toNat % 2 = 1) := by
  decide +kernel

/-- A store with the addresses just below and just above its bytes, one that wraps at the top of memory, and a form
that stores nothing. -/
theorem witness_FrameMemory :
    exec (.sd 2 1 0) (gprs [(1, 0x2000#64), (2, 7#64)] s0) =
      .next (after (exec (.sd 2 1 0) (gprs [(1, 0x2000#64), (2, 7#64)] s0))) ∧
    inRange 0x1FFF#64 (storeRange (.sd 2 1 0) (gprs [(1, 0x2000#64), (2, 7#64)] s0)) = false ∧
    inRange 0x2008#64 (storeRange (.sd 2 1 0) (gprs [(1, 0x2000#64), (2, 7#64)] s0)) = false ∧
    inRange 0x0#64 (storeRange (.sb 2 0 0xFFFF) s0) = false ∧
    exec (.add 3 1 2) s0 = .next (after (exec (.add 3 1 2) s0)) ∧
    inRange 0x1000#64 (storeRange (.add 3 1 2) s0) = false := by
  refine ⟨next_of_completes (by decide +kernel), by decide +kernel, by decide +kernel, by decide +kernel,
    next_of_completes (by decide +kernel), by decide +kernel⟩

theorem witness_FrameGeneralRegisters :
    exec (.add 3 1 2) (gprs [(1, 5#64), (2, 7#64)] s0) =
      .next (after (exec (.add 3 1 2) (gprs [(1, 5#64), (2, 7#64)] s0))) ∧
    gprDest (.add 3 1 2) ≠ some 2#5 ∧ gprDest (.lw 3 1 0) ≠ some 3#5 := by
  refine ⟨next_of_completes (by decide +kernel), by decide +kernel, by decide +kernel⟩

theorem witness_FrameFloatingPoint :
    exec (.addObV 2 0 1) (fpu [(0, 3#64), (1, 5#64)] 0) =
      .next (after (exec (.addObV 2 0 1) (fpu [(0, 3#64), (1, 5#64)] 0))) ∧
    exec (.movS 2 0) (fpu [(0, 3#64)] 0) = .next (after (exec (.movS 2 0) (fpu [(0, 3#64)] 0))) ∧
    1#5 ∉ fprDests (.movS 2 0) (fpu [(0, 3#64)] 0) ∧ 1#5 ∉ fprSources (.movS 2 0) (fpu [(0, 3#64)] 0) := by
  refine ⟨next_of_completes (by decide +kernel), next_of_completes (by decide +kernel),
    by decide +kernel, by decide +kernel⟩

theorem witness_FrameControl :
    (exec (.syscall 0) s0 = .next (after (exec (.syscall 0) s0)) ∧ usesCp0 (.syscall 0) = false) ∧
    (exec .eret { s0 with status := 0x10#32 } = .next (after (exec .eret { s0 with status := 0x10#32 })) ∧
      ∀ s ∈ [({ s0 with status := 0x10#32 } : State)], s.um = true ∧ s.exl = false ∧ s.cu0 = false) := by
  refine ⟨⟨next_of_completes (by decide +kernel), by decide +kernel⟩,
    next_of_completes (by decide +kernel), by decide⟩

theorem witness_FrameOther :
    exec (.lw 2 1 0) s0 = .next (after (exec (.lw 2 1 0) s0)) ∧ writesAccOb (.lw 2 1 0) = false ∧
    writesAccQh (.mulaObV 0 1) = false ∧ writesAccOb (.mulaQhV 0 1) = false ∧ mayChangeLink (.lw 2 1 0) = false := by
  refine ⟨next_of_completes (by decide +kernel), by decide, by decide, by decide, by decide⟩

/-- A linked core. -/
def linked : State :=
  { gprs [(1, 0x2000#64), (2, 7#64)] s0 with llBit := true, llAddr := 0x2004#64 }

/-- A store into the linked doubleword changes its last byte and clears the flag; a linked load sets it. -/
theorem witness_LinkCleared :
    (exec (.sd 2 1 0) linked = .next (after (exec (.sd 2 1 0) linked)) ∧
      (after (exec (.sd 2 1 0) linked)).byteAt 0x2007#64 ≠ linked.byteAt 0x2007#64 ∧
      0x2007#64 >>> 3 = linked.llAddr >>> 3) ∧
    (exec (.ll 2 1 0) (gprs [(1, 0x2000#64)] s0) = .next (after (exec (.ll 2 1 0) (gprs [(1, 0x2000#64)] s0))) ∧
      (after (exec (.ll 2 1 0) (gprs [(1, 0x2000#64)] s0))).llBit = true ∧
      (gprs [(1, 0x2000#64)] s0).llBit = false) := by
  refine ⟨⟨next_of_completes (by decide +kernel), by decide +kernel, by decide⟩,
    next_of_completes (by decide +kernel), by decide +kernel, by decide⟩

/-- The widths of the ALU statements: the smallest, and those of the unit. -/
theorem witness_Alu : ∀ n ∈ [1, 8, 16, 32, 64], 0 < n := by decide

theorem witness_GeneralRegisterFile : (31#5 : GprNo) ≠ 0#5 ∧ (30#5 : GprNo) ≠ 31#5 := by decide

/-- Sums that just fit and just do not, at 32 and at 64 bits, and a difference. -/
theorem witness_AddSubtract :
    fitsSigned 32 ((0x7FFFFFFE#32).toInt + 1) ∧ ¬ fitsSigned 32 ((0x7FFFFFFF#32).toInt + 1) ∧
    fitsSigned 32 ((0x80000001#32).toInt - 1) ∧ ¬ fitsSigned 32 ((0x80000000#32).toInt - 1) ∧
    fitsSigned 64 ((0x7FFFFFFFFFFFFFFE#64).toInt + 1) ∧ ¬ fitsSigned 64 ((0x7FFFFFFFFFFFFFFF#64).toInt + 1) ∧
    fitsSigned 64 ((0x8000000000000001#64).toInt - 1) ∧ ¬ fitsSigned 64 ((0x8000000000000000#64).toInt - 1) ∧
    (gprs [(1, 0x7FFFFFFF#64)] s0).readGprLow 1 = 0x7FFFFFFF#32 := by
  decide

theorem witness_Branches : (fpu [] 0).cu1 = true := by decide

/-- The last access inside a doubleword and the first that crosses one; 1 and 8 bytes. -/
theorem witness_MemReadBytes_MemWriteBytes :
    (1 ≤ 1 ∧ 1 ≤ 8 ∧ (0x2007#64).toNat % 8 + 1 ≤ 8) ∧ (1 ≤ 8 ∧ 8 ≤ 8 ∧ (0x2000#64).toNat % 8 + 8 ≤ 8) ∧
    (1 ≤ 2 ∧ 2 ≤ 8 ∧ 8 < (0x2007#64).toNat % 8 + 2) ∧ (1 ≤ 8 ∧ 8 ≤ 8 ∧ 8 < (0x2001#64).toNat % 8 + 8) := by
  decide

theorem witness_EndianRoundTrip :
    memWrite s0 0x2006#64 2 0x1234#64 = .ok (clearLinkIfAliased (storeValue s0 0x2006#64 2 0x1234#64) 0x2006#64 2) ∧
    memWrite16 s0 0x2010#64 7#128 = .ok (clearLinkIfAliased (storeValue s0 0x2010#64 16 7#128) 0x2010#64 16) := by
  refine ⟨by rfl, by rfl⟩

/-- One byte at the end of a doubleword, a whole doubleword, a word; 16 bytes at a multiple of 16, the last one too. -/
theorem witness_LaneMultiplexer :
    (1 ≤ 1 ∧ (0x2007#64).toNat % 8 + 1 ≤ 8) ∧ (1 ≤ 8 ∧ (0x2000#64).toNat % 8 + 8 ≤ 8) ∧
    (1 ≤ 4 ∧ (0x2004#64).toNat % 8 + 4 ≤ 8 ∧ (0x2004#64).toNat % 4 = 0) ∧
    (0x2010#64).toNat % 16 = 0 ∧ (0xFFFFFFFFFFFFFFF0#64).toNat % 16 = 0 := by
  decide

/-- Room for one more entry: an empty queue, and one with a single free slot. -/
theorem witness_room : s0.Room ∧ ({ s0 with pq := List.replicate 3 ⟨.gpr 2, 1#64, 0, none⟩ } : State).Room := by
  decide

theorem witness_AlignedLoadsAndStores :
    (∀ p ∈ loadTable, ((gprs [(1, 0x2000#64)] s0).va 1 8).toNat % p.2.1 = 0) ∧
    (∀ p ∈ storeTable, ((gprs [(1, 0x2000#64)] s0).va 1 0xFFF8).toNat % p.2 = 0) := by
  decide +kernel

/-- A load and a store, and the forms of the FPU with `CU1` = 1: `FR` = 1, and `FR` = 0 with an even register. -/
theorem witness_MisalignedAccessTraps :
    (usesCop1 (.lh 2 1 1) = false ∧ loadAlignment (.lh 2 1 1) (gprs [(1, 0x2000#64)] s0) = some (0x2001#64, 2) ∧
      (0x2001#64).toNat % 2 ≠ 0) ∧
    (usesCop1 (.sd 2 1 4) = false ∧ storeAlignment (.sd 2 1 4) (gprs [(1, 0x2000#64)] s0) = some (0x2004#64, 8) ∧
      (0x2004#64).toNat % 8 ≠ 0) ∧
    (loadAlignment (.ldc1 3 1 4) (gprs [(1, 0x2000#64)] (fpu [] 0)) = some (0x2004#64, 8) ∧
      (gprs [(1, 0x2000#64)] (fpu [] 0)).cu1 = true ∧ (gprs [(1, 0x2000#64)] (fpu [] 0)).fr = true) ∧
    (∀ s ∈ [({ s0 with status := 0x20000000#32 } : State)], s.cu1 = true ∧ s.fr = false ∧
      ∀ r ∈ wideFields (.sdc1 2 1 4), r.toNat % 2 = 0) := by
  decide +kernel

theorem witness_LinkedAccess :
    ((gprs [(1, 0x2000#64)] s0).va 1 4).toNat % 4 = 0 ∧ ((gprs [(1, 0x2000#64)] s0).va 1 8).toNat % 8 = 0 ∧
    (gprs [(1, 0x2000#64)] s0).Room ∧ (gprs [(1, 0x2000#64)] s0).llBit = false ∧ linked.llBit = true := by
  decide

/-- Two words at the PC of a state. -/
noncomputable def program (w1 w2 : Nat) (s : State) : State :=
  { at_ w2 { at_ w1 s with pc := s.pc + 4#64 } with pc := s.pc }

/-- A little-endian core from reset on. -/
def leCore (s : State) : State := { le s with cfg := { s.cfg with bigEndian := false } }

/-- A word in big-endian order and a doubleword in little-endian order at unaligned addresses (96: LWL 1, LWR 4; LDL
10, LDR 3). -/
theorem witness_UnalignedLoadPair :
    (∀ s ∈ [program 0x88220001 0x98220004 (gprs [(1, 0x2000#64)] (mem2 s0))],
      s.Inv ∧ step s = .next (after (step s)) ∧ (samplePins s).Ready ∧ (samplePins (after (step s))).Ready ∧
      (samplePins (after (step s))).bigEndianCPU false = (samplePins s).bigEndianCPU false ∧
      (samplePins s).bigEndianCPU false = true ∧
      (samplePins (after (step s))).va 1 4 = (samplePins s).va 1 1 + BitVec.ofNat 64 (4 - 1) ∧
      fetchDecode (samplePins s) = .ok (.lwl 2 1 1) ∧
      fetchDecode (samplePins (after (step s))) = .ok (.lwr 2 1 4)) ∧
    (∀ s ∈ [program 0x6822000A 0x6C220003 (leCore (gprs [(1, 0x2000#64)] (mem2 s0)))],
      s.Inv ∧ step s = .next (after (step s)) ∧ (samplePins s).Ready ∧ (samplePins (after (step s))).Ready ∧
      (samplePins (after (step s))).bigEndianCPU false = (samplePins s).bigEndianCPU false ∧
      (samplePins s).bigEndianCPU false = false ∧
      (samplePins s).va 1 10 = (samplePins (after (step s))).va 1 3 + BitVec.ofNat 64 (8 - 1) ∧
      fetchDecode (samplePins s) = .ok (.ldl 2 1 10) ∧
      fetchDecode (samplePins (after (step s))) = .ok (.ldr 2 1 3)) := by
  constructor <;> intro s hs <;> cases List.mem_singleton.mp hs <;>
    refine ⟨by constructor <;> decide +kernel, next_of_completes (by decide +kernel), by decide +kernel,
      by decide +kernel, by decide +kernel, by decide +kernel, by decide +kernel, by rfl, by rfl⟩

/-- `FR` = 1 with an odd register; `FR` = 0 with an even one. -/
theorem witness_FpuLoadsAndStores :
    (∀ s ∈ [gprs [(1, 0x2000#64)] (fpu [] 0)], s.cu1 = true ∧ s.fr = true ∧ (s.va 1 4).toNat % 4 = 0 ∧
      (s.va 1 8).toNat % 8 = 0 ∧ s.Room) ∧
    (∀ s ∈ [({ gprs [(1, 0x2000#64)] s0 with status := 0x20000000#32 } : State)], s.cu1 = true ∧ s.fr = false ∧
      (30#5 : FprNo).toNat % 2 = 0 ∧ (s.va 1 8).toNat % 8 = 0 ∧ s.Room) := by
  decide

/-- Two due entries, the most an instruction makes, of every kind; two that are not due yet. -/
theorem witness_PendingTick :
    (∀ s ∈ [({ s0 with pq := [⟨.gpr 2, 9#64, 0, none⟩, ⟨.fcsr, 1#64, 0, some 31⟩] } : State),
        { s0 with pq := [⟨.fpr32 3, 9#64, 0, none⟩, ⟨.fpr64 4, 1#64, 0, none⟩] }],
      s.QueueLegal ∧ s.run ≠ .checkStop ∧ (31#5 : GprNo) ≠ 0#5) ∧
    ∀ e ∈ [(⟨.fcsr, 1#64, 1, some 30⟩ : Pending), ⟨.fcsr, 0#64, 1, some 31⟩], e.remaining = 1 := by
  decide

theorem witness_QueueEntries :
    ∀ s ∈ [({ gprs [(1, 0x2000#64)] s0 with pq := List.replicate 4 ⟨.gpr 2, 1#64, 0, none⟩ } : State)],
      s.cfg.pendingCapacity ≤ s.pq.length ∧ ∀ p ∈ loadTable, (s.va 1 8).toNat % p.2.1 = 0 := by
  decide +kernel

/-- What `LoadDelay` asks of a state, of the instruction at its PC and of the step behind it. -/
theorem delay_witness {i : Instr} {s : State} (h1 : s.cfg.Valid ∧ s.StatusLegal ∧ s.FcsrLegal ∧ s.CauseLegal ∧
      s.MemoryCanonical ∧ s.QueueLegal ∧ s.isaMode = false ∧ s.configBE = s.cfg.bigEndian)
    (h2 : (samplePins s).Ready ∧ (samplePins (after (step s))).Ready)
    (h3 : completes (step (after (step s))) = true) (h4 : fetchDecode (samplePins s) = .ok i) :
    s.Inv ∧ (samplePins s).Ready ∧ fetchDecode (samplePins s) = .ok i ∧ (samplePins (after (step s))).Ready ∧
      step (after (step s)) = .next (after (step (after (step s)))) :=
  ⟨⟨h1.1, h1.2.1, h1.2.2.1, h1.2.2.2.1, h1.2.2.2.2.1, h1.2.2.2.2.2.1, h1.2.2.2.2.2.2.1, h1.2.2.2.2.2.2.2⟩, h2.1, h4,
    h2.2, next_of_completes h3⟩

/-- LW and LWL at the PC, and the step after each. -/
theorem witness_LoadDelay_general :
    (∃ s, (s.Inv ∧ (samplePins s).Ready ∧ fetchDecode (samplePins s) = .ok (.lw 2 1 0) ∧
      (samplePins (after (step s))).Ready ∧ step (after (step s)) = .next (after (step (after (step s))))) ∧
      (gprLoad (.lw 2 1 0) (samplePins s)).isSome = true ∧
      loadAlignment (.lw 2 1 0) (samplePins s) = some (0x2000#64, 4) ∧ (0x2000#64).toNat % 4 = 0) ∧
    ∃ s, (s.Inv ∧ (samplePins s).Ready ∧ fetchDecode (samplePins s) = .ok (.lwl 2 1 1) ∧
      (samplePins (after (step s))).Ready ∧ step (after (step s)) = .next (after (step (after (step s))))) ∧
      (gprLoad (.lwl 2 1 1) (samplePins s)).isSome = true ∧ loadAlignment (.lwl 2 1 1) (samplePins s) = none :=
  ⟨⟨at_ 0x8C220000 (gprs [(1, 0x2000#64)] (mem2 s0)),
    delay_witness (by decide +kernel) (by decide +kernel) (by decide +kernel) (by rfl), by decide +kernel,
    by decide +kernel, by decide⟩,
    at_ 0x88220001 (gprs [(1, 0x2000#64)] (mem2 s0)),
    delay_witness (by decide +kernel) (by decide +kernel) (by decide +kernel) (by rfl), by decide +kernel,
    by decide +kernel⟩

/-- LWC1; LDC1 with `FR` = 1 and an odd register, and with `FR` = 0 and an even one. -/
theorem witness_LoadDelay_fpu :
    (∃ s, (s.Inv ∧ (samplePins s).Ready ∧ fetchDecode (samplePins s) = .ok (.lwc1 3 1 4) ∧
      (samplePins (after (step s))).Ready ∧ step (after (step s)) = .next (after (step (after (step s))))) ∧
      (samplePins s).cu1 = true ∧ ((samplePins s).va 1 4).toNat % 4 = 0) ∧
    (∃ s, (s.Inv ∧ (samplePins s).Ready ∧ fetchDecode (samplePins s) = .ok (.ldc1 31 1 8) ∧
      (samplePins (after (step s))).Ready ∧ step (after (step s)) = .next (after (step (after (step s))))) ∧
      (samplePins s).cu1 = true ∧ (samplePins s).fr = true ∧ (after (step (after (step s)))).fr = true ∧
      ((samplePins s).va 1 8).toNat % 8 = 0) ∧
    ∃ s, (s.Inv ∧ (samplePins s).Ready ∧ fetchDecode (samplePins s) = .ok (.ldc1 30 1 8) ∧
      (samplePins (after (step s))).Ready ∧ step (after (step s)) = .next (after (step (after (step s))))) ∧
      (samplePins s).cu1 = true ∧ (30#5 : FprNo).toNat % 2 = 0 ∧ (after (step (after (step s)))).fr = false ∧
      (30#5 : FprNo) ≠ 31#5 ∧ ((samplePins s).va 1 8).toNat % 8 = 0 :=
  ⟨⟨at_ 0xC4230004 (gprs [(1, 0x2000#64)] (mem2 (fpu [] 0))),
    delay_witness (by decide +kernel) (by decide +kernel) (by decide +kernel) (by rfl), by decide +kernel,
    by decide +kernel⟩,
    ⟨at_ 0xD43F0008 (gprs [(1, 0x2000#64)] (mem2 (fpu [] 0))),
    delay_witness (by decide +kernel) (by decide +kernel) (by decide +kernel) (by rfl), by decide +kernel,
    by decide +kernel, by decide +kernel, by decide +kernel⟩,
    at_ 0xD43E0008 (gprs [(1, 0x2000#64)] (mem2 { s0 with status := 0x20000000#32 })),
    delay_witness (by decide +kernel) (by decide +kernel) (by decide +kernel) (by rfl), by decide +kernel,
    by decide +kernel, by decide +kernel, by decide +kernel, by decide +kernel⟩

/-- C.EQ.S for condition code 7 and C.EQ.PS for 6 and 7, with no exception enabled. -/
theorem witness_LoadDelay_compare :
    (∃ s, (s.Inv ∧ (samplePins s).Ready ∧ fetchDecode (samplePins s) = .ok (.cEqS 7 1 2) ∧
      (samplePins (after (step s))).Ready ∧ step (after (step s)) = .next (after (step (after (step s))))) ∧
      (samplePins s).cu1 = true ∧ (samplePins s).WideOk .s [1, 2] ∧ (samplePins s).fpEnables = 0#5) ∧
    ∃ s, (s.Inv ∧ (samplePins s).Ready ∧ fetchDecode (samplePins s) = .ok (.cEqPs 6 1 3) ∧
      (samplePins (after (step s))).Ready ∧ step (after (step s)) = .next (after (step (after (step s))))) ∧
      (samplePins s).cu1 = true ∧ (samplePins s).WideOk .ps [1, 3] ∧ (6#3 : BitVec 3).toNat % 2 = 0 ∧
      (samplePins s).fpEnables = 0#5 :=
  ⟨⟨at_ 0x46020F32 (fpu [(1, 5#64), (2, 5#64)] 0),
    delay_witness (by decide +kernel) (by decide +kernel) (by decide +kernel) (by rfl), by decide +kernel,
    by decide +kernel, by decide +kernel⟩,
    at_ 0x46C30E32 (fpu [(1, 5#64), (3, 5#64)] 0),
    delay_witness (by decide +kernel) (by decide +kernel) (by decide +kernel) (by rfl), by decide +kernel,
    by decide +kernel, by decide, by decide +kernel⟩

/-- The premise in each of its three ways is `witness_TrapEntry`; the first and last implemented registers, and
the numbers just beside them. -/
theorem witness_Cp0Moves :
    s0.readCp0 8 = some s0.badVAddr ∧ s0.readCp0 16 = some 0x8000#64 ∧ s0.readCp0 7 = none ∧ s0.readCp0 17 = none := by
  decide

/-- `FR` = 1 and 0, and for CTC1: Cause and Enables at their highest bits disjoint, meeting, and E alone. -/
theorem witness_FpuMoves :
    (fpu [] 0).cu1 = true ∧ (fpu [] 0).fr = true ∧
    (∀ s ∈ [({ s0 with status := 0x20000000#32 } : State)], s.cu1 = true ∧ s.fr = false ∧
      (30#5 : FprNo).toNat % 2 = 0) ∧
    ((0x00010780#32).extractLsb' 12 5 &&& (0x00010780#32).extractLsb' 7 5 = 0#5 ∧
      (0x00010780#32).getLsbD 17 = false) ∧
    (0x00010800#32).extractLsb' 12 5 &&& (0x00010800#32).extractLsb' 7 5 ≠ 0#5 ∧
    (0x00001080#32).extractLsb' 12 5 &&& (0x00001080#32).extractLsb' 7 5 ≠ 0#5 ∧
    (0x00020000#32).getLsbD 17 = true := by
  decide +kernel

/-- A tag that matches, one that does not, and a pair of which only the second does not. -/
theorem witness_FormattedAccess :
    (∀ s ∈ [(fpu [] 0).setTag 3 .double], s.WideOk .d [3] ∧ s.tagAt 3 = Fmt.d.tag ∧ s.tagAt 3 ≠ Fmt.s.tag ∧
      s.tagAt 3 ≠ .uninterpreted) ∧
    (∀ s ∈ [(({ s0 with status := 0x20000000#32 } : State).setTag 30 .double).setTag 31 .single],
      s.WideOk .d [30] ∧ s.tagAt 30 = Fmt.d.tag ∧ s.tagAt 31 ≠ Fmt.d.tag ∧ s.tagAt 31 ≠ .uninterpreted) := by
  decide +kernel

/-- Enabled and not, at the lowest and the highest flag. -/
theorem witness_FpRaise :
    (∀ s ∈ [fpu [] 0x00000080#32], excI &&& s.fcsr.extractLsb' 7 5 ≠ 0#5 ∧ excV &&& s.fcsr.extractLsb' 7 5 = 0#5) ∧
    (∀ s ∈ [fpu [] 0x00000800#32], excV &&& s.fcsr.extractLsb' 7 5 ≠ 0#5 ∧ excI &&& s.fcsr.extractLsb' 7 5 = 0#5) := by
  decide +kernel

/-- Every instruction of the tables completes on these operands: no flag is enabled. With inexact enabled, 1 / 3
traps; with `FR` = 0 the even registers are allowed. -/
theorem witness_FpuArithmetic :
    (∀ f : ArithFmt, (fpu [] 0).cu1 = true ∧ (fpu [] 0).WideOk f.toFmt [31, 30, 29, 28]) ∧
    (∀ fl : FpExcs, fl &&& (fpu [] 0).fpEnables = 0#5) ∧
    (FpOp2.inFmt fpDiv .s .nearestEven false 0x3F800000#64 0x40400000#64).2 &&& (fpu [] 0x80#32).fpEnables ≠ 0#5 ∧
    (FpOp1.inFmt fpSqrt .s .nearestEven false 0x40000000#64).2 &&& (fpu [] 0x80#32).fpEnables ≠ 0#5 ∧
    (FpOp3.inFmt fpMadd .s .nearestEven false 0x3F800800#64 0x3F800800#64 0xBF801000#64).2 &&&
      (fpu [] 0x80#32).fpEnables ≠ 0#5 ∧
    ({ s0 with status := 0x20000000#32 } : State).WideOk .d [2, 4, 6, 8] := by
  refine ⟨fun f => by cases f <;> decide +kernel, by decide +kernel, by decide +kernel, by decide +kernel,
    by decide +kernel, by decide +kernel⟩

theorem witness_FpuConversions :
    (fpu [] 0).cu1 = true ∧ (∀ f : Fmt, (fpu [] 0).WideOk f [31]) ∧ (∀ fl : FpExcs, fl &&& (fpu [] 0).fpEnables = 0#5) ∧
    (inLowHalf (fpToInt .single 32 .nearestEven 0x3FC00000#32)).2 &&& (fpu [] 0x80#32).fpEnables ≠ 0#5 := by
  refine ⟨by decide +kernel, fun f => by cases f <;> decide +kernel, by decide +kernel, by decide +kernel⟩

/-- Room for one entry and for two, the highest even code; a quiet NaN under a signalling predicate traps. -/
theorem witness_FpuCompares :
    (∀ s ∈ [({ fpu [] 0 with pq := List.replicate 2 ⟨.gpr 2, 1#64, 0, none⟩ } : State)], s.cu1 = true ∧ s.Room ∧
      s.pq.length + 2 ≤ s.cfg.pendingCapacity ∧ s.WideOk .ps [1, 3] ∧ s.WideOk .d [1, 3] ∧
      (6#3 : BitVec 3).toNat % 2 = 0) ∧
    (fpCompare .single 12#4 0x7FC00000#32 0x3F800000#32).2 &&& (fpu [] 0x800#32).fpEnables ≠ 0#5 ∧
    (fpCompare .single 12#4 0x3F800000#32 0x40000000#32).2 &&& (fpu [] 0x800#32).fpEnables = 0#5 := by
  decide +kernel

/-- Finite operands, the two zeros among them, and each infinity. -/
theorem witness_CompareTotal :
    (@fpIsNaN .single 0x80000000#32 = false ∧ @fpIsInf .single 0x80000000#32 = false ∧
      @fpIsNaN .single 0#32 = false ∧ @fpIsInf .single 0#32 = false) ∧
    (@fpIsNaN .single 0x7F800000#32 = false ∧ @fpIsInf .single 0x7F800000#32 = true) ∧
    (@fpIsNaN .double 0xFFF0000000000000#64 = false ∧ @fpIsInf .double 0xFFF0000000000000#64 = true ∧
      @fpIsInf .double 0x7FEFFFFFFFFFFFFF#64 = false) := by
  decide +kernel

/-- A NaN of each kind; an infinity, a zero and a finite value beside it that is no NaN. -/
theorem witness_FpuUnit :
    (@fpIsNaN .single 0x7F800001#32 = true ∧ @fpIsNaN .single 0x7FC00000#32 = true) ∧
    (@fpIsNaN .single 0xFF800000#32 = false ∧ @fpIsNaN .single 0x80000000#32 = false ∧
      @fpIsNaN .double 0x0000000000000001#64 = false) ∧
    (@fpIsZero .single 0x80000000#32 = true ∧ @fpIsZero .single 0x80000001#32 = false ∧
      @fpSign .single 0x80000001#32 = true ∧ @fpIsInf .single 0x7F800000#32 = true ∧
      @fpSign .single 0x7F800000#32 = false) := by
  decide +kernel

/-- A value to round; and the smallest and the largest positive finite number, for the square root. -/
theorem witness_FpuUnitRounding :
    (-1 / 3 : Rat) ≠ 0 ∧
    (@fpExp .single 0x00000001#32 ≠ FpFmt.single.expMax ∧ @fpSign .single 0x00000001#32 = false ∧
      @fpIsZero .single 0x00000001#32 = false) ∧
    (@fpExp .double 0x7FEFFFFFFFFFFFFF#64 ≠ FpFmt.double.expMax ∧ @fpSign .double 0x7FEFFFFFFFFFFFFF#64 = false ∧
      @fpIsZero .double 0x7FEFFFFFFFFFFFFF#64 = false) := by
  decide +kernel

/-- Each class of operand; integers at the ends of the exact ranges. -/
theorem witness_FpuUnitConversions :
    (32 ∈ [32, 64] ∧ 64 ∈ [32, 64]) ∧
    (@fpIsNaN .single 0x7F800001#32 = true ∧ @fpIsInf .single 0xFF800000#32 = true ∧
      @fpIsZero .single 0x80000000#32 = true ∧ @fpExp .single 0x00000001#32 ≠ FpFmt.single.expMax ∧
      @fpIsZero .single 0x00000001#32 = false) ∧
    (@fpIsNaN .double 0xFFF8000000000000#64 = true ∧ @fpIsInf .double 0x7FF0000000000000#64 = true ∧
      @fpIsZero .double 0#64 = true ∧ @fpExp .double 0x0000000000000001#64 ≠ FpFmt.double.expMax ∧
      @fpIsZero .double 0x0000000000000001#64 = false) ∧
    ((-16777216 : Int).natAbs ≤ 2 ^ FpFmt.single.prec ∧ (9007199254740992 : Int).natAbs ≤ 2 ^ FpFmt.double.prec) ∧
    ((-2 ^ 23 : Int) ≤ -8388608 ∧ (8388608 : Int) ≤ 2 ^ 23) := by
  decide +kernel

/-- The largest and the smallest normal number and the smallest subnormal, in each format. -/
theorem witness_RoundRepresentable :
    (@fpExp .single 0x7F7FFFFF#32 = 254 ∧ @fpIsZero .single 0x7F7FFFFF#32 = false) ∧
    (@fpExp .single 0x00800000#32 = 1 ∧ @fpIsZero .single 0x00800000#32 = false) ∧
    (@fpExp .single 0x80000001#32 = 0 ∧ @fpIsZero .single 0x80000001#32 = false) ∧
    (@fpExp .double 0x000FFFFFFFFFFFFF#64 = 0 ∧ @fpIsZero .double 0x000FFFFFFFFFFFFF#64 = false) ∧
    FpFmt.single.expMax = 255 ∧ FpFmt.double.expMax = 2047 := by
  refine ⟨by decide +kernel, by decide +kernel, by decide +kernel, by decide +kernel, rfl, rfl⟩

/-- The premise of the MDMX statements. -/
theorem witness_Mdmx : (fpu [] 0).cu1 = true ∧ (fpu [] 0).fr = true := by decide

end Sys2Proof.Tests
end

/-! The memory accesses of 20_memory.md as arithmetic (R84-R87). The bytes of an access, taken least significant
first, are the base-256 digits of its value (`Nat.ofDigits`): a load puts the digits together, a store takes them
apart, and the byte order says only which end of the access comes first. -/

namespace Sys2Proof.Machine

/-! ### Digits -/

/-- The number of `n` digits given least significant first, as a sum. -/
theorem ofDigits_map_range (b : Nat) (f : Nat → Nat) (n : Nat) :
    Nat.ofDigits b ((List.range n).map f) = ((List.range n).map fun j => f j * b ^ j).sum := by
  induction n with
  | zero => rfl
  | succ n ih => simp [List.range_succ, Nat.ofDigits_append, ih, Nat.mul_comm]

/-- The number of `n` digits given most significant first, as a sum. -/
theorem ofDigits_reverse_map_range (b : Nat) (f : Nat → Nat) (n : Nat) :
    Nat.ofDigits b ((List.range n).map f).reverse = ((List.range n).map fun j => f j * b ^ (n - 1 - j)).sum := by
  have hrev (g : Nat → Nat) : ((List.range n).map g).reverse = (List.range n).map fun j => g (n - 1 - j) :=
    List.ext_getElem (by simp) fun j h _ => by simp
  rw [hrev, ofDigits_map_range, ← List.sum_reverse, hrev]
  refine congrArg List.sum (List.map_congr_left fun j hj => ?_)
  have hlt := List.mem_range.mp hj
  rw [show n - 1 - (n - 1 - j) = j by omega]

/-- The bytes that `splitBytes` takes off a value are its digits. -/
theorem ofDigits_splitBytes {w : Nat} (v : BitVec w) (n : Nat) :
    Nat.ofDigits 256 ((splitBytes v n).map BitVec.toNat) = v.toNat % 256 ^ n := by
  induction n generalizing v with
  | zero => simp [splitBytes, Nat.mod_one]
  | succ n ih =>
    calc Nat.ofDigits 256 ((splitBytes v (n + 1)).map BitVec.toNat)
        = v.toNat % 256 + 256 * (v.toNat / 256 % 256 ^ n) := by
          rw [splitBytes, List.map_cons, Nat.ofDigits_cons, ih, BitVec.toNat_setWidth, BitVec.toNat_ushiftRight,
            Nat.shiftRight_eq_div_pow, show (2 : Nat) ^ 8 = 256 from rfl]
      _ = v.toNat % 256 ^ (n + 1) := by rw [Nat.pow_succ' (n := n), Nat.mod_mul]

/-- Bytes joined from the most significant one down are digits read from the other end. -/
theorem joinBytes_reverse_toNat (w : Nat) (bs : List Byte) :
    (joinBytes w 0#w bs.reverse).toNat = Nat.ofDigits 256 (bs.map BitVec.toNat) % 2 ^ w := by
  rw [joinBytes_toNat, List.foldl_reverse, Nat.ofDigits_eq_foldr, List.foldr_map]
  simp [Nat.mul_comm, Nat.add_comm]

/-- The value of bytes in a byte order, as a number: digits from the end that holds the least significant byte. -/
theorem valueOfBytes_toNat (w : Nat) (be : Bool) (bs : List Byte) :
    (valueOfBytes w be bs).toNat =
      Nat.ofDigits 256 ((if be then bs.reverse else bs).map BitVec.toNat) % 2 ^ w := by
  rw [← joinBytes_reverse_toNat]
  cases be <;> simp [valueOfBytes]

/-- Taking a value apart and joining its bytes in the same order keeps its low `8n` bits. -/
theorem valueOfBytes_bytesOfValue {w : Nat} (be : Bool) (n : Nat) (v : BitVec w) :
    valueOfBytes w be (bytesOfValue be n v) = BitVec.ofNat w (v.toNat % 256 ^ n) := by
  have horder : (if be then (bytesOfValue be n v).reverse else bytesOfValue be n v) = splitBytes v n := by
    cases be <;> simp [bytesOfValue]
  apply BitVec.eq_of_toNat_eq
  rw [valueOfBytes_toNat, horder, ofDigits_splitBytes, BitVec.toNat_ofNat]

/-- One byte of a value, as a number. -/
theorem extractByte_toNat {w : Nat} (v : BitVec w) (i : Nat) :
    (v.extractLsb' (8 * i) 8).toNat = v.toNat / 256 ^ i % 256 := by
  rw [BitVec.extractLsb'_toNat, Nat.shiftRight_eq_div_pow, Nat.pow_mul]

/-! ### Loads -/

/-- The bytes from an address on, as a list over their offsets. -/
theorem State.bytesFrom_eq_map (s : State) (a : Word) (n : Nat) :
    s.bytesFrom a n = (List.range n).map fun j => s.byteAt (a + BitVec.ofNat 64 j) := by
  apply List.ext_getElem?
  intro j
  rw [State.bytesFrom_getElem?, List.getElem?_map]
  by_cases hj : j < n <;> simp [hj]

/-- The value a load of up to 8 bytes assembles, as a sum over the offsets (R84). -/
theorem valueOfBytes_bytesFrom_toNat (s : State) (be : Bool) (a : Word) (n : Nat) (hn : n ≤ 8) :
    (valueOfBytes 64 be (s.bytesFrom a n)).toNat =
      ((List.range n).map fun j => (s.byteAt (a + BitVec.ofNat 64 j)).toNat * 256 ^ byteIndex be n j).sum := by
  have hlt : Nat.ofDigits 256 ((if be then (s.bytesFrom a n).reverse else s.bytesFrom a n).map BitVec.toNat) <
      2 ^ 64 := by
    refine (Nat.ofDigits_lt_base_pow_length (by decide) ?_).trans_le ?_
    · simp only [List.mem_map]
      rintro _ ⟨b, -, rfl⟩
      exact b.isLt
    · have hlen : (if be then (s.bytesFrom a n).reverse else s.bytesFrom a n).length = n := by split <;> simp
      rw [List.length_map, hlen]
      exact Nat.pow_le_pow_right (by decide : 0 < 256) hn
  rw [valueOfBytes_toNat, Nat.mod_eq_of_lt hlt, State.bytesFrom_eq_map]
  cases be
  · exact (congrArg _ (List.map_map ..)).trans (ofDigits_map_range ..)
  · rw [if_pos rfl, List.map_reverse, List.map_map]
    exact ofDigits_reverse_map_range ..

/-- Settles O31: the boundary rule, and the value as the sum of the bytes at their places. -/
theorem memReadBytes : Obligations.MemReadBytes := by
  intro s va n _ hn
  rcases memRead_cases s va n with ⟨hin, hread⟩ | ⟨hout, hread⟩
  · have hle : va.toNat % 8 + n ≤ 8 := of_decide_eq_true hin
    exact ⟨fun _ => ⟨_, hread, valueOfBytes_bytesFrom_toNat s _ va n hn⟩, fun hgt => absurd hle (by omega)⟩
  · exact ⟨fun hle => absurd hle (of_decide_eq_false hout), fun _ => hread⟩

/-! ### Stores -/

/-- Settles O32: the boundary rule, each byte by its distance from the address, and the frame of a store. -/
theorem memWriteBytes : Obligations.MemWriteBytes := by
  intro s va n v _ hn
  rcases memWrite_cases s va n v with ⟨hin, hok⟩ | ⟨hout, herr⟩
  · have hle : va.toNat % 8 + n ≤ 8 := of_decide_eq_true hin
    obtain ⟨t, hwrite⟩ : ∃ t, memWrite s va n v = .ok t := ⟨_, hok⟩
    have hframe := memWrite_frame s t va n v hwrite
    have hlink : t.llBit = (s.llBit && !mayAlias s.cfg s.llAddr va n) := congrArg State.llBit hframe
    refine ⟨fun _ => ⟨t, hwrite, fun j hj => ?_, fun a ha => ?_, hlink, by rw [hlink]; exact hframe⟩,
      fun hgt => absurd hle (by omega)⟩
    · have hoff : (va + BitVec.ofNat 64 j - va).toNat = j := by bv_omega
      rw [memWrite_byteAt _ _ _ _ _ hwrite, hoff, if_pos hj]
      exact extractByte_toNat v _
    · rw [memWrite_byteAt _ _ _ _ _ hwrite, if_neg (Nat.not_lt.mpr ha)]
  · exact ⟨fun hle => absurd hle (of_decide_eq_false hout), fun _ => herr⟩

/-! ### Loading what was stored -/

/-- A store leaves the byte order of the data accesses as it is. -/
theorem bigEndianCPU_stored {w : Nat} (s : State) (pa : Word) (n : Nat) (v : BitVec w) (isFetch : Bool) :
    (clearLinkIfAliased (storeValue s pa n v) pa n).bigEndianCPU isFetch = s.bigEndianCPU isFetch := by
  simp [State.bigEndianCPU, State.re, State.userMode, State.kernelMode, State.exl, State.um]

/-- The bytes in the range of a store are those of the value. -/
theorem bytesFrom_stored {w : Nat} (s : State) (pa : Word) (n : Nat) (v : BitVec w) (hn : n ≤ 2 ^ 64) :
    (clearLinkIfAliased (storeValue s pa n v) pa n).bytesFrom pa n = bytesOfValue (s.bigEndianCPU false) n v := by
  apply List.ext_getElem?
  intro j
  rw [State.bytesFrom_getElem?]
  by_cases hj : j < n
  · have hoff : (pa + BitVec.ofNat 64 j - pa).toNat = j := by bv_omega
    rw [if_pos hj, State.byteAt_eq_of_mem (storeValue s pa n v) _ _ (clearLink_mem ..), storeValue,
      State.byteAt_storeBytes _ _ _ _ (by simpa using hn), hoff, List.getElem?_eq_getElem (by simpa using hj)]
    rfl
  · rw [if_neg hj, List.getElem?_eq_none (by simpa using hj)]

/-- Loading the range of a store under the order it was stored in, for any length and width (R87). -/
theorem valueOfBytes_stored {w : Nat} (s t : State) (pa : Word) (n : Nat) (v : BitVec w) (hn : n ≤ 2 ^ 64)
    (ht : t = clearLinkIfAliased (storeValue s pa n v) pa n) :
    valueOfBytes w (t.bigEndianCPU false) (t.bytesFrom pa n) = BitVec.ofNat w (v.toNat % 256 ^ n) := by
  rw [ht, bigEndianCPU_stored, bytesFrom_stored s pa n v hn, valueOfBytes_bytesOfValue]

/-- What `MemWrite` of 16 bytes can do (R86). -/
theorem memWrite16_cases (s : State) (va : Word) (v : BitVec 128) :
    (va.toNat % 16 = 0 ∧ memWrite16 s va v = .ok (clearLinkIfAliased (storeValue s va 16 v) va 16)) ∨
    (va.toNat % 16 ≠ 0 ∧ memWrite16 s va v = .error (.adES va)) := by
  by_cases h : va.toNat % 16 = 0
  · exact .inl ⟨h, if_pos h⟩
  · exact .inr ⟨h, if_neg h⟩

/-- `MemRead` of 16 bytes at a multiple of 16 (R86). -/
theorem memRead16_of_aligned (s : State) (va : Word) (h : va.toNat % 16 = 0) :
    memRead16 s va = .ok (valueOfBytes 128 (s.bigEndianCPU false) (s.bytesFrom va 16)) := if_pos h

/-- Settles O33: the load passes the boundary check its store passed, and joins the bytes the store took apart. -/
theorem endianRoundTrip : Obligations.EndianRoundTrip := by
  refine ⟨fun s t va n v hwrite => ?_, fun s t va v hwrite => ?_⟩
  · rcases memWrite_cases s va n v with ⟨hin, hok⟩ | ⟨_, herr⟩
    · have hle : va.toNat % 8 + n ≤ 8 := of_decide_eq_true hin
      rcases memRead_cases t va n with ⟨_, hread⟩ | ⟨hout, _⟩
      · have ht := Except.ok.inj (hwrite.symm.trans hok)
        rw [hread, valueOfBytes_stored s t va n v (by omega) ht, Nat.pow_mul]
      · exact absurd (hin.symm.trans hout) (by decide)
    · cases hwrite.symm.trans herr
  · rcases memWrite16_cases s va v with ⟨halign, hok⟩ | ⟨_, herr⟩
    · have ht := Except.ok.inj (hwrite.symm.trans hok)
      have hfull : v.toNat % 256 ^ 16 = v.toNat := Nat.mod_eq_of_lt v.isLt
      rw [memRead16_of_aligned t va halign, valueOfBytes_stored s t va 16 v (by decide) ht, hfull,
        BitVec.ofNat_toNat, BitVec.setWidth_eq]
    · cases hwrite.symm.trans herr

end Sys2Proof.Machine

/-! The arithmetic of the ALU unit (40_alu_unit.md R144-R147). The exact sum splits into the result and the carry; read
at the top bits, that makes the carry the majority of the two operands and the complement of the result (R144), and the
overflow a fact about three signs. A subtraction is the addition of the complement, whose exact sum is `2^n` more than
the difference (R147), so everything about it follows from the addition. -/

namespace Sys2Proof.Machine

/-- `begin` loads the accumulator (R143). -/
@[simp] theorem Alu.begin_acc {n : Nat} (value : BitVec n) : (Alu.begin value).acc = value := rfl

/-- The signed range of a positive width, in the unit `2^n` of the unsigned one. -/
theorem fitsSigned_iff_two_mul {n : Nat} (hn : 0 < n) (v : Int) :
    fitsSigned n v ↔ -((2 ^ n : Nat) : Int) ≤ 2 * v ∧ 2 * v < (2 ^ n : Nat) := by
  obtain ⟨m, rfl⟩ := Nat.exists_add_one_eq.mpr hn
  simp only [fitsSigned, Nat.add_sub_cancel, Nat.pow_succ, Nat.cast_mul, Nat.cast_pow, Nat.cast_ofNat]
  omega

/-! ### The addition (R144) -/

section Addition

variable {n : Nat} (u : Alu n) (value : BitVec n)

/-- The accumulator after an addition holds the exact sum modulo `2^n`. -/
theorem Alu.addWithCarryIn_acc_toNat (ci : Bool) :
    (u.addWithCarryIn value ci).acc.toNat = (u.acc.toNat + value.toNat + ci.toNat) % 2 ^ n :=
  BitVec.toNat_ofNat ..

/-- The carry of an addition is set when the exact sum has an `n`-th bit. -/
theorem Alu.addWithCarryIn_c_iff (ci : Bool) :
    (u.addWithCarryIn value ci).c = true ↔ 2 ^ n ≤ u.acc.toNat + value.toNat + ci.toNat :=
  decide_eq_true_iff

/-- The exact sum is the result, with the carry above it. -/
theorem Alu.addWithCarryIn_cases (ci : Bool) :
    ((u.addWithCarryIn value ci).c = false ∧
      (u.addWithCarryIn value ci).acc.toNat = u.acc.toNat + value.toNat + ci.toNat) ∨
    ((u.addWithCarryIn value ci).c = true ∧
      (u.addWithCarryIn value ci).acc.toNat + 2 ^ n = u.acc.toNat + value.toNat + ci.toNat) := by
  have hlt : u.acc.toNat + value.toNat + ci.toNat < 2 * 2 ^ n := by
    have := u.acc.isLt
    have := value.isLt
    have := ci.toNat_le
    omega
  have hc := u.addWithCarryIn_c_iff value ci
  rw [Alu.addWithCarryIn_acc_toNat]
  by_cases hge : 2 ^ n ≤ u.acc.toNat + value.toNat + ci.toNat
  · refine .inr ⟨hc.mpr hge, ?_⟩
    rw [Nat.mod_eq_sub_mod hge, Nat.mod_eq_of_lt (by omega), Nat.sub_add_cancel hge]
  · exact .inl ⟨Bool.eq_false_iff.mpr (mt hc.mp hge), Nat.mod_eq_of_lt (Nat.not_le.mp hge)⟩

/-- The carry of an addition is the majority of the operands' top bits and the complement of the result's. -/
theorem Alu.addWithCarryIn_c_eq_msb (hn : 0 < n) (ci : Bool) :
    (u.addWithCarryIn value ci).c =
      (u.acc.msb && value.msb || (u.acc.msb || value.msb) && !(u.addWithCarryIn value ci).acc.msb) := by
  have hci := ci.toNat_le
  have heven : 2 ∣ 2 ^ n := dvd_pow_self 2 hn.ne'
  have hr := (u.addWithCarryIn value ci).acc.isLt
  rw [Bool.eq_iff_iff]
  simp only [Bool.or_eq_true, Bool.and_eq_true, Bool.not_eq_true', BitVec.msb_eq_true_iff_two_mul_ge,
    BitVec.msb_eq_false_iff_two_mul_lt]
  rcases u.addWithCarryIn_cases value ci with ⟨hc, hsum⟩ | ⟨hc, hsum⟩
  · simp only [hc, Bool.false_eq_true, false_iff]
    omega
  · simp only [hc, true_iff]
    omega

/-- The overflow of an addition, as R144 defines it. -/
theorem Alu.addWithCarryIn_v (ci : Bool) :
    (u.addWithCarryIn value ci).v =
      ((u.acc ^^^ value ^^^ (u.addWithCarryIn value ci).acc).msb ^^ (u.addWithCarryIn value ci).c) := rfl

/-- An addition overflows when the operands share a sign that is not the result's. -/
theorem Alu.addWithCarryIn_v_iff_msb (hn : 0 < n) (ci : Bool) :
    (u.addWithCarryIn value ci).v = true ↔
      u.acc.msb = value.msb ∧ (u.addWithCarryIn value ci).acc.msb ≠ u.acc.msb := by
  rw [Alu.addWithCarryIn_v, Alu.addWithCarryIn_c_eq_msb u value hn, BitVec.msb_xor, BitVec.msb_xor]
  cases u.acc.msb <;> cases value.msb <;> cases (u.addWithCarryIn value ci).acc.msb <;> decide

/-- The signed result of an addition is the exact signed sum, or `2^n` off it on either side. -/
theorem Alu.addWithCarryIn_toInt_cases (ci : Bool) :
    let exact : Int := u.acc.toInt + value.toInt + ci.toNat
    let result := (u.addWithCarryIn value ci).acc.toInt
    result = exact ∨ result + (2 ^ n : Nat) = exact ∨ result - (2 ^ n : Nat) = exact := by
  have hsum := u.addWithCarryIn_cases value ci
  have hci := ci.toNat_le
  simp only [BitVec.toInt_eq_toNat_cond]
  split <;> split <;> split <;> omega

/-- An addition overflows when the exact signed sum is outside the signed range: two operands of one sign are off by
`2^n` exactly when the result has the other sign. -/
theorem Alu.addWithCarryIn_v_iff_not_fitsSigned (hn : 0 < n) (ci : Bool) :
    (u.addWithCarryIn value ci).v = true ↔ ¬ fitsSigned n (u.acc.toInt + value.toInt + ci.toNat) := by
  have hresult := u.addWithCarryIn_toInt_cases value ci
  have hci := ci.toNat_le
  have heven : 2 ∣ 2 ^ n := dvd_pow_self 2 hn.ne'
  have hbounds (x : BitVec n) := (fitsSigned_iff_two_mul hn x.toInt).mp ⟨x.le_toInt, x.toInt_lt⟩
  have hu := hbounds u.acc
  have hv := hbounds value
  have hr := hbounds (u.addWithCarryIn value ci).acc
  rw [Alu.addWithCarryIn_v_iff_msb u value hn, fitsSigned_iff_two_mul hn, ne_eq]
  simp only [BitVec.msb_eq_toInt, decide_eq_decide]
  omega

end Addition

/-- Settles O22: the forms of the definition, and the two the exact sum gives. -/
theorem aluAdd : Obligations.AluAdd := by
  intro n a b ci hn
  refine ⟨(Alu.begin a).addWithCarryIn_acc_toNat b ci, (Alu.begin a).addWithCarryIn_c_iff b ci,
    (Alu.begin a).addWithCarryIn_v b ci, (Alu.begin a).addWithCarryIn_v_iff_not_fitsSigned b hn ci,
    (Alu.begin a).addWithCarryIn_v_iff_msb b hn ci, ?_⟩
  simpa only [BitVec.msb_or, BitVec.msb_and, BitVec.msb_not, hn, decide_true, Alu.begin_acc, Bool.true_and] using
    (Alu.begin a).addWithCarryIn_c_eq_msb b hn ci

/-! ### The subtractions (R145-R147) -/

section Subtraction

variable {n : Nat} (u : Alu n) (value : BitVec n)

/-- A carry in of the complement of a borrow: together they are 1. -/
theorem toNat_not_add_toNat (borrowIn : Bool) : (!borrowIn).toNat + borrowIn.toNat = 1 := by
  cases borrowIn <;> rfl

/-- The complement reads, signed, as the negation less 1. -/
theorem toInt_not_eq_neg_sub_one (hn : 0 < n) : (~~~value).toInt = -value.toInt - 1 := by
  have heven : 2 ∣ 2 ^ n := dvd_pow_self 2 hn.ne'
  have hv := value.isLt
  rw [BitVec.toInt_eq_toNat_cond, BitVec.toInt_eq_toNat_cond, BitVec.toNat_not]
  split <;> split <;> omega

/-- The exact sum of the negated add is `2^n` more than the exact difference (R147). -/
theorem Alu.negatedAdd_sum (borrowIn : Bool) :
    ((u.acc.toNat + (~~~value).toNat + (!borrowIn).toNat : Nat) : Int) =
      ((u.acc.toNat : Int) - value.toNat - borrowIn.toNat) + (2 ^ n : Nat) := by
  have hv := value.isLt
  have hnot := toNat_not_add_toNat borrowIn
  rw [BitVec.toNat_not]
  omega

/-- The direct subtraction leaves the difference modulo `2^n` in the accumulator. -/
theorem Alu.subtractDirect_acc (borrowIn : Bool) :
    (u.subtractDirect value borrowIn).acc =
      BitVec.ofInt n ((u.acc.toNat : Int) - value.toNat - borrowIn.toNat) := rfl

/-- The direct subtraction sets its carry when it borrows. -/
theorem Alu.subtractDirect_c_iff (borrowIn : Bool) :
    (u.subtractDirect value borrowIn).c = true ↔ (u.acc.toNat : Int) - value.toNat - borrowIn.toNat < 0 :=
  decide_eq_true_iff

/-- The overflow of the direct subtraction, as R146 gives it bitwise. -/
theorem Alu.subtractDirect_v (borrowIn : Bool) :
    (u.subtractDirect value borrowIn).v =
      ((u.acc ^^^ value) &&& (u.acc ^^^ (u.subtractDirect value borrowIn).acc)).msb := rfl

/-- The negated add leaves the same difference in the accumulator: `2^n` does not change a residue. -/
theorem Alu.subtractViaNegatedAdd_acc (borrowIn : Bool) :
    (u.subtractViaNegatedAdd value borrowIn).acc =
      BitVec.ofInt n ((u.acc.toNat : Int) - value.toNat - borrowIn.toNat) := by
  have hres : BitVec.ofInt n ((u.acc.toNat : Int) - value.toNat - borrowIn.toNat + (2 ^ n : Nat)) =
      BitVec.ofInt n ((u.acc.toNat : Int) - value.toNat - borrowIn.toNat) :=
    BitVec.eq_of_toNat_eq (by simp only [BitVec.toNat_ofInt, Int.add_emod_right])
  rw [← hres, ← Alu.negatedAdd_sum]
  rfl

/-- The negated add sets its carry when it does not borrow. -/
theorem Alu.subtractViaNegatedAdd_c_iff (borrowIn : Bool) :
    (u.subtractViaNegatedAdd value borrowIn).c = true ↔ value.toNat + borrowIn.toNat ≤ u.acc.toNat := by
  have hsum := u.negatedAdd_sum value borrowIn
  rw [Alu.subtractViaNegatedAdd, Alu.addWithCarryIn_c_iff]
  omega

/-- The carry of the negated add in terms of the top bits: the addition's majority with `value` complemented. -/
theorem Alu.subtractViaNegatedAdd_c_eq_msb (hn : 0 < n) (borrowIn : Bool) :
    (u.subtractViaNegatedAdd value borrowIn).c =
      (u.acc.msb && !value.msb || (u.acc.msb || !value.msb) && !(u.subtractViaNegatedAdd value borrowIn).acc.msb) := by
  have hc := u.addWithCarryIn_c_eq_msb (~~~value) hn (!borrowIn)
  rwa [BitVec.msb_not, decide_eq_true hn, Bool.true_and] at hc

/-- The negated add overflows when the operands' signs differ and the result's is not the accumulator's. -/
theorem Alu.subtractViaNegatedAdd_v_iff_msb (hn : 0 < n) (borrowIn : Bool) :
    (u.subtractViaNegatedAdd value borrowIn).v = true ↔
      u.acc.msb = !value.msb ∧ (u.subtractViaNegatedAdd value borrowIn).acc.msb ≠ u.acc.msb := by
  have hv := u.addWithCarryIn_v_iff_msb (~~~value) hn (!borrowIn)
  rwa [BitVec.msb_not, decide_eq_true hn, Bool.true_and] at hv

/-- The negated add overflows when the exact signed difference is outside the signed range. -/
theorem Alu.subtractViaNegatedAdd_v_iff_not_fitsSigned (hn : 0 < n) (borrowIn : Bool) :
    (u.subtractViaNegatedAdd value borrowIn).v = true ↔
      ¬ fitsSigned n (u.acc.toInt - value.toInt - borrowIn.toNat) := by
  have hexact : u.acc.toInt + (~~~value).toInt + (!borrowIn).toNat = u.acc.toInt - value.toInt - borrowIn.toNat := by
    have hnot := toNat_not_add_toNat borrowIn
    rw [toInt_not_eq_neg_sub_one value hn]
    omega
  rw [← hexact]
  exact u.addWithCarryIn_v_iff_not_fitsSigned (~~~value) hn (!borrowIn)

/-- The two subtractions leave the same result. -/
theorem Alu.subtractDirect_acc_eq (borrowIn : Bool) :
    (u.subtractDirect value borrowIn).acc = (u.subtractViaNegatedAdd value borrowIn).acc :=
  (u.subtractViaNegatedAdd_acc value borrowIn).symm

/-- The two subtractions have complementary carries (R147). -/
theorem Alu.subtractDirect_c_eq_not (borrowIn : Bool) :
    (u.subtractDirect value borrowIn).c = !(u.subtractViaNegatedAdd value borrowIn).c := by
  rw [Bool.eq_iff_iff, Bool.not_eq_true', ← Bool.not_eq_true, Alu.subtractDirect_c_iff,
    Alu.subtractViaNegatedAdd_c_iff]
  omega

/-- The two subtractions have the same overflow (R147). -/
theorem Alu.subtractDirect_v_eq (hn : 0 < n) (borrowIn : Bool) :
    (u.subtractDirect value borrowIn).v = (u.subtractViaNegatedAdd value borrowIn).v := by
  rw [Bool.eq_iff_iff, Alu.subtractViaNegatedAdd_v_iff_msb u value hn, Alu.subtractDirect_v,
    Alu.subtractDirect_acc_eq, BitVec.msb_and, BitVec.msb_xor, BitVec.msb_xor]
  cases u.acc.msb <;> cases value.msb <;> cases (u.subtractViaNegatedAdd value borrowIn).acc.msb <;> decide

/-- The carry of the direct subtraction as R146 gives it bitwise: the complement of the negated add's majority. -/
theorem Alu.subtractDirect_c_eq_msb (hn : 0 < n) (borrowIn : Bool) :
    (u.subtractDirect value borrowIn).c =
      ((~~~u.acc &&& value) ||| ((~~~u.acc ||| value) &&& (u.subtractDirect value borrowIn).acc)).msb := by
  rw [Alu.subtractDirect_c_eq_not, Alu.subtractViaNegatedAdd_c_eq_msb u value hn, Alu.subtractDirect_acc_eq]
  simp only [BitVec.msb_or, BitVec.msb_and, BitVec.msb_not, hn, decide_true, Bool.true_and]
  cases u.acc.msb <;> cases value.msb <;> cases (u.subtractViaNegatedAdd value borrowIn).acc.msb <;> rfl

end Subtraction

/-- Settles O23: the negated add through the addition, the direct form through the negated add. -/
theorem aluSubtract : Obligations.AluSubtract := by
  intro n a b bin hn
  exact ⟨(Alu.begin a).subtractViaNegatedAdd_acc b bin, (Alu.begin a).subtractDirect_acc_eq b bin,
    (Alu.begin a).subtractDirect_v_eq b hn bin, (Alu.begin a).subtractDirect_c_eq_not b bin,
    (Alu.begin a).subtractViaNegatedAdd_c_iff b bin, (Alu.begin a).subtractDirect_c_iff b bin,
    (Alu.begin a).subtractViaNegatedAdd_v_iff_not_fitsSigned b hn bin,
    (Alu.begin a).subtractDirect_c_eq_msb b hn bin, (Alu.begin a).subtractDirect_v b bin⟩

end Sys2Proof.Machine

/-! What one instruction leaves as it is (10_state.md sections 1, 4 to 10, 20_memory.md sections 4 and 7, 60_exceptions.md
sections 2 and 4). Each frame is a case split over the ways an instruction can end (`Ends`), not over the instructions;
the cases that touch memory, tags or vectors go through one lemma for each kind of write. -/

namespace Sys2Proof.Machine

variable {i : Instr} {s t u : State}

/-! ### The state behind a store or a formatted read -/

/-- A store is a new memory image and, where it may alias, a cleared `LLbit` (R85). -/
theorem memWrite_ok_eq {va v : Word} {n : Nat} (h : memWrite s va n v = .ok t) :
    ∃ m, t = { s with mem := m, llBit := s.llBit && !mayAlias s.cfg s.llAddr va n } :=
  ⟨t.mem, memWrite_frame s t va n v h⟩

/-- The operands' reads leave everything but tags (R33). -/
theorem Retagged.eq_tag (h : Retagged i s u) : ∃ g, u = { s with tag := g } := ⟨u.tag, h.rest⟩

/-- Which registers an operand takes depends on Status alone. -/
theorem operandRegs_congr (h : t.status = s.status) (r : FprNo) (fmt : Fmt) :
    t.operandRegs r fmt = s.operandRegs r fmt := by
  simp only [State.operandRegs, State.fr_eq_of_status s t h]

/-- A read of an FGR sees only the file. -/
theorem fgrAt_congr (h : t.fgr = s.fgr) (r : FprNo) : t.fgrAt r = s.fgrAt r := by simp only [State.fgrAt, h]

/-- A read of a tag sees only the tags. -/
theorem tagAt_congr (h : t.tag = s.tag) (r : FprNo) : t.tagAt r = s.tagAt r := by simp only [State.tagAt, h]

/-! ### Every instruction has a next state -/

/-- Every instruction gives a next state. -/
theorem exec_next (i : Instr) (s : State) : ∃ t, exec i s = .next t := by
  obtain ⟨x, hx⟩ := exec_commit i s
  rw [hx]
  exact x.commit_next s

/-- Fetching and executing gives a next state. -/
theorem fetchExecute_next (s : State) : ∃ t, fetchExecute s = .next t := by
  unfold fetchExecute
  cases fetchDecode s with
  | ok i => exact exec_next i s
  | error e => exact ⟨_, rfl⟩

/-- Settles O7: each branch of a step answers a next state but the refusal of `ISAMODE` = 1. -/
theorem stepAlwaysNext : Obligations.StepAlwaysNext := by
  refine ⟨exec_next, fun s hs => ?_⟩
  obtain ⟨t, ht⟩ := fetchExecute_next (samplePins s)
  have hmode : (samplePins s).isaMode = false := by rw [samplePins_isaMode, hs]
  unfold step stepNow
  rw [ht, hmode]
  split
  · exact ⟨_, rfl⟩
  · split
    · exact ⟨_, rfl⟩
    · split
      · exact ⟨_, rfl⟩
      · exact ⟨_, rfl⟩

/-! ### Memory -/

/-- Memory after an instruction: as before, or what the one store of its range made of it. -/
theorem Ends.mem_cases (h : Ends i s t) :
    t.mem = s.mem ∨ ∃ a n v u, storeRange i s = some (a, n) ∧ memWrite s a n v = .ok u ∧ t.mem = u.mem ∧
      (t.llBit = true → u.llBit = true) := by
  cases h with
  | stores u a n v ha hu => exact .inr ⟨a, n, v, u, ha, hu, rfl, id⟩
  | storesLinked u rt a n v hd ha hu => exact .inr ⟨a, n, v, u, ha, hu, by simp, by simp⟩
  | trapsFp u flags hu hb => obtain ⟨g, rfl⟩ := hu.eq_tag; exact .inl rfl
  | writesFpr u flags fd fmt v hu hb hd h31 => obtain ⟨g, rfl⟩ := hu.eq_tag; exact .inl (by simp)
  | movesFpr u fd fmt v hu hd h31 => obtain ⟨g, rfl⟩ := hu.eq_tag; exact .inl (by simp)
  | schedules u flags es hu hb hq hr => obtain ⟨g, rfl⟩ := hu.eq_tag; exact .inl rfl
  | _ => exact .inl (by simp)

/-- Settles O16: only the bytes of the store range are written. -/
theorem frameMemory : Obligations.FrameMemory := by
  intro i s t a h hout
  rcases (exec_ends i h).mem_cases with hm | ⟨b, n, v, u, hr, hw, hm, -⟩
  · exact State.byteAt_eq_of_mem s t a hm
  · have hfar : ¬ (a - b).toNat < n := by simpa [hr, inRange] using hout
    rw [State.byteAt_eq_of_mem u t a hm, memWrite_byteAt s u b n v hw, if_neg hfar]

/-- The aligned doubleword that holds an address begins at the multiple of 8 below it. -/
theorem toNat_and_not_seven (a : Word) : (a &&& ~~~7#64).toNat = a.toNat / 8 * 8 := by
  have hshift : a &&& ~~~7#64 = (a >>> 3) <<< 3 := by
    ext k hk
    have hseven : (7#64).getLsbD k = decide (k < 3) := by
      rw [BitVec.getLsbD_ofNat, show 7 = 2 ^ 3 - 1 from rfl, Nat.testBit_two_pow_sub_one]
      simp [hk]
    rw [BitVec.getElem_and, BitVec.getElem_not, ← BitVec.getLsbD_eq_getElem (x := 7#64), hseven,
      BitVec.getElem_shiftLeft]
    by_cases h3 : k < 3
    · simp [h3]
    · simp [h3, BitVec.getElem_ushiftRight, show 3 + (k - 3) = k by omega, BitVec.getLsbD_eq_getElem hk]
  have hlt := a.isLt
  rw [hshift, BitVec.toNat_shiftLeft, BitVec.toNat_ushiftRight, Nat.shiftLeft_eq, Nat.shiftRight_eq_div_pow]
  omega

/-- A byte of a store that lies in the linked doubleword makes the two ranges overlap. -/
theorem overlaps_of_mem {a b l : Word} {n : Nat} (hn : n ≤ 8) (ha : (a - b).toNat < n) (hl : a >>> 3 = l >>> 3) :
    overlaps b n (l &&& ~~~7#64) 8 = true := by
  have hline : a.toNat / 8 = l.toNat / 8 := by
    simpa [Nat.shiftRight_eq_div_pow] using congrArg BitVec.toNat hl
  have hbase := toNat_and_not_seven l
  generalize l &&& ~~~7#64 = base at hbase ⊢
  unfold overlaps
  rw [Bool.or_eq_true, decide_eq_true_eq, decide_eq_true_eq]
  bv_omega

/-- A store into the linked doubleword leaves `LLbit` clear, whatever `MayAlias` is elsewhere (R98). -/
theorem memWrite_llBit_of_linked {a va v : Word} {n : Nat} (h : memWrite s va n v = .ok u)
    (ha : (a - va).toNat < n) (hl : a >>> 3 = s.llAddr >>> 3) : u.llBit = false := by
  have hn : n ≤ 8 := by
    rcases memWrite_cases s va n v with ⟨hin, -⟩ | ⟨-, herr⟩
    · have := of_decide_eq_true hin
      omega
    · cases h.symm.trans herr
  obtain ⟨m, rfl⟩ := memWrite_ok_eq h
  simp only [mayAlias, overlaps_of_mem hn ha hl, Bool.or_true, Bool.true_or, Bool.not_true, Bool.and_false]

/-- `LLbit` is set by the linked loads alone (R96). -/
theorem Ends.llBit_set (h : Ends i s t) (ht : t.llBit = true) (hs : s.llBit = false) :
    ∃ rt base imm, i = .ll rt base imm ∨ i = .lld rt base imm := by
  cases h with
  | links rt v va hi hq hr => exact hi
  | stores u a n v ha hu => obtain ⟨m, rfl⟩ := memWrite_ok_eq hu; simp [hs] at ht
  | trapsFp u flags hu hb => obtain ⟨g, rfl⟩ := hu.eq_tag; simp [hs] at ht
  | writesFpr u flags fd fmt v hu hb hd h31 => obtain ⟨g, rfl⟩ := hu.eq_tag; simp [hs] at ht
  | movesFpr u fd fmt v hu hd h31 => obtain ⟨g, rfl⟩ := hu.eq_tag; simp [hs] at ht
  | schedules u flags es hu hb hq hr => obtain ⟨g, rfl⟩ := hu.eq_tag; simp [hs] at ht
  | _ => simp [hs] at ht

/-- Settles O21: a changed byte is one of a store's range, and that store overlaps the linked doubleword. -/
theorem linkCleared : Obligations.LinkCleared := by
  intro i s t h
  refine ⟨fun a hchange hline => ?_, (exec_ends i h).llBit_set⟩
  rcases (exec_ends i h).mem_cases with hm | ⟨b, n, v, u, -, hw, hm, hlink⟩
  · exact absurd (State.byteAt_eq_of_mem s t a hm) hchange
  · have hin : (a - b).toNat < n := by
      by_contra hfar
      rw [State.byteAt_eq_of_mem u t a hm, memWrite_byteAt s u b n v hw, if_neg hfar] at hchange
      exact hchange rfl
    rw [Bool.eq_false_iff]
    exact fun ht => Bool.false_ne_true ((memWrite_llBit_of_linked hw hin hline).symm.trans (hlink ht))

/-! ### General registers -/

/-- The general registers after an instruction: as before, or with the destination written. -/
theorem Ends.gpr_cases (h : Ends i s t) :
    t.gpr = s.gpr ∨ ∃ d v, gprDest i = some d ∧ t.gpr = (s.writeGpr d v).gpr := by
  cases h with
  | writesGpr d v target hd => exact .inr ⟨d, v, hd, rfl⟩
  | storesLinked u rt a n v hd ha hu =>
    obtain ⟨m, rfl⟩ := memWrite_ok_eq hu
    refine .inr ⟨rt, 1#64, hd, ?_⟩
    unfold State.writeGpr
    split <;> rfl
  | stores u a n v ha hu => obtain ⟨m, rfl⟩ := memWrite_ok_eq hu; exact .inl rfl
  | trapsFp u flags hu hb => obtain ⟨g, rfl⟩ := hu.eq_tag; exact .inl rfl
  | writesFpr u flags fd fmt v hu hb hd h31 => obtain ⟨g, rfl⟩ := hu.eq_tag; exact .inl (by simp)
  | movesFpr u fd fmt v hu hd h31 => obtain ⟨g, rfl⟩ := hu.eq_tag; exact .inl (by simp)
  | schedules u flags es hu hb hq hr => obtain ⟨g, rfl⟩ := hu.eq_tag; exact .inl rfl
  | _ => exact .inl (by simp)

/-- Settles O17: the one register written is the destination. -/
theorem frameGeneralRegisters : Obligations.FrameGeneralRegisters := by
  intro i s t r h hr
  rcases (exec_ends i h).gpr_cases with hg | ⟨d, v, hd, hg⟩
  · exact State.readGpr_eq_of_gpr s t r hg
  · have hne : r ≠ d := fun e => hr (by rw [hd, e])
    rw [State.readGpr_eq_of_gpr (s.writeGpr d v) t r hg, State.readGpr_writeGpr, if_neg (fun hc => hne hc.1)]

/-! ### Floating-point registers, tags and the FCSR -/

/-- A raw 64-bit write leaves the registers and tags outside its one or two registers (R32). -/
theorem rawWrite64_frame (s : State) (d : FprNo) (v : Word) (r : FprNo) (h31 : s.fr = false → d ≠ 31#5)
    (hr : r ∉ s.operandRegs d .d) : (s.rawWrite64 d v).fgrAt r = s.fgrAt r ∧ (s.rawWrite64 d v).tagAt r = s.tagAt r := by
  unfold State.rawWrite64
  rcases s.put64_cases d v .uninterpreted with ⟨hf, e⟩ | ⟨hf, j, hj, e⟩ | ⟨hf, hj, -⟩
  · have hne : r ≠ d := by simpa [State.operandRegs, hf] using hr
    rw [e]
    exact ⟨(State.fgrAt_setFgr s d r v).trans (if_neg hne), (State.tagAt_setTag (s.setFgr d v) d r _).trans (if_neg hne)⟩
  · obtain ⟨hne, hpair⟩ : r ≠ d ∧ r ≠ pairOf d := by simpa [State.operandRegs, hf, Fmt.wide] using hr
    have hjd : j = pairOf d := by simpa [pairForWrite, h31 hf, pairOf] using hj.symm
    rw [e, hjd]
    simp only [State.fgrAt_put32, State.tagAt_put32, if_neg hne, if_neg hpair, and_self]
  · simp [pairForWrite, h31 hf] at hj

/-- The FGRs outside the destination. -/
theorem Ends.fgrAt (h : Ends i s t) (r : FprNo) (hr : r ∉ fprDests i s) : t.fgrAt r = s.fgrAt r := by
  cases h with
  | writesFpr u flags fd fmt v hu hb hd h31 =>
    obtain ⟨g, rfl⟩ := hu.eq_tag
    rw [hd] at hr
    exact (fgrAt_writeFpr (State.recordFlags { s with tag := g } flags) fd fmt v r h31 hr).1
  | movesFpr u fd fmt v hu hd h31 =>
    obtain ⟨g, rfl⟩ := hu.eq_tag
    rw [hd] at hr
    exact (fgrAt_writeFpr { s with tag := g } fd fmt v r h31 hr).1
  | writesRaw32 d v hd =>
    rw [hd, List.mem_singleton] at hr
    exact (State.fgrAt_put32 s d r v .uninterpreted).trans (if_neg hr)
  | writesRaw64 d v hd h31 =>
    rw [hd] at hr
    exact (rawWrite64_frame s d v r h31 hr).1
  | writesVector vd v hd hf =>
    rw [hd, List.mem_singleton] at hr
    exact (State.fgrAt_setFgr s vd r v).trans (if_neg hr)
  | stores u a n v ha hu => obtain ⟨m, rfl⟩ := memWrite_ok_eq hu; rfl
  | storesLinked u rt a n v hd ha hu => obtain ⟨m, rfl⟩ := memWrite_ok_eq hu; exact fgrAt_congr (by simp) r
  | trapsFp u flags hu hb => obtain ⟨g, rfl⟩ := hu.eq_tag; rfl
  | schedules u flags es hu hb hq hr => obtain ⟨g, rfl⟩ := hu.eq_tag; rfl
  | _ => exact fgrAt_congr (by simp) r

/-- The tags outside the destination and the sources. -/
theorem Ends.tagAt (h : Ends i s t) (r : FprNo) (hr : r ∉ fprDests i s) (hs : r ∉ fprSources i s) :
    t.tagAt r = s.tagAt r := by
  cases h with
  | trapsFp u flags hu hb => exact hu.tags r hs
  | writesFpr u flags fd fmt v hu hb hd h31 =>
    have htag := hu.tags r hs
    obtain ⟨g, rfl⟩ := hu.eq_tag
    rw [hd] at hr
    exact (fgrAt_writeFpr (State.recordFlags { s with tag := g } flags) fd fmt v r h31 hr).2.trans htag
  | movesFpr u fd fmt v hu hd h31 =>
    have htag := hu.tags r hs
    obtain ⟨g, rfl⟩ := hu.eq_tag
    rw [hd] at hr
    exact (fgrAt_writeFpr { s with tag := g } fd fmt v r h31 hr).2.trans htag
  | writesRaw32 d v hd =>
    rw [hd, List.mem_singleton] at hr
    exact (State.tagAt_put32 s d r v .uninterpreted).trans (if_neg hr)
  | writesRaw64 d v hd h31 =>
    rw [hd] at hr
    exact (rawWrite64_frame s d v r h31 hr).2
  | writesVector vd v hd hf =>
    rw [hd, List.mem_singleton] at hr
    exact (State.tagAt_setTag (s.setFgr vd v) vd r _).trans (if_neg hr)
  | schedules u flags es hu hb hq hr => exact hu.tags r hs
  | stores u a n v ha hu => obtain ⟨m, rfl⟩ := memWrite_ok_eq hu; rfl
  | storesLinked u rt a n v hd ha hu => obtain ⟨m, rfl⟩ := memWrite_ok_eq hu; exact tagAt_congr (by simp) r
  | _ => exact tagAt_congr (by simp) r

/-- A bit inside a mask may be written without changing what lies outside the mask. -/
theorem putBit_frame {n : Nat} (w mask : BitVec n) (k : Nat) (b : Bool) (hk : mask.getLsbD k = true) :
    putBit w k b &&& ~~~mask = w &&& ~~~mask := by
  ext j hj
  have hbit : j = k → mask[j] = true := by rintro rfl; rwa [← BitVec.getLsbD_eq_getElem hj]
  unfold putBit
  by_cases hjk : j = k
  · simp [hbit hjk]
  · have hone : (1#n <<< k).getLsbD j = false := by
      simp [BitVec.getLsbD_shiftLeft]; omega
    cases b <;> simp [← BitVec.getLsbD_eq_getElem, hone, hj]

/-- A condition code of an MDMX compare lies in the bits that compare may write (R47, R430). -/
theorem setFccs_frame {n : Nat} (f : Fin n → Bool) (l : List (Fin n)) (mask : BitVec 32)
    (hmask : ∀ k ∈ l, mask.getLsbD (fccBit (BitVec.ofNat 3 k.val)).toNat = true) (s : State) :
    (s.setFccs f l).fcsr &&& ~~~mask = s.fcsr &&& ~~~mask := by
  induction l generalizing s with
  | nil => rfl
  | cons k l ih =>
    rw [State.setFccs, ih (fun j hj => hmask j (List.mem_cons_of_mem k hj)), setFcsrBit_fcsr]
    exact putBit_frame s.fcsr mask _ _ (hmask k List.mem_cons_self)

/-- The FCSR bits an instruction may not change. -/
theorem Ends.fcsr_frame (h : Ends i s t) : t.fcsr &&& ~~~fcsrBits i = s.fcsr &&& ~~~fcsrBits i := by
  cases h with
  | trapsFp u flags hu hb => obtain ⟨g, rfl⟩ := hu.eq_tag; rw [hb]; exact raisedFcsr_frame s.fcsr flags
  | writesFpr u flags fd fmt v hu hb hd h31 =>
    obtain ⟨g, rfl⟩ := hu.eq_tag
    simpa [hb] using raisedFcsr_frame s.fcsr flags
  | schedules u flags es hu hb hq hr => obtain ⟨g, rfl⟩ := hu.eq_tag; rw [hb]; exact raisedFcsr_frame s.fcsr flags
  | trapsCtc v hb => simp [hb]
  | writesFcsr v hb => simp [hb]
  | setsCodesOb f hb => rw [hb]; exact setFccs_frame f _ _ (by decide) s
  | setsCodesQh f hb => rw [hb]; exact setFccs_frame f _ _ (by decide) s
  | movesFpr u fd fmt v hu hd h31 => obtain ⟨g, rfl⟩ := hu.eq_tag; simp
  | stores u a n v ha hu => obtain ⟨m, rfl⟩ := memWrite_ok_eq hu; rfl
  | storesLinked u rt a n v hd ha hu => obtain ⟨m, rfl⟩ := memWrite_ok_eq hu; simp
  | _ => simp

/-- Settles O18: destination, sources and FCSR bits, each by its own frame. -/
theorem frameFloatingPoint : Obligations.FrameFloatingPoint := by
  intro i s t h
  have hends := exec_ends i h
  exact ⟨hends.fgrAt, hends.tagAt, hends.fcsr_frame⟩

/-! ### The control registers -/

/-- The five control registers are as they were. -/
structure SameControl (s t : State) : Prop where
  status : t.status = s.status
  epc : t.epc = s.epc
  excCode : t.excCode = s.excCode
  ce : t.ce = s.ce
  badVAddr : t.badVAddr = s.badVAddr

/-- Trap entry acts alike on two states with the same PC, parameters and control registers. -/
theorem takeException_control (e : Exc) (hc : SameControl s u) (hpc : u.pc = s.pc) (hcfg : u.cfg = s.cfg) :
    (takeException e u).pc = (takeException e s).pc ∧ (takeException e u).status = (takeException e s).status ∧
    (takeException e u).epc = (takeException e s).epc ∧ (takeException e u).excCode = (takeException e s).excCode ∧
    (takeException e u).ce = (takeException e s).ce ∧
    (takeException e u).badVAddr = (takeException e s).badVAddr := by
  simp [State.exl, hc.status, hc.epc, hc.ce, hc.badVAddr, hpc, hcfg]

/-- The control registers after an instruction: what trap entry makes of them, as they were, or as a CP0 instruction
that may run leaves them. -/
theorem Ends.control_cases (h : Ends i s t) :
    (∃ e u, t = takeException e u ∧ (∀ n, e = .cpU n → n ∈ [0#2, 1#2]) ∧ SameControl s u ∧ u.pc = s.pc ∧
      u.cfg = s.cfg) ∨
    SameControl s t ∨
    (usesCp0 i = true ∧ s.cp0Usable = true ∧ ((∃ rd v, t = (s.writeCp0 rd v).advance) ∨ t = returnFromException s)) := by
  cases h with
  | traps e hint hce => exact .inl ⟨e, s, rfl, hce, ⟨rfl, rfl, rfl, rfl, rfl⟩, rfl, rfl⟩
  | trapsFp u flags hu hb =>
    obtain ⟨g, rfl⟩ := hu.eq_tag
    exact .inl ⟨_, _, rfl, by simp, ⟨rfl, rfl, rfl, rfl, rfl⟩, rfl, rfl⟩
  | trapsCtc v hb => exact .inl ⟨_, _, rfl, by simp, ⟨rfl, rfl, rfl, rfl, rfl⟩, rfl, rfl⟩
  | writesCp0 rd v hi hu => exact .inr (.inr ⟨hi, hu, .inl ⟨rd, v, rfl⟩⟩)
  | returns hi hu => exact .inr (.inr ⟨by rw [hi]; exact beq_iff_eq.2 (rType_primary _ _ _ _ _ _), hu, .inr rfl⟩)
  | stores u a n v ha hu => obtain ⟨m, rfl⟩ := memWrite_ok_eq hu; exact .inr (.inl ⟨rfl, rfl, rfl, rfl, rfl⟩)
  | storesLinked u rt a n v hd ha hu =>
    obtain ⟨m, rfl⟩ := memWrite_ok_eq hu
    exact .inr (.inl ⟨by simp, by simp, by simp, by simp, by simp⟩)
  | writesFpr u flags fd fmt v hu hb hd h31 =>
    obtain ⟨g, rfl⟩ := hu.eq_tag
    exact .inr (.inl ⟨by simp, by simp, by simp, by simp, by simp⟩)
  | movesFpr u fd fmt v hu hd h31 =>
    obtain ⟨g, rfl⟩ := hu.eq_tag
    exact .inr (.inl ⟨by simp, by simp, by simp, by simp, by simp⟩)
  | schedules u flags es hu hb hq hr => obtain ⟨g, rfl⟩ := hu.eq_tag; exact .inr (.inl ⟨rfl, rfl, rfl, rfl, rfl⟩)
  | _ => exact .inr (.inl ⟨by simp, by simp, by simp, by simp, by simp⟩)

/-- Whether coprocessor 0 may be used, in the bits of Status (R44, R505). -/
theorem cp0Usable_eq (s : State) : s.cp0Usable = (!s.um || s.exl || s.cu0) := rfl

/-- Settles O19: in the third case of `Ends.control_cases` neither premise holds. -/
theorem frameControl : Obligations.FrameControl := by
  intro i s t h hpremise
  rcases (exec_ends i h).control_cases with ⟨e, u, rfl, -, hc, hpc, hcfg⟩ | hsame | ⟨hcp0, husable, -⟩
  · exact .inl ⟨e, takeException_control e hc hpc hcfg⟩
  · exact .inr ⟨hsame.status, hsame.epc, hsame.excCode, hsame.ce, hsame.badVAddr⟩
  · rcases hpremise with hno | ⟨hum, hexl, hcu0⟩
    · exact absurd (hcp0.symm.trans hno) (by decide)
    · rw [cp0Usable_eq, hum, hexl, hcu0] at husable
      exact absurd husable (by decide)

/-! ### Everything else -/

/-- The parameters, the strap, `ISAMODE` and the inputs are as they were. -/
structure SameFixed (s t : State) : Prop where
  cfg : t.cfg = s.cfg
  isaMode : t.isaMode = s.isaMode
  configBE : t.configBE = s.configBE
  pins : t.pins = s.pins
  pinQueue : t.pinQueue = s.pinQueue

/-- No instruction changes the parameters, the strap, `ISAMODE` or the inputs. -/
theorem Ends.sameFixed (h : Ends i s t) : SameFixed s t := by
  cases h with
  | stores u a n v ha hu => obtain ⟨m, rfl⟩ := memWrite_ok_eq hu; exact ⟨rfl, rfl, rfl, rfl, rfl⟩
  | storesLinked u rt a n v hd ha hu =>
    obtain ⟨m, rfl⟩ := memWrite_ok_eq hu
    exact ⟨by simp, by simp, by simp, by simp, by simp⟩
  | trapsFp u flags hu hb => obtain ⟨g, rfl⟩ := hu.eq_tag; exact ⟨rfl, rfl, rfl, rfl, rfl⟩
  | writesFpr u flags fd fmt v hu hb hd h31 =>
    obtain ⟨g, rfl⟩ := hu.eq_tag
    exact ⟨by simp, by simp, by simp, by simp, by simp⟩
  | movesFpr u fd fmt v hu hd h31 =>
    obtain ⟨g, rfl⟩ := hu.eq_tag
    exact ⟨by simp, by simp, by simp, by simp, by simp⟩
  | schedules u flags es hu hb hq hr => obtain ⟨g, rfl⟩ := hu.eq_tag; exact ⟨rfl, rfl, rfl, rfl, rfl⟩
  | _ => exact ⟨by simp, by simp, by simp, by simp, by simp⟩

/-- The accumulators after an instruction that writes neither, or one of them. -/
theorem Ends.acc_frame (h : Ends i s t) :
    (Machine.writesAccOb i = false → t.accOb = s.accOb) ∧ (Machine.writesAccQh i = false → t.accQh = s.accQh) := by
  cases h with
  | writesAccOb r hr => exact ⟨fun hi => absurd (hr.symm.trans hi) (by decide), fun _ => rfl⟩
  | writesAccQh r hr => exact ⟨fun _ => rfl, fun hi => absurd (hr.symm.trans hi) (by decide)⟩
  | stores u a n v ha hu => obtain ⟨m, rfl⟩ := memWrite_ok_eq hu; exact ⟨fun _ => rfl, fun _ => rfl⟩
  | storesLinked u rt a n v hd ha hu => obtain ⟨m, rfl⟩ := memWrite_ok_eq hu; exact ⟨by simp, by simp⟩
  | trapsFp u flags hu hb => obtain ⟨g, rfl⟩ := hu.eq_tag; exact ⟨fun _ => rfl, fun _ => rfl⟩
  | writesFpr u flags fd fmt v hu hb hd h31 => obtain ⟨g, rfl⟩ := hu.eq_tag; exact ⟨by simp, by simp⟩
  | movesFpr u fd fmt v hu hd h31 => obtain ⟨g, rfl⟩ := hu.eq_tag; exact ⟨by simp, by simp⟩
  | schedules u flags es hu hb hq hr => obtain ⟨g, rfl⟩ := hu.eq_tag; exact ⟨fun _ => rfl, fun _ => rfl⟩
  | _ => exact ⟨by simp, by simp⟩

/-- An instruction that stores is one of those that may change `LLbit` (R97). -/
theorem mayChangeLink_of_storeRange {r : Word × Nat} (h : storeRange i s = some r) : mayChangeLink i = true := by
  unfold storeRange at h
  split at h
  case h_13 => cases h
  all_goals rfl

/-- The link registers after an instruction. -/
theorem Ends.link_frame (h : Ends i s t) :
    (t.llAddr = s.llAddr ∨ ∃ rt base imm, i = .ll rt base imm ∨ i = .lld rt base imm) ∧
    (mayChangeLink i = false → t.llBit = s.llBit) := by
  cases h with
  | links rt v va hi hq hr =>
    refine ⟨.inr hi, fun hno => ?_⟩
    obtain ⟨rt, base, imm, rfl | rfl⟩ := hi <;> exact absurd (show true = false from hno) (by decide)
  | returns hi hu => subst hi; exact ⟨.inl rfl, fun hno => absurd (show true = false from hno) (by decide)⟩
  | stores u a n v ha hu =>
    obtain ⟨m, rfl⟩ := memWrite_ok_eq hu
    exact ⟨.inl rfl, fun hno => absurd ((mayChangeLink_of_storeRange ha).symm.trans hno) (by decide)⟩
  | storesLinked u rt a n v hd ha hu =>
    obtain ⟨m, rfl⟩ := memWrite_ok_eq hu
    exact ⟨.inl (by simp), fun hno => absurd ((mayChangeLink_of_storeRange ha).symm.trans hno) (by decide)⟩
  | trapsFp u flags hu hb => obtain ⟨g, rfl⟩ := hu.eq_tag; exact ⟨.inl rfl, fun _ => rfl⟩
  | writesFpr u flags fd fmt v hu hb hd h31 => obtain ⟨g, rfl⟩ := hu.eq_tag; exact ⟨.inl (by simp), by simp⟩
  | movesFpr u fd fmt v hu hd h31 => obtain ⟨g, rfl⟩ := hu.eq_tag; exact ⟨.inl (by simp), by simp⟩
  | schedules u flags es hu hb hq hr => obtain ⟨g, rfl⟩ := hu.eq_tag; exact ⟨.inl rfl, fun _ => rfl⟩
  | _ => exact ⟨.inl (by simp), by simp⟩

/-- The queue after an instruction: as it was, or with the entries of this instruction behind it, for whole registers
or for condition codes. -/
theorem Ends.pq_cases (h : Ends i s t) :
    t.pq = s.pq ∨ ∃ es, es.length = queueEntries i ∧ s.pq.length + es.length ≤ s.cfg.pendingCapacity ∧
      t.pq = s.pq ++ es ∧ ((∃ dest v, dest ≠ .fcsr ∧ es = [⟨dest, v, 1, none⟩]) ∨
        ∃ cs : List (BitVec 3 × Bool), es = cs.map fun c => codeEntry c.1 c.2) := by
  cases h with
  | loads dest v hd hq hr => exact .inr ⟨[⟨dest, v, 1, none⟩], hq.symm, hr, rfl, .inl ⟨dest, v, hd, rfl⟩⟩
  | links rt v va hi hq hr => exact .inr ⟨[⟨.gpr rt, v, 1, none⟩], hq.symm, hr, rfl, .inl ⟨.gpr rt, v, by simp, rfl⟩⟩
  | schedules u flags cs hu hb hq hr =>
    exact .inr ⟨cs.map fun c => codeEntry c.1 c.2, by simp [hq], by simpa using hr, rfl, .inr ⟨cs, rfl⟩⟩
  | stores u a n v ha hu => obtain ⟨m, rfl⟩ := memWrite_ok_eq hu; exact .inl rfl
  | storesLinked u rt a n v hd ha hu => obtain ⟨m, rfl⟩ := memWrite_ok_eq hu; exact .inl (by simp)
  | trapsFp u flags hu hb => obtain ⟨g, rfl⟩ := hu.eq_tag; exact .inl rfl
  | writesFpr u flags fd fmt v hu hb hd h31 => obtain ⟨g, rfl⟩ := hu.eq_tag; exact .inl (by simp)
  | movesFpr u fd fmt v hu hd h31 => obtain ⟨g, rfl⟩ := hu.eq_tag; exact .inl (by simp)
  | _ => exact .inl (by simp)

/-- The run state after an instruction: HALT halts, a queue without room check-stops, nothing else changes it. -/
theorem Ends.run_cases (h : Ends i s t) :
    t.run = s.run ∨ (i = .halt ∧ t.run = .halted) ∨
      (t.run = .checkStop ∧ s.cfg.pendingCapacity < s.pq.length + queueEntries i) := by
  cases h with
  | halts hi => exact .inr (.inl ⟨hi, rfl⟩)
  | stops hq => exact .inr (.inr ⟨rfl, hq⟩)
  | stores u a n v ha hu => obtain ⟨m, rfl⟩ := memWrite_ok_eq hu; exact .inl rfl
  | storesLinked u rt a n v hd ha hu => obtain ⟨m, rfl⟩ := memWrite_ok_eq hu; exact .inl (by simp)
  | trapsFp u flags hu hb => obtain ⟨g, rfl⟩ := hu.eq_tag; exact .inl rfl
  | writesFpr u flags fd fmt v hu hb hd h31 => obtain ⟨g, rfl⟩ := hu.eq_tag; exact .inl (by simp)
  | movesFpr u fd fmt v hu hd h31 => obtain ⟨g, rfl⟩ := hu.eq_tag; exact .inl (by simp)
  | schedules u flags es hu hb hq hr => obtain ⟨g, rfl⟩ := hu.eq_tag; exact .inl rfl
  | _ => exact .inl (by simp)

/-- The entries an instruction appends wait one tick (R564). -/
theorem Ends.pq_append (h : Ends i s t) :
    t.pq = s.pq ∨ ∃ es, es.length = queueEntries i ∧ (∀ e ∈ es, e.remaining = 1) ∧ t.pq = s.pq ++ es := by
  rcases h.pq_cases with hpq | ⟨es, hlen, -, hpq, ⟨dest, v, -, rfl⟩ | ⟨cs, rfl⟩⟩
  · exact .inl hpq
  · exact .inr ⟨_, hlen, by simp, hpq⟩
  · exact .inr ⟨_, hlen, List.forall_mem_map.mpr fun _ _ => rfl, hpq⟩

/-- Settles O20: each clause is the frame of its part of the state. -/
theorem frameOther : Obligations.FrameOther := by
  intro i s t h
  have hends := exec_ends i h
  have hfixed := hends.sameFixed
  exact ⟨hends.acc_frame.1, hends.acc_frame.2, hends.link_frame.1, hends.link_frame.2, hends.pq_append, hends.run_cases,
    hfixed.cfg, hfixed.isaMode, hfixed.configBE, hfixed.pins, hfixed.pinQueue⟩

end Sys2Proof.Machine

/-! The invariant of the machine (10_state.md sections 2, 5, 6 and 9, 60_exceptions.md section 6). An instruction keeps
each clause but the one on the queue, which gains the entries of that instruction; the tick then serves what was due and
makes those due. With room for four entries the two due and the two new ones always fit, so nothing check-stops. -/

namespace Sys2Proof.Machine

variable {i : Instr} {s t u : State}

/-! ### Status and Cause -/

/-- Trap entry sets a bit of Status that is listed (R39, R510). -/
theorem takeException_statusLegal (e : Exc) (h : s.StatusLegal) : (takeException e s).StatusLegal := by
  have hexl : (2#32 : BitVec 32) &&& ~~~statusMask = 0#32 := by decide
  rw [State.StatusLegal, takeException_status, BitVec.and_comm, BitVec.and_or_distrib_left, BitVec.and_comm, h,
    BitVec.and_comm, hexl, BitVec.or_zero]

/-- Trap entry leaves a code and a coprocessor of the spec in Cause (R500, R505). -/
theorem takeException_causeLegal (e : Exc) (hce : ∀ n, e = .cpU n → n ∈ [0#2, 1#2]) (h : s.ce ∈ [0#2, 1#2]) :
    (takeException e s).CauseLegal := by
  refine ⟨by cases e <;> simp [Exc.code], ?_⟩
  cases e with
  | cpU n => exact hce n rfl
  | _ => exact h

/-- A move to CP0 leaves the reserved bits of Status 0 (R486). -/
theorem writeCp0_statusLegal (rd : BitVec 5) (v : Word) (h : s.StatusLegal) : (s.writeCp0 rd v).StatusLegal := by
  unfold State.writeCp0
  split
  · show (v.setWidth 32 &&& statusMask) &&& ~~~statusMask = 0#32
    simp [BitVec.and_assoc]
  · exact h
  · exact h

/-- ERET leaves the reserved bits of Status 0 (R512). -/
theorem returnFromException_statusLegal (h : s.StatusLegal) : (returnFromException s).StatusLegal := by
  show (s.status &&& ~~~2#32) &&& ~~~statusMask = 0#32
  rw [BitVec.and_assoc, BitVec.and_comm (~~~2#32), ← BitVec.and_assoc, h, BitVec.zero_and]

/-- Every instruction keeps Status and Cause legal. -/
theorem Ends.control_legal (h : Ends i s t) (hs : s.StatusLegal) (hc : s.CauseLegal) :
    t.StatusLegal ∧ t.CauseLegal := by
  rcases h.control_cases with ⟨e, u, rfl, hce, hu, -, -⟩ | hsame | ⟨-, -, ⟨rd, v, rfl⟩ | rfl⟩
  · refine ⟨takeException_statusLegal e ?_, takeException_causeLegal e hce (hu.ce ▸ hc.2)⟩
    rw [State.StatusLegal, hu.status, hs]
  · refine ⟨?_, ?_⟩
    · rw [State.StatusLegal, hsame.status, hs]
    · rw [State.CauseLegal, hsame.excCode, hsame.ce]
      exact hc
  · exact ⟨writeCp0_statusLegal rd v hs, by simpa [State.CauseLegal] using hc⟩
  · exact ⟨returnFromException_statusLegal hs, hc⟩

/-! ### The FCSR -/

/-- A change outside bits 22:18 keeps the reserved bits of the FCSR 0 (R47). -/
theorem fcsrLegal_of_frame {f g mask : BitVec 32} (hmask : mask.extractLsb' 18 5 = 0#5)
    (hframe : f &&& ~~~mask = g &&& ~~~mask) (hg : g.extractLsb' 18 5 = 0#5) : f.extractLsb' 18 5 = 0#5 := by
  have hpart (x : BitVec 32) : x.extractLsb' 18 5 = (x &&& ~~~mask).extractLsb' 18 5 := by
    ext k hk
    have hbit : mask.getLsbD (18 + k) = false := by
      simpa [BitVec.getLsbD_extractLsb', hk] using congrArg (fun w => w.getLsbD k) hmask
    simp [hbit]
    omega
  rw [hpart, hframe, ← hpart, hg]

/-- Every instruction keeps the reserved bits of the FCSR 0. -/
theorem Ends.fcsrLegal (h : Ends i s t) (hs : s.FcsrLegal) : t.FcsrLegal := by
  cases h with
  | trapsFp u flags hu hb =>
    obtain ⟨g, rfl⟩ := hu.eq_tag
    exact fcsrLegal_of_frame (by decide) (raisedFcsr_frame s.fcsr flags) hs
  | writesFpr u flags fd fmt v hu hb hd h31 =>
    obtain ⟨g, rfl⟩ := hu.eq_tag
    have hraised := fcsrLegal_of_frame (by decide) (raisedFcsr_frame s.fcsr flags) hs
    simpa [State.FcsrLegal] using hraised
  | schedules u flags es hu hb hq hr =>
    obtain ⟨g, rfl⟩ := hu.eq_tag
    exact fcsrLegal_of_frame (by decide) (raisedFcsr_frame s.fcsr flags) hs
  | trapsCtc v hb => exact fcsrOf_legal v
  | writesFcsr v hb => exact fcsrOf_legal v
  | setsCodesOb f hb => exact fcsrLegal_of_frame (by decide) (setFccs_frame f _ 0xFE800000#32 (by decide) s) hs
  | setsCodesQh f hb => exact fcsrLegal_of_frame (by decide) (setFccs_frame f _ 0x0E800000#32 (by decide) s) hs
  | stores u a n v ha hu => obtain ⟨m, rfl⟩ := memWrite_ok_eq hu; exact hs
  | storesLinked u rt a n v hd ha hu => obtain ⟨m, rfl⟩ := memWrite_ok_eq hu; simpa [State.FcsrLegal] using hs
  | movesFpr u fd fmt v hu hd h31 => obtain ⟨g, rfl⟩ := hu.eq_tag; simpa [State.FcsrLegal] using hs
  | _ => simpa [State.FcsrLegal] using hs

/-! ### Memory and the queue -/

/-- Every instruction keeps memory canonical. -/
theorem Ends.memoryCanonical (h : Ends i s t) (hs : s.MemoryCanonical) : t.MemoryCanonical := by
  rcases h.mem_cases with hm | ⟨a, n, v, u, -, hw, hm, -⟩
  · rw [State.MemoryCanonical, hm, hs]
  · rw [State.MemoryCanonical, hm, memWrite_wf s u a n v hs hw]

/-- No instruction appends more than two entries. -/
theorem queueEntries_le_two (i : Instr) : queueEntries i ≤ 2 := by
  unfold queueEntries
  split <;> omega

/-- An entry as an instruction makes it: due after one tick, and then one of those the tick can apply. -/
def Pending.Fresh (e : Pending) : Prop := e.remaining = 1 ∧ e.age.legal = true

/-- Every condition code's bit is one a queue entry may name (R47). -/
theorem codeEntry_fresh (cc : BitVec 3) (v : Bool) : (codeEntry cc v).Fresh := by
  refine ⟨rfl, ?_⟩
  have hbit : ∀ cc : BitVec 3, (fccBit cc == 23#5 || decide (25#5 ≤ fccBit cc)) = true := by decide
  simpa [Pending.legal, Pending.age] using hbit cc

/-- A fresh entry for a whole register. -/
theorem wholeEntry_fresh {dest : PendDest} (v : Word) (hd : dest ≠ .fcsr) :
    (⟨dest, v, 1, none⟩ : Pending).Fresh := by
  cases dest with
  | fcsr => exact absurd rfl hd
  | _ => exact ⟨rfl, rfl⟩

/-- The queue after an instruction: what it held, and at most two fresh entries. -/
theorem Ends.pq_fresh (h : Ends i s t) : ∃ es, t.pq = s.pq ++ es ∧ es.length ≤ 2 ∧ ∀ e ∈ es, e.Fresh := by
  rcases h.pq_cases with hpq | ⟨es, hlen, -, hpq, hes⟩
  · exact ⟨[], by simp [hpq], by simp, by simp⟩
  · refine ⟨es, hpq, hlen ▸ queueEntries_le_two i, ?_⟩
    rcases hes with ⟨dest, v, hd, rfl⟩ | ⟨cs, rfl⟩
    · simpa using wholeEntry_fresh v hd
    · exact List.forall_mem_map.mpr fun c _ => codeEntry_fresh c.1 c.2

/-! ### Between the instruction and the tick -/

/-- The invariant as it stands after an instruction and before its tick: the queue may hold two fresh entries behind
the due ones. -/
structure MidInv (s : State) : Prop where
  config : s.cfg.Valid
  status : s.StatusLegal
  fcsr : s.FcsrLegal
  cause : s.CauseLegal
  memory : s.MemoryCanonical
  queue : ∃ q es, s.pq = q ++ es ∧ (∀ e ∈ q, e.legal = true) ∧ es.length ≤ 2 ∧ ∀ e ∈ es, e.Fresh
  isaMode : s.isaMode = false
  endian : s.configBE = s.cfg.bigEndian

/-- An instruction leads from the invariant to `MidInv`. -/
theorem Ends.midInv (h : Ends i s t) (hs : s.Inv) : MidInv t := by
  have hfixed := h.sameFixed
  have hcontrol := h.control_legal hs.status hs.cause
  obtain ⟨es, hpq, hlen, hes⟩ := h.pq_fresh
  exact {
    config := hfixed.cfg ▸ hs.config
    status := hcontrol.1
    fcsr := h.fcsrLegal hs.fcsr
    cause := hcontrol.2
    memory := h.memoryCanonical hs.memory
    queue := ⟨s.pq, es, hpq, hs.queue.2, hlen, hes⟩
    isaMode := hfixed.isaMode.trans hs.isaMode
    endian := by rw [hfixed.configBE, hfixed.cfg, hs.endian] }

/-- A trap in the fetch leads from the invariant to `MidInv`. -/
theorem takeException_midInv (e : Exc) (hce : ∀ n, e = .cpU n → n ∈ [0#2, 1#2]) (hs : s.Inv) :
    MidInv (takeException e s) where
  config := hs.config
  status := takeException_statusLegal e hs.status
  fcsr := hs.fcsr
  cause := takeException_causeLegal e hce hs.cause.2
  memory := hs.memory
  queue := ⟨s.pq, [], by simp, hs.queue.2, by simp, by simp⟩
  isaMode := hs.isaMode
  endian := hs.endian

/-- A trap entry keeps the invariant. -/
theorem takeException_inv (e : Exc) (hce : ∀ n, e = .cpU n → n ∈ [0#2, 1#2]) (hs : s.Inv) : (takeException e s).Inv where
  config := hs.config
  status := takeException_statusLegal e hs.status
  fcsr := hs.fcsr
  cause := takeException_causeLegal e hce hs.cause.2
  memory := hs.memory
  queue := hs.queue
  isaMode := hs.isaMode
  endian := hs.endian

/-- The queue served, with the fresh entries due: the invariant is back. -/
theorem MidInv.drained {q es : List Pending} (hs : MidInv s) (hq : ∀ e ∈ q, e.legal = true) (hlen : es.length ≤ 2)
    (hes : ∀ e ∈ es, e.Fresh) : ({ drainPending q s with pq := es.map Pending.age } : State).Inv := by
  obtain ⟨hframe, hfcsr⟩ := drainPending_legal q s hq
  have hfcsr := hfcsr hs.fcsr
  generalize drainPending q s = d at hframe hfcsr ⊢
  rw [hframe]
  exact {
    config := hs.config
    status := hs.status
    fcsr := hfcsr
    cause := hs.cause
    memory := hs.memory
    queue := ⟨by simpa using hlen, List.forall_mem_map.mpr fun e he => (hes e he).2⟩
    isaMode := hs.isaMode
    endian := hs.endian }

/-- The tick brings the invariant back and does not check-stop. -/
theorem MidInv.tick (hs : MidInv s) (hr : s.run ≠ .checkStop) :
    (Machine.tick s).Inv ∧ (Machine.tick s).run = s.run := by
  obtain ⟨q, es, hpq, hq, hlen, hes⟩ := hs.queue
  have hdrained := hs.drained hq hlen hes
  have hrun : (drainPending q s).run = s.run := by rw [(drainPending_legal q s hq).1]
  rcases tick_append_cases s q es hpq hq (fun e he => by simp [(hes e he).1]) hr with e | e <;> rw [e]
  · exact ⟨hdrained, hrun⟩
  · exact ⟨takeException_inv _ (by simp) hdrained, hrun⟩

/-! ### A step -/

/-- Sampling the inputs keeps the invariant. -/
theorem samplePins_inv (hs : s.Inv) : (samplePins s).Inv := by
  rw [samplePins_eq]
  exact ⟨hs.config, hs.status, hs.fcsr, hs.cause, hs.memory, hs.queue, hs.isaMode, hs.endian⟩

/-- The state after reset meets the invariant (R64). -/
theorem resetWith_inv (c : Config) (hc : c.Valid) : (State.resetWith c).Inv where
  config := hc
  status := by simp [State.StatusLegal, State.resetWith]
  fcsr := by simp [State.FcsrLegal, State.resetWith]
  cause := ⟨by simp [State.resetWith], by simp [State.resetWith]⟩
  memory := rfl
  queue := ⟨by simp [State.resetWith], by simp [State.resetWith]⟩
  isaMode := rfl
  endian := rfl

/-- The RESET pin leads to the invariant (R550). -/
theorem resetCore_inv (hs : s.Inv) : (resetCore s).Inv := by
  obtain ⟨hconfig, hstatus, hfcsr, hcause, -, hqueue, hmode, hendian⟩ := resetWith_inv s.cfg hs.config
  exact ⟨hconfig, hstatus, hfcsr, hcause, hs.memory, hqueue, hmode, hendian⟩

/-- The fetch raises only an address error or ReservedInstruction (R92, R489). -/
theorem fetchDecode_error {e : Exc} (h : fetchDecode s = .error e) : e = .ri ∨ e = .adEL s.pc := by
  unfold fetchDecode at h
  split at h
  · split at h <;> cases h
    exact .inl rfl
  · cases h
    exact .inr rfl

/-- From a running state that meets the invariant an instruction does not check-stop: there is always room. -/
theorem Ends.run_ne_checkStop (h : Ends i s t) (hs : s.Inv) (hr : s.run ≠ .checkStop) : t.run ≠ .checkStop := by
  rcases h.run_cases with hrun | ⟨-, hrun⟩ | ⟨-, hfull⟩
  · rwa [hrun]
  · simp [hrun]
  · have hcap := hs.config.2.2
    have hlen := hs.queue.1
    have hnew := queueEntries_le_two i
    omega

/-- What comes before the tick of a step that executes: `MidInv`, and no check-stop. -/
theorem fetchExecute_midInv {v : State} (hu : u.Inv) (hready : u.Ready)
    (h : (∃ e, fetchDecode u = .error e ∧ v = takeException e u) ∨ ∃ i, fetchDecode u = .ok i ∧ exec i u = .next v) :
    MidInv v ∧ v.run ≠ .checkStop := by
  obtain ⟨-, -, hrun, -⟩ := hready
  have hsafe : u.run ≠ .checkStop := by simp [hrun]
  rcases h with ⟨e, herr, rfl⟩ | ⟨i, -, hexec⟩
  · refine ⟨takeException_midInv e ?_ hu, hsafe⟩
    rcases fetchDecode_error herr with rfl | rfl <;> simp
  · have hends := exec_ends i hexec
    exact ⟨hends.midInv hu, hends.run_ne_checkStop hu hsafe⟩

/-- Settles O8: each way a step can go leads back to the invariant. -/
theorem stepKeepsInv : Obligations.StepKeepsInv := by
  intro s t hs h
  have hu := samplePins_inv hs
  rcases step_cases h with ⟨-, rfl⟩ | ⟨-, -, rfl⟩ | ⟨-, -, -, rfl⟩ | ⟨hready, v, rfl, hv⟩
  · exact resetCore_inv hu
  · exact hu
  · exact ⟨hu.config, hu.status, hu.fcsr, hu.cause, hu.memory, hu.queue, hu.isaMode, hu.endian⟩
  · obtain ⟨hmid, hsafe⟩ := fetchExecute_midInv hu hready hv
    exact (hmid.tick hsafe).1

/-- Settles O9: neither the instruction nor its tick check-stops. -/
theorem stepNeverCheckStops : Obligations.StepNeverCheckStops := by
  intro s t hs hsafe h
  have hu := samplePins_inv hs
  rcases step_cases h with ⟨-, rfl⟩ | ⟨-, -, rfl⟩ | ⟨-, -, -, rfl⟩ | ⟨hready, v, rfl, hv⟩
  · simp [State.Safe, resetCore, State.resetWith]
  · rwa [State.Safe, samplePins_run]
  · simp [State.Safe]
  · obtain ⟨hmid, hsafe'⟩ := fetchExecute_midInv hu hready hv
    rw [State.Safe, (hmid.tick hsafe').2]
    exact hsafe'

/-- No tag is known after reset (R64). -/
theorem resetWith_tagAt (c : Config) (r : FprNo) : (State.resetWith c).tagAt r = .unknown := by
  simp [State.tagAt, State.resetWith, Vector.get]

/-- Settles O10: the values are those of the definition, and with legal parameters they meet the invariant. -/
theorem resetState : Obligations.ResetState := by
  refine ⟨fun c => ?_, rfl, resetWith_inv Config.default (by decide)⟩
  have hsafe : (State.resetWith c).Safe := by simp [State.Safe, State.resetWith]
  have hkernel : (State.resetWith c).kernelMode = true := by simp [State.kernelMode, State.um, State.resetWith]
  exact ⟨rfl, rfl, rfl, resetWith_tagAt c, rfl, rfl, rfl, rfl, rfl, rfl, rfl, rfl, hkernel,
    fun hc => ⟨resetWith_inv c hc, hsafe⟩⟩

end Sys2Proof.Machine

/-! The decoder undoes the encoder, and the encoder the decoder (30_encoding.md sections 1 to 6). Every word is its six
fields of format R (R112), so both directions are statements about `decodeFields`: from an instruction, each format of
the encoder fills those fields and the map of its opcode reads them back; from the fields, every row of every map answers
an instruction whose word they make. -/

namespace Sys2Proof

/-! ### Words and fields -/

/-- The number of a concatenation. -/
theorem toNat_append_eq {n m : Nat} (x : BitVec n) (y : BitVec m) : (x ++ y).toNat = x.toNat * 2 ^ m + y.toNat := by
  rw [BitVec.toNat_append, ← Nat.shiftLeft_add_eq_or_of_lt y.isLt, Nat.shiftLeft_eq]

/-- The number of a word in format R. -/
theorem rType_toNat (op : BitVec 6) (rs rt rd sa : BitVec 5) (funct : BitVec 6) :
    (rType op rs rt rd sa funct).toNat =
      ((((op.toNat * 32 + rs.toNat) * 32 + rt.toNat) * 32 + rd.toNat) * 32 + sa.toNat) * 64 + funct.toNat := by
  simp only [rType, toNat_append_eq, Nat.reducePow]

/-- A part of a word, as a number. -/
theorem extractLsb'_toNat_div {n : Nat} (x : BitVec n) (start len : Nat) :
    (x.extractLsb' start len).toNat = x.toNat / 2 ^ start % 2 ^ len := by
  rw [BitVec.extractLsb'_toNat, Nat.shiftRight_eq_div_pow]

/-- A word is its fields (R112). -/
theorem rType_fields (w : BitVec 32) :
    rType (w.extractLsb' 26 6) (w.extractLsb' 21 5) (w.extractLsb' 16 5) (w.extractLsb' 11 5) (w.extractLsb' 6 5)
      (w.extractLsb' 0 6) = w := by
  apply BitVec.eq_of_toNat_eq
  rw [rType_toNat]
  simp only [extractLsb'_toNat_div, Nat.reducePow]
  omega

section Fields

variable (op : BitVec 6) (rs rt rd sa : BitVec 5) (funct : BitVec 6)

/-- The decoder reads the fields of a word in format R. -/
theorem decode_rType : decode (rType op rs rt rd sa funct) = decodeFields op rs rt rd sa funct := by
  have hpart {len : Nat} (start : Nat) (x : BitVec len)
      (h : (rType op rs rt rd sa funct).toNat / 2 ^ start % 2 ^ len = x.toNat) :
      (rType op rs rt rd sa funct).extractLsb' start len = x :=
    BitVec.eq_of_toNat_eq (by rw [extractLsb'_toNat_div, h])
  unfold decode
  rw [hpart 26 op, hpart 21 rs, hpart 16 rt, hpart 11 rd, hpart 6 sa, hpart 0 funct] <;>
    rw [rType_toNat] <;> omega

/-- A 16-bit field is three fields of format R. -/
theorem iType_append : iType op rs rt (rd ++ sa ++ funct) = rType op rs rt rd sa funct := by
  apply BitVec.eq_of_toNat_eq
  rw [rType_toNat]
  simp only [iType, toNat_append_eq, Nat.reducePow]
  omega

/-- A 26-bit field is five fields of format R. -/
theorem jType_append : jType op (rs ++ rt ++ rd ++ sa ++ funct) = rType op rs rt rd sa funct := by
  apply BitVec.eq_of_toNat_eq
  rw [rType_toNat]
  simp only [jType, toNat_append_eq, Nat.reducePow]
  omega

/-- A 20-bit code is four fields of format R. -/
theorem codeType_append : codeType (rs ++ rt ++ rd ++ sa) funct = rType 0x00#6 rs rt rd sa funct := by
  apply BitVec.eq_of_toNat_eq
  rw [rType_toNat]
  simp only [codeType, toNat_append_eq, Nat.reducePow]
  omega

end Fields

/-- Every 16-bit field comes from three fields of format R. -/
theorem exists_imm_fields (imm : BitVec 16) : ∃ (rd sa : BitVec 5) (funct : BitVec 6), imm = rd ++ sa ++ funct := by
  refine ⟨imm.extractLsb' 11 5, imm.extractLsb' 6 5, imm.extractLsb' 0 6, BitVec.eq_of_toNat_eq ?_⟩
  simp only [toNat_append_eq, extractLsb'_toNat_div, Nat.reducePow]
  omega

/-- Every 20-bit code comes from four fields of format R. -/
theorem exists_code_fields (code : BitVec 20) : ∃ rs rt rd sa : BitVec 5, code = rs ++ rt ++ rd ++ sa := by
  refine ⟨code.extractLsb' 15 5, code.extractLsb' 10 5, code.extractLsb' 5 5, code.extractLsb' 0 5,
    BitVec.eq_of_toNat_eq ?_⟩
  simp only [toNat_append_eq, extractLsb'_toNat_div, Nat.reducePow]
  omega

/-- Every 26-bit index comes from five fields of format R. -/
theorem exists_index_fields (index : BitVec 26) :
    ∃ (rs rt rd sa : BitVec 5) (funct : BitVec 6), index = rs ++ rt ++ rd ++ sa ++ funct := by
  refine ⟨index.extractLsb' 21 5, index.extractLsb' 16 5, index.extractLsb' 11 5, index.extractLsb' 6 5,
    index.extractLsb' 0 6, BitVec.eq_of_toNat_eq ?_⟩
  simp only [toNat_append_eq, extractLsb'_toNat_div, Nat.reducePow]
  omega

/-! ### Decoding what was encoded -/

/-- A word in format I, for a row that takes the 16-bit field whole. -/
theorem decode_iType {op : BitVec 6} {rs rt : BitVec 5} {imm : BitVec 16} {row : BitVec 16 → Instr}
    (h : ∀ rd sa funct, decodeFields op rs rt rd sa funct = .ok (row (rd ++ sa ++ funct))) :
    decode (iType op rs rt imm) = .ok (row imm) := by
  obtain ⟨rd, sa, funct, rfl⟩ := exists_imm_fields imm
  rw [iType_append, decode_rType, h]

/-- A word in format J. -/
theorem decode_jType {op : BitVec 6} {index : BitVec 26} {row : BitVec 26 → Instr}
    (h : ∀ rs rt rd sa funct, decodeFields op rs rt rd sa funct = .ok (row (rs ++ rt ++ rd ++ sa ++ funct))) :
    decode (jType op index) = .ok (row index) := by
  obtain ⟨rs, rt, rd, sa, funct, rfl⟩ := exists_index_fields index
  rw [jType_append, decode_rType, h]

/-- SYSCALL with any code (R119). -/
theorem decode_syscall (code : BitVec 20) : decode (codeType code 0x0C#6) = .ok (.syscall code) := by
  obtain ⟨rs, rt, rd, sa, rfl⟩ := exists_code_fields code
  rw [codeType_append, decode_rType]
  rfl

/-- BREAK with any code but that of HALT (R127). -/
theorem decode_brk (code : BitVec 20) (h : code ≠ 0xFFFFF#20) : decode (codeType code 0x0D#6) = .ok (.brk code) := by
  obtain ⟨rs, rt, rd, sa, rfl⟩ := exists_code_fields code
  rw [codeType_append, decode_rType]
  exact if_neg h

/-- `fmtsel` of an OB form by element selects that element (R116). -/
theorem decodeSel_fmtObE (e : BitVec 3) : decodeSel (fmtObE e) = some (.obE e) := by
  revert e
  decide

/-- `fmtsel` of a QH form by element selects that element (R116). -/
theorem decodeSel_fmtQhE (e : BitVec 2) : decodeSel (fmtQhE e) = some (.qhE e) := by
  revert e
  decide

/-- An OB row by element. -/
theorem selBoth_obE (e : BitVec 3) (f : BitVec 3 → Instr) (a b : Instr) (g : BitVec 2 → Instr) (c d : Instr) :
    selBoth (decodeSel (fmtObE e)) f a b g c d = .ok (f e) := by rw [decodeSel_fmtObE]; rfl

/-- A QH row by element. -/
theorem selBoth_qhE (e : BitVec 2) (f : BitVec 3 → Instr) (a b : Instr) (g : BitVec 2 → Instr) (c d : Instr) :
    selBoth (decodeSel (fmtQhE e)) f a b g c d = .ok (g e) := by rw [decodeSel_fmtQhE]; rfl

/-- An OB row by element of an instruction that has no QH row. -/
theorem selOb_obE (e : BitVec 3) (f : BitVec 3 → Instr) (a b : Instr) :
    selOb (decodeSel (fmtObE e)) f a b = .ok (f e) := by rw [decodeSel_fmtObE]; rfl

/-- A QH row by element of an instruction that has no OB row. -/
theorem selQh_qhE (e : BitVec 2) (f : BitVec 2 → Instr) (a b : Instr) :
    selQh (decodeSel (fmtQhE e)) f a b = .ok (f e) := by rw [decodeSel_fmtQhE]; rfl

/-- The condition code of a compare is bits 4:2 of its field (R112). -/
theorem extractLsb'_ccField (cc : BitVec 3) : (ccField cc).extractLsb' 2 3 = cc := by
  revert cc
  decide

/-- A compare row takes the field of every condition code in S and D (R371). -/
theorem whenZero_ccField {cc : BitVec 3} {i j : Instr} (h : i = j) :
    whenZero ((ccField cc).extractLsb' 0 2 == 0#2) i = .ok j := by
  have hlow : ∀ cc, ((ccField cc).extractLsb' 0 2 == 0#2) = true := by decide
  rw [hlow, h]
  rfl

/-- A compare row takes the fields of the even condition codes in PS (R371). -/
theorem whenZero_ccField_even {cc : BitVec 3} {i j : Instr} (h : i = j) (heven : cc.extractLsb' 0 1 = 0#1) :
    whenZero ((ccField cc).extractLsb' 0 2 == 0#2 && ((ccField cc).extractLsb' 2 3).extractLsb' 0 1 == 0#1) i =
      .ok j := by
  rw [extractLsb'_ccField, heven]
  simpa only [beq_self_eq_true, Bool.and_true] using whenZero_ccField h

/-- The field of an FPU branch gives its condition code and its sense (R112). -/
theorem branchField_parts (cc : BitVec 3) (tf : BitVec 1) :
    (branchField cc tf).extractLsb' 2 3 = cc ∧ (branchField cc tf).extractLsb' 0 2 = 0#1 ++ tf := by
  revert cc tf
  decide

/-- The row of the FPU branches (R372, R373). -/
theorem decode_branch (cc : BitVec 3) (tf : BitVec 1) (imm : BitVec 16) :
    decode (iType 0x11#6 0x08#5 (branchField cc tf) imm) =
      .ok (if tf = 1#1 then .bc1t cc imm else .bc1f cc imm) := by
  obtain ⟨hcc, hlow⟩ := branchField_parts cc tf
  refine decode_iType (row := fun imm => if tf = 1#1 then .bc1t cc imm else .bc1f cc imm) fun rd sa funct => ?_
  show decodeCop1 0x08#5 (branchField cc tf) rd sa funct = _
  simp only [decodeCop1, hcc, hlow]
  obtain rfl | rfl := BitVec.eq_zero_or_eq_one tf <;> rfl

/-! ### Decoding what was encoded, row by row -/

/-- Settles O1: each format of the encoder, read back by the rows of its map. -/
theorem decodeEncode : Obligations.DecodeEncode := by
  intro i hwf
  cases i
  case j | jal =>
    exact decode_jType fun _ _ _ _ _ => rfl
  case syscall code =>
    exact decode_syscall code
  case brk code =>
    exact decode_brk code (bne_iff_ne.mp hwf)
  case bltz | bgez | beq | bne | blez | bgtz | addi | addiu | slti | sltiu | andi | ori | xori | daddi | daddiu |
      lui | lb | lbu | lh | lhu | lw | lwu | ld | sb | sh | sw | sd | ll | lld | sc | scd | lwl | lwr | ldl | ldr
      | swl | swr | sdl | sdr | lwc1 | ldc1 | swc1 | sdc1 =>
    exact decode_iType fun _ _ _ => rfl
  case halt =>
    rfl
  case bc1f cc imm =>
    exact decode_branch cc 0#1 imm
  case bc1t cc imm =>
    exact decode_branch cc 1#1 imm
  case cFS | cUnS | cEqS | cUeqS | cOltS | cUltS | cOleS | cUleS | cSfS | cNgleS | cSeqS | cNglS | cLtS | cNgeS |
      cLeS | cNgtS =>
    refine (decode_rType ..).trans (whenZero_ccField ?_)
    rw [extractLsb'_ccField]
  case cFD | cUnD | cEqD | cUeqD | cOltD | cUltD | cOleD | cUleD | cSfD | cNgleD | cSeqD | cNglD | cLtD | cNgeD |
      cLeD | cNgtD =>
    refine (decode_rType ..).trans (whenZero_ccField ?_)
    rw [extractLsb'_ccField]
  case cFPs | cUnPs | cEqPs | cUeqPs | cOltPs | cUltPs | cOlePs | cUlePs | cSfPs | cNglePs | cSeqPs | cNglPs |
      cLtPs | cNgePs | cLePs | cNgtPs =>
    refine (decode_rType ..).trans (whenZero_ccField_even ?_ (beq_iff_eq.mp hwf))
    rw [extractLsb'_ccField]
  case addObE | subObE | mulObE | minObE | maxObE | andObE | orObE | xorObE | norObE | sllObE | srlObE | pickfObE
      | picktObE | cEqObE | cLtObE | cLeObE | mulaObE | mulsObE | mullObE | mulslObE | addaObE | addlObE | subaObE
      | sublObE | rzuObE | rnauObE | rneuObE =>
    exact (decode_rType ..).trans (selBoth_obE ..)
  case addQhE | subQhE | mulQhE | minQhE | maxQhE | andQhE | orQhE | xorQhE | norQhE | sllQhE | srlQhE | pickfQhE
      | picktQhE | cEqQhE | cLtQhE | cLeQhE | mulaQhE | mulsQhE | mullQhE | mulslQhE | addaQhE | addlQhE | subaQhE
      | sublQhE | rzuQhE | rnauQhE | rneuQhE =>
    exact (decode_rType ..).trans (selBoth_qhE ..)
  case pabsdiffObE | pavgObE =>
    exact (decode_rType ..).trans (selOb_obE ..)
  case sraQhE | msgnQhE | rzsQhE | rnasQhE | rnesQhE =>
    exact (decode_rType ..).trans (selQh_qhE ..)
  all_goals exact decode_rType ..

/-! ### The rows answer instructions whose word they read -/

/-- The instruction is well-formed, and the word is its encoding. -/
def Codes (w : BitVec 32) (i : Instr) : Prop := encode i = w ∧ i.wellFormed = true

/-- What the decoder answers for a word is coded by it. -/
def Reads (w : BitVec 32) (d : Decoded) : Prop := ∀ i, d = .ok i → Codes w i

section Rows

variable {w : BitVec 32} {i : Instr}

/-- A row that answers an instruction. -/
theorem reads_ok (h : Codes w i) : Reads w (.ok i) := by
  rintro _ ⟨⟩
  exact h

/-- No row. -/
theorem reads_error (r : Reserved) : Reads w (.error r) := nofun

/-- A row with must-be-zero fields. -/
theorem reads_whenZero {ok : Bool} (h : ok = true → Codes w i) : Reads w (whenZero ok i) := by
  unfold whenZero
  split
  next hok => exact reads_ok (h hok)
  next => exact reads_error _

/-- A row with must-be-zero fields before the selection of its operand. -/
theorem reads_guardZero {ok : Bool} {d : Decoded} (h : ok = true → Reads w d) : Reads w (guardZero ok d) := by
  unfold guardZero
  split
  next hok => exact h hok
  next => exact reads_error _

/-- A row by `fmt` (R115). -/
theorem reads_byFmt {fmt : BitVec 5} {s d ps : Decoded} (hs : fmt = 16#5 → Reads w s) (hd : fmt = 17#5 → Reads w d)
    (hps : fmt = 22#5 → Reads w ps) : Reads w (byFmt fmt s d ps) := by
  unfold byFmt
  split
  · exact hs rfl
  · exact hd rfl
  · exact hps rfl
  · exact reads_error _

/-- A field whose two low bits are zero is the field of its condition code (R112). -/
theorem ccField_of_low {sa : BitVec 5} (h : sa.extractLsb' 0 2 = 0#2) : ccField (sa.extractLsb' 2 3) = sa := by
  revert sa
  decide

end Rows

/-- A compare row (R122, R371). -/
theorem reads_compareRow {fmt ft fs sa : BitVec 5} {funct : BitVec 6} {s d ps : BitVec 3 → Instr}
    (hs : ∀ cc, Codes (rType 0x11#6 16#5 ft fs (ccField cc) funct) (s cc))
    (hd : ∀ cc, Codes (rType 0x11#6 17#5 ft fs (ccField cc) funct) (d cc))
    (hps : ∀ cc, (cc.extractLsb' 0 1 == 0#1) = true → Codes (rType 0x11#6 22#5 ft fs (ccField cc) funct) (ps cc)) :
    Reads (rType 0x11#6 fmt ft fs sa funct) (compareRow fmt sa s d ps) := by
  refine reads_byFmt (fun hfmt => reads_whenZero fun hlow => ?_) (fun hfmt => reads_whenZero fun hlow => ?_)
    (fun hfmt => reads_whenZero fun hlow => ?_)
  · simpa only [hfmt, ccField_of_low (beq_iff_eq.mp hlow)] using hs (sa.extractLsb' 2 3)
  · simpa only [hfmt, ccField_of_low (beq_iff_eq.mp hlow)] using hd (sa.extractLsb' 2 3)
  · obtain ⟨hlow, heven⟩ := Bool.and_eq_true_iff.mp hlow
    simpa only [hfmt, ccField_of_low (beq_iff_eq.mp hlow)] using hps (sa.extractLsb' 2 3) heven

/-- The field that selects each kind of second operand (R116). -/
def LaneSel.field : LaneSel → BitVec 5
  | .obE e => fmtObE e
  | .obV => 22#5
  | .obI => 30#5
  | .qhE e => fmtQhE e
  | .qhV => 21#5
  | .qhI => 29#5

/-- What a field selects is selected by no other field (R116). -/
theorem field_of_decodeSel {f : BitVec 5} {sel : LaneSel} (h : decodeSel f = some sel) : sel.field = f := by
  have hall : ∀ f : BitVec 5, (decodeSel f).all (·.field = f) = true := by decide
  simpa only [h, Option.all_some, decide_eq_true_eq] using hall f

section LaneRows

variable {f vt vs vd : BitVec 5} {funct : BitVec 6} {obE : BitVec 3 → Instr} {obV obI : Instr}
  {qhE : BitVec 2 → Instr} {qhV qhI : Instr}

/-- A row of both lane formats (R123). -/
theorem reads_selBoth (hobE : ∀ e, Codes (mxType (fmtObE e) vt vs vd funct) (obE e))
    (hobV : Codes (mxType 22#5 vt vs vd funct) obV) (hobI : Codes (mxType 30#5 vt vs vd funct) obI)
    (hqhE : ∀ e, Codes (mxType (fmtQhE e) vt vs vd funct) (qhE e))
    (hqhV : Codes (mxType 21#5 vt vs vd funct) qhV) (hqhI : Codes (mxType 29#5 vt vs vd funct) qhI) :
    Reads (rType 0x1E#6 f vt vs vd funct) (selBoth (decodeSel f) obE obV obI qhE qhV qhI) := by
  match hsel : decodeSel f with
  | none => exact reads_error _
  | some sel =>
    rw [← field_of_decodeSel hsel]
    cases sel with
    | obE e => exact reads_ok (hobE e)
    | obV => exact reads_ok hobV
    | obI => exact reads_ok hobI
    | qhE e => exact reads_ok (hqhE e)
    | qhV => exact reads_ok hqhV
    | qhI => exact reads_ok hqhI

/-- A row of OB lanes (R123). -/
theorem reads_selOb (hobE : ∀ e, Codes (mxType (fmtObE e) vt vs vd funct) (obE e))
    (hobV : Codes (mxType 22#5 vt vs vd funct) obV) (hobI : Codes (mxType 30#5 vt vs vd funct) obI) :
    Reads (rType 0x1E#6 f vt vs vd funct) (selOb (decodeSel f) obE obV obI) := by
  match hsel : decodeSel f with
  | none => exact reads_error _
  | some sel =>
    rw [← field_of_decodeSel hsel]
    cases sel with
    | obE e => exact reads_ok (hobE e)
    | obV => exact reads_ok hobV
    | obI => exact reads_ok hobI
    | qhE _ | qhV | qhI => exact reads_error _

/-- A row of QH lanes (R123). -/
theorem reads_selQh (hqhE : ∀ e, Codes (mxType (fmtQhE e) vt vs vd funct) (qhE e))
    (hqhV : Codes (mxType 21#5 vt vs vd funct) qhV) (hqhI : Codes (mxType 29#5 vt vs vd funct) qhI) :
    Reads (rType 0x1E#6 f vt vs vd funct) (selQh (decodeSel f) qhE qhV qhI) := by
  match hsel : decodeSel f with
  | none => exact reads_error _
  | some sel =>
    rw [← field_of_decodeSel hsel]
    cases sel with
    | qhE e => exact reads_ok (hqhE e)
    | qhV => exact reads_ok hqhV
    | qhI => exact reads_ok hqhI
    | obE _ | obV | obI => exact reads_error _

end LaneRows

/-! ### Map by map -/

/-- SPECIAL (R119). -/
theorem reads_decodeSpecial (rs rt rd sa : BitVec 5) (funct : BitVec 6) :
    Reads (rType 0x00#6 rs rt rd sa funct) (decodeSpecial rs rt rd sa funct) := by
  unfold decodeSpecial
  split
  case h_9 => exact reads_ok ⟨codeType_append .., rfl⟩
  case h_10 =>
    split
    next hcode => exact reads_ok ⟨by rw [← codeType_append, hcode]; rfl, rfl⟩
    next hcode => exact reads_ok ⟨codeType_append .., bne_iff_ne.mpr hcode⟩
  case h_35 => exact reads_error _
  all_goals
    refine reads_whenZero fun h => ⟨?_, rfl⟩
    simp only [Bool.and_eq_true, beq_iff_eq] at h
    simp only [h]
    rfl

/-- REGIMM (R120). -/
theorem reads_decodeRegimm (rs rt rd sa : BitVec 5) (funct : BitVec 6) :
    Reads (rType 0x01#6 rs rt rd sa funct) (decodeRegimm rs rt (rd ++ sa ++ funct)) := by
  unfold decodeRegimm
  split
  case h_3 => exact reads_error _
  all_goals exact reads_ok ⟨iType_append .., rfl⟩

/-- COP0 (R121). -/
theorem reads_decodeCop0 (rs rt rd sa : BitVec 5) (funct : BitVec 6) :
    Reads (rType 0x10#6 rs rt rd sa funct) (decodeCop0 rs rt rd sa funct) := by
  unfold decodeCop0
  split
  case h_5 =>
    split
    next hfunct =>
      refine reads_whenZero fun h => ⟨?_, rfl⟩
      simp only [Bool.and_eq_true, beq_iff_eq] at h
      simp only [h, hfunct]
      rfl
    next => exact reads_error _
  case h_6 => exact reads_error _
  all_goals
    refine reads_whenZero fun h => ⟨?_, rfl⟩
    simp only [Bool.and_eq_true, beq_iff_eq] at h
    simp only [h]
    rfl

section Cop1

variable {fmt ft fs fd : BitVec 5} {funct : BitVec 6}

/-- A row with `ft` = 0. -/
theorem reads_zeroFt {i : Instr} (h : Codes (rType 0x11#6 fmt 0#5 fs fd funct) i) :
    Reads (rType 0x11#6 fmt ft fs fd funct) (whenZero (ft == 0#5) i) :=
  reads_whenZero fun hft => by rwa [beq_iff_eq.mp hft]

/-- The row of an operation of two operands in S, D and PS. -/
theorem reads_binary {s d ps : Instr} (hs : Codes (rType 0x11#6 16#5 ft fs fd funct) s)
    (hd : Codes (rType 0x11#6 17#5 ft fs fd funct) d) (hps : Codes (rType 0x11#6 22#5 ft fs fd funct) ps) :
    Reads (rType 0x11#6 fmt ft fs fd funct) (byFmt fmt (.ok s) (.ok d) (.ok ps)) :=
  reads_byFmt (fun h => h ▸ reads_ok hs) (fun h => h ▸ reads_ok hd) (fun h => h ▸ reads_ok hps)

/-- The row of an operation of one operand in S, D and PS. -/
theorem reads_unary {s d ps : Instr} (hs : Codes (rType 0x11#6 16#5 0#5 fs fd funct) s)
    (hd : Codes (rType 0x11#6 17#5 0#5 fs fd funct) d) (hps : Codes (rType 0x11#6 22#5 0#5 fs fd funct) ps) :
    Reads (rType 0x11#6 fmt ft fs fd funct)
      (byFmt fmt (whenZero (ft == 0#5) s) (whenZero (ft == 0#5) d) (whenZero (ft == 0#5) ps)) :=
  reads_byFmt (fun h => h ▸ reads_zeroFt hs) (fun h => h ▸ reads_zeroFt hd) (fun h => h ▸ reads_zeroFt hps)

/-- The row of a conversion of S and D to an integer. -/
theorem reads_toInteger {s d : Instr} (hs : Codes (rType 0x11#6 16#5 0#5 fs fd funct) s)
    (hd : Codes (rType 0x11#6 17#5 0#5 fs fd funct) d) :
    Reads (rType 0x11#6 fmt ft fs fd funct)
      (byFmt fmt (whenZero (ft == 0#5) s) (whenZero (ft == 0#5) d) (.error .cop1)) :=
  reads_byFmt (fun h => h ▸ reads_zeroFt hs) (fun h => h ▸ reads_zeroFt hd) (fun _ => reads_error _)

end Cop1

/-- COP1 arithmetic, conversions and compares (R122). -/
theorem reads_decodeCop1Arith (fmt ft fs sa : BitVec 5) (funct : BitVec 6) :
    Reads (rType 0x11#6 fmt ft fs sa funct) (decodeCop1Arith fmt ft fs sa funct) := by
  unfold decodeCop1Arith
  split
  case h_1 | h_2 | h_3 | h_4 | h_18 | h_19 => exact reads_binary ⟨rfl, rfl⟩ ⟨rfl, rfl⟩ ⟨rfl, rfl⟩
  case h_5 | h_6 | h_7 | h_8 | h_17 => exact reads_unary ⟨rfl, rfl⟩ ⟨rfl, rfl⟩ ⟨rfl, rfl⟩
  case h_9 | h_10 | h_11 | h_12 | h_13 | h_14 | h_15 | h_16 | h_22 | h_23 =>
    exact reads_toInteger ⟨rfl, rfl⟩ ⟨rfl, rfl⟩
  case h_20 | h_21 =>
    split
    case h_4 => exact reads_error _
    all_goals exact reads_zeroFt ⟨rfl, rfl⟩
  case h_40 => exact reads_error _
  all_goals exact reads_compareRow (fun _ => ⟨rfl, rfl⟩) (fun _ => ⟨rfl, rfl⟩) fun _ heven => ⟨rfl, heven⟩

/-- The field of an FPU branch with `nd` = 0 (R112). -/
theorem branchField_of_low {rt : BitVec 5} {tf : BitVec 1} (h : rt.extractLsb' 0 2 = 0#1 ++ tf) :
    branchField (rt.extractLsb' 2 3) tf = rt := by
  revert rt tf
  decide

/-- COP1 (R122). -/
theorem reads_decodeCop1 (rs rt rd sa : BitVec 5) (funct : BitVec 6) :
    Reads (rType 0x11#6 rs rt rd sa funct) (decodeCop1 rs rt rd sa funct) := by
  unfold decodeCop1
  split
  case h_7 =>
    split
    next hlow =>
      exact reads_ok ⟨(congrArg (iType 0x11#6 0x08#5 · _) (branchField_of_low hlow)).trans (iType_append ..), rfl⟩
    next hlow =>
      exact reads_ok ⟨(congrArg (iType 0x11#6 0x08#5 · _) (branchField_of_low hlow)).trans (iType_append ..), rfl⟩
    next => exact reads_error _
  case h_8 => exact reads_decodeCop1Arith _ _ _ _ _
  all_goals
    refine reads_whenZero fun h => ⟨?_, rfl⟩
    simp only [Bool.and_eq_true, beq_iff_eq] at h
    simp only [h]
    rfl

/-- COP1X (R122). -/
theorem reads_decodeCop1x (rs rt rd sa : BitVec 5) (funct : BitVec 6) :
    Reads (rType 0x13#6 rs rt rd sa funct) (decodeCop1x rs rt rd sa funct) := by
  unfold decodeCop1x
  split
  case h_13 => exact reads_error _
  all_goals exact reads_ok ⟨rfl, rfl⟩

/-- The shuffles (R123). -/
theorem reads_decodeShuffle (op vt vs vd : BitVec 5) :
    Reads (rType 0x1E#6 op vt vs vd 0x1F#6) (decodeShuffle op vt vs vd) := by
  unfold decodeShuffle
  split
  case h_13 => exact reads_error _
  all_goals exact reads_ok ⟨rfl, rfl⟩

/-- MDMX (R123). -/
theorem reads_decodeMdmx (fmtsel vt vs vd : BitVec 5) (funct : BitVec 6) :
    Reads (rType 0x1E#6 fmtsel vt vs vd funct) (decodeMdmx fmtsel vt vs vd funct) := by
  unfold decodeMdmx
  split
  case h_1 | h_19 => exact reads_selQh (fun _ => ⟨rfl, rfl⟩) ⟨rfl, rfl⟩ ⟨rfl, rfl⟩
  case h_9 | h_10 => exact reads_selOb (fun _ => ⟨rfl, rfl⟩) ⟨rfl, rfl⟩ ⟨rfl, rfl⟩
  case h_2 | h_5 | h_6 | h_21 | h_22 | h_23 =>
    refine reads_guardZero fun h => ?_
    rw [beq_iff_eq.mp h]
    exact reads_selBoth (fun _ => ⟨rfl, rfl⟩) ⟨rfl, rfl⟩ ⟨rfl, rfl⟩ (fun _ => ⟨rfl, rfl⟩) ⟨rfl, rfl⟩ ⟨rfl, rfl⟩
  case h_24 | h_25 | h_26 =>
    refine reads_guardZero fun h => ?_
    rw [beq_iff_eq.mp h]
    exact reads_selQh (fun _ => ⟨rfl, rfl⟩) ⟨rfl, rfl⟩ ⟨rfl, rfl⟩
  case h_20 => exact reads_decodeShuffle _ _ _ _
  case h_28 | h_29 | h_30 | h_31 =>
    split
    case h_3 => exact reads_error _
    all_goals
      exact reads_selBoth (fun _ => ⟨rfl, rfl⟩) ⟨rfl, rfl⟩ ⟨rfl, rfl⟩ (fun _ => ⟨rfl, rfl⟩) ⟨rfl, rfl⟩ ⟨rfl, rfl⟩
  case h_32 =>
    split
    case h_5 => exact reads_error _
    all_goals
      refine reads_whenZero fun h => ⟨?_, rfl⟩
      simp only [Bool.and_eq_true, beq_iff_eq] at h
      simp only [h]
      rfl
  case h_33 =>
    split
    case h_7 => exact reads_error _
    all_goals
      refine reads_whenZero fun h => ⟨?_, rfl⟩
      simp only [Bool.and_eq_true, beq_iff_eq] at h
      simp only [h]
      rfl
  case h_34 => exact reads_error _
  all_goals
    exact reads_selBoth (fun _ => ⟨rfl, rfl⟩) ⟨rfl, rfl⟩ ⟨rfl, rfl⟩ (fun _ => ⟨rfl, rfl⟩) ⟨rfl, rfl⟩ ⟨rfl, rfl⟩

/-- Every primary opcode (R117). -/
theorem reads_decodeFields (op : BitVec 6) (rs rt rd sa : BitVec 5) (funct : BitVec 6) :
    Reads (rType op rs rt rd sa funct) (decodeFields op rs rt rd sa funct) := by
  unfold decodeFields
  split
  case h_1 => exact reads_decodeSpecial _ _ _ _ _
  case h_2 => exact reads_decodeRegimm _ _ _ _ _
  case h_3 | h_4 => exact reads_ok ⟨jType_append .., rfl⟩
  case h_7 | h_8 | h_16 =>
    refine reads_whenZero fun h => ⟨?_, rfl⟩
    rw [beq_iff_eq.mp h]
    exact iType_append ..
  case h_17 => exact reads_decodeCop0 _ _ _ _ _
  case h_18 => exact reads_decodeCop1 _ _ _ _ _
  case h_19 => exact reads_decodeCop1x _ _ _ _ _
  case h_24 => exact reads_decodeMdmx _ _ _ _ _
  case h_50 => exact reads_error _
  all_goals exact reads_ok ⟨iType_append .., rfl⟩

/-- Settles O2: a word is its fields, and every row of every map codes them. -/
theorem encodeDecode : Obligations.EncodeDecode := by
  intro w i hdecode
  obtain ⟨hword, hwf⟩ := reads_decodeFields _ _ _ _ _ _ i hdecode
  exact ⟨hword.trans (rType_fields w), hwf⟩

/-- Settles O3: the decoder evaluated on the words. -/
theorem decodeWords : Obligations.DecodeWords :=
  ⟨rfl, rfl, rfl, rfl, rfl, rfl, rfl, rfl, rfl, rfl, rfl, rfl, rfl, rfl, rfl, rfl, rfl, rfl, rfl, rfl⟩

end Sys2Proof

/-! The step around the instruction: the fetch, the tick, the inputs, trap entry and the register file (10_state.md
R21, R58-R64; 20_memory.md R90, R92; 60_exceptions.md R510-R522; 70_reset_and_hazards.md R550-R563). -/

namespace Sys2Proof.Machine

variable {s u : State}

/-! ### The fetch and the step -/

/-- Fetches use the configured byte order, never the reversed one (R73). -/
theorem bigEndianCPU_fetch (s : State) : s.bigEndianCPU true = s.configBE := by simp [State.bigEndianCPU]

/-- A `PC` is a multiple of 4 exactly when its two low bits are 0. -/
theorem low_bits_zero_iff (a : Word) : a.extractLsb' 0 2 = 0#2 ↔ a.toNat % 4 = 0 := by
  rw [← BitVec.toNat_inj, extractLsb'_toNat_div]
  simp

/-- The word at the PC, in the configured byte order (R90). -/
def State.fetchWord (s : State) : BitVec 32 :=
  wordOfBytes s.configBE (s.byteAt s.pc) (s.byteAt (s.pc + 1#64)) (s.byteAt (s.pc + 2#64)) (s.byteAt (s.pc + 3#64))

/-- The decoder sees the word at the PC and nothing behind it. -/
theorem decodeBytes_fetch (s : State) :
    decodeBytes (s.bigEndianCPU true) (s.bytesFrom (translate s.pc) 4) = (decode s.fetchWord).map (·, []) := by
  have h2 : s.pc + 1#64 + 1#64 = s.pc + 2#64 := by bv_omega
  have h3 : s.pc + 1#64 + 1#64 + 1#64 = s.pc + 3#64 := by bv_omega
  have hword : wordOfBytes s.configBE (s.byteAt s.pc) (s.byteAt (s.pc + 1#64)) (s.byteAt (s.pc + 1#64 + 1#64))
      (s.byteAt (s.pc + 1#64 + 1#64 + 1#64)) = s.fetchWord := by rw [h3, h2, State.fetchWord]
  simp only [bigEndianCPU_fetch, translate, State.bytesFrom, decodeBytes, hword]
  cases decode s.fetchWord <;> rfl

/-- Fetching a word that decodes (R90). -/
theorem fetchDecode_ok {i : Instr} (hpc : s.pc.toNat % 4 = 0) (h : decode s.fetchWord = .ok i) :
    fetchDecode s = .ok i := by
  rw [fetchDecode, if_pos ((low_bits_zero_iff _).mpr hpc), decodeBytes_fetch, h]
  rfl

/-- Fetching a reserved word (R489). -/
theorem fetchDecode_reserved {r : Reserved} (hpc : s.pc.toNat % 4 = 0) (h : decode s.fetchWord = .error r) :
    fetchDecode s = .error .ri := by
  rw [fetchDecode, if_pos ((low_bits_zero_iff _).mpr hpc), decodeBytes_fetch, h]
  rfl

/-- Fetching from a misaligned PC (R92). -/
theorem fetchDecode_misaligned (hpc : s.pc.toNat % 4 ≠ 0) : fetchDecode s = .error (.adEL s.pc) := by
  rw [fetchDecode, if_neg fun h => hpc ((low_bits_zero_iff _).mp h)]

/-- A step of a core that may run, once its inputs are sampled (R563). -/
theorem step_of_ready (h : (samplePins s).Ready) : step s = thenTick (fetchExecute (samplePins s)) := by
  obtain ⟨hreset, hstop, hrun, hmode⟩ := h
  simp only [step, stepNow, hreset, hstop, hrun, hmode, Bool.false_eq_true, if_false, ne_eq, not_true_eq_false]

/-- A step that executes an instruction. -/
theorem step_of_exec {i : Instr} {t : State} (h : (samplePins s).Ready) (hf : fetchDecode (samplePins s) = .ok i)
    (he : exec i (samplePins s) = .next t) : step s = .next (tick t) := by
  rw [step_of_ready h, fetchExecute, hf]
  dsimp only
  rw [he]
  rfl

/-- A step that traps at the fetch. -/
theorem step_of_fetchTrap {e : Exc} (h : (samplePins s).Ready) (hf : fetchDecode (samplePins s) = .error e) :
    step s = .next (tick (takeException e (samplePins s))) := by
  rw [step_of_ready h, fetchExecute, hf]
  rfl

/-- Settles O4. -/
theorem stepRunsDecoded : Obligations.StepRunsDecoded :=
  fun _ _ _ hready hpc hdecode hexec => step_of_exec hready (fetchDecode_ok hpc hdecode) hexec

/-- Settles O5: the two errors of the fetch. -/
theorem fetchTraps : Obligations.FetchTraps := by
  intro s r u hready
  refine ⟨fun hpc => ⟨step_of_fetchTrap hready (fetchDecode_misaligned hpc), rfl, fun hexl => ?_⟩,
    fun hpc hdecode => step_of_fetchTrap hready (fetchDecode_reserved hpc hdecode)⟩
  simp only [takeException_epc, hexl, Bool.false_eq_true, if_false]

/-- Settles O6: the three gates in front of the fetch. -/
theorem runControl : Obligations.RunControl := by
  intro s u
  refine ⟨fun hreset => ⟨resetCore u, ?_, ?_⟩, fun hreset hrun => ?_, fun hreset hrun hstop => ?_⟩
  · simp only [step, stepNow, u, hreset, if_true]
  · have hcfg : u.cfg = s.cfg := samplePins_cfg s
    exact ⟨congrArg Config.resetVector hcfg, rfl, rfl, rfl, rfl, rfl, rfl, rfl, congrArg Config.bigEndian hcfg, rfl,
      resetWith_tagAt u.cfg, samplePins_mem s, hcfg⟩
  · simp only [step, stepNow, u, hreset, hrun, Bool.false_eq_true, if_false, ne_eq, not_false_eq_true, if_true]
  · simp only [step, stepNow, u, hreset, hrun, hstop, Bool.false_eq_true, if_false, ne_eq, not_true_eq_false, if_true]

/-! ### Traps and system instructions -/

/-- Setting EXL changes no other bit of Status (R510). -/
theorem getLsbD_or_two (w : BitVec 32) (k : Nat) : (w ||| 2#32).getLsbD k = (k == 1 || w.getLsbD k) := by
  have h2 : (2#32).getLsbD k = (k == 1) := by
    rw [show (2#32) = BitVec.twoPow 32 1 from rfl, BitVec.getLsbD_twoPow]
    simp [eq_comm, Bool.beq_eq_decide_eq]
  rw [BitVec.getLsbD_or, h2, Bool.or_comm]

/-- Clearing EXL changes no other bit of Status (R512). -/
theorem getLsbD_and_not_two (w : BitVec 32) (k : Nat) : (w &&& ~~~2#32).getLsbD k = (k != 1 && w.getLsbD k) := by
  have h2 : (2#32).getLsbD k = (k == 1) := by
    rw [show (2#32) = BitVec.twoPow 32 1 from rfl, BitVec.getLsbD_twoPow]
    simp [eq_comm, Bool.beq_eq_decide_eq]
  rw [BitVec.getLsbD_and, BitVec.getLsbD_not, h2]
  by_cases hk : k < 32
  · simp only [hk, decide_true, Bool.true_and, Bool.and_comm, bne]
  · simp [BitVec.getLsbD_of_ge _ _ (Nat.le_of_not_lt hk)]

/-- Settles O11: trap entry field by field, and the return. -/
theorem trapEntry : Obligations.TrapEntry := by
  refine ⟨?_, fun s h => ⟨returnFromException s, ?_, ?_, fun k hk => ?_, rfl⟩⟩
  · intro e s t
    refine ⟨rfl, fun h => ?_, fun h => ?_, getLsbD_or_two s.status, takeException_kernelMode e s, ?_, rfl⟩
    · simp only [t, takeException_epc, h, Bool.false_eq_true, if_false]
    · simp only [t, takeException_epc, h, if_true]
    · cases e <;> exact ⟨rfl, rfl, rfl⟩
  · have husable : s.cp0Usable = true := by
      rw [cp0Usable_eq]
      rcases h with h | h | h <;> simp [h]
    show (withCp0 (fun s => .completes (returnFromException s)) s).commit s = _
    rw [withCp0_eq, if_pos husable]
    rfl
  · exact getLsbD_and_not_two s.status 1
  · rw [show (returnFromException s).status = s.status &&& ~~~2#32 from rfl, getLsbD_and_not_two, bne_iff_ne.mpr hk,
      Bool.true_and]

/-- Settles O12: the arms of the four instructions. -/
theorem systemInstructions : Obligations.SystemInstructions :=
  fun _ _ => ⟨rfl, rfl, rfl, rfl⟩

/-- Settles O25. -/
theorem generalRegisterFile : Obligations.GeneralRegisterFile := by
  intro s i j v
  refine ⟨rfl, rfl, fun hi => ?_, fun hj => ?_, ?_⟩
  · rw [State.readGpr_writeGpr, if_pos ⟨rfl, hi⟩]
  · rw [State.readGpr_writeGpr, if_neg fun h => hj h.1]
  · unfold State.writeGpr
    split <;> rfl

/-! ### The tick -/

/-- The interrupt condition, bit by bit (R521). -/
theorem interruptCondition_iff (t : State) :
    interruptCondition t = true ↔ t.status.getLsbD 0 = true ∧ t.status.getLsbD 1 = false ∧
      1 ≤ t.pins.intLevel.toNat ∧ t.status.getLsbD (8 + t.pins.intLevel.toNat) = true := by
  have hlevel : t.pins.intLevel ≠ 0#3 ↔ 1 ≤ t.pins.intLevel.toNat := by bv_omega
  have him : t.im t.pins.intLevel = t.status.getLsbD (8 + t.pins.intLevel.toNat) := by
    have := t.pins.intLevel.isLt
    simp only [State.im, BitVec.getLsbD_extractLsb', show t.pins.intLevel.toNat < 8 by omega, decide_true,
      Bool.true_and]
  simp only [interruptCondition, State.ie, State.exl, Bool.and_eq_true, Bool.not_eq_true', bne_iff_ne, hlevel, him,
    and_assoc]

/-- Serving the queue does not start a core that does not run (R59). -/
theorem drainPending_run (q : List Pending) (s : State) :
    (drainPending q s).run = s.run ∨ (drainPending q s).run = .checkStop := by
  induction q generalizing s with
  | nil => exact .inl rfl
  | cons e q ih =>
    unfold drainPending
    split
    · match h : applyPending e s with
      | some t =>
        have hrun : t.run = s.run := by rw [applyPending_frame h]
        exact hrun ▸ ih t
      | none => exact .inr rfl
    · exact .inl rfl

/-- Serving the queue does not start a core that does not run (R58). -/
theorem pendingTick_run (s : State) : (pendingTick s).run = s.run ∨ (pendingTick s).run = .checkStop := by
  have h := drainPending_run s.pq s
  unfold pendingTick
  dsimp only
  split <;> exact h

/-- Settles O13: the interrupt check of the tick, after the queue. -/
theorem interruptTaken : Obligations.InterruptTaken := by
  intro s t wanted
  have hwanted : interruptCondition t = true ↔ wanted := interruptCondition_iff t
  refine ⟨fun hs ht hw => ?_, fun hs hw => ?_, fun hs => ?_⟩
  · rw [tick, if_neg (by simp [hs])]
    exact if_pos ⟨ht, hwanted.mpr hw⟩
  · rw [tick, if_neg (by simp [hs])]
    exact if_neg fun h => hw (hwanted.mp h.2)
  · have hrun : t.run ≠ .running := by rcases pendingTick_run s with h | h <;> simp [t, h, hs]
    rw [tick, if_neg (by simp [hs])]
    exact if_neg fun h => hrun h.1

/-- Draining due entries applies them one after the other (R58). -/
theorem drainPending_eq_foldlM (q : List Pending) (s : State) (hq : ∀ e ∈ q, e.legal = true) :
    ∃ t, q.foldlM (fun u e => applyPending e u) s = some t ∧ drainPending q s = { t with pq := [] } := by
  induction q generalizing s with
  | nil => exact ⟨s, rfl, rfl⟩
  | cons e q ih =>
    obtain ⟨u, hu⟩ := applyPending_of_legal s (hq e (by simp))
    have hdue : e.remaining = 0 := by
      have hlegal := hq e (by simp)
      simp only [Pending.legal, Bool.and_eq_true, beq_iff_eq] at hlegal
      exact hlegal.1
    obtain ⟨t, hfold, hdrain⟩ := ih u fun x hx => hq x (by simp [hx])
    refine ⟨t, ?_, ?_⟩
    · rw [List.foldlM_cons, hu]
      exact hfold
    · rw [drainPending, if_pos hdue, hu]
      exact hdrain

/-- Settles O41: on a queue of due entries the tick is the drain of all of them. -/
theorem pendingTick_applies : Obligations.PendingTick := by
  intro s ⟨_, hq⟩ hrun
  rw [pendingTick_legal s hq hrun]
  refine ⟨drainPending_eq_foldlM s.pq s hq, fun i hi => drainPending_readGpr s.pq s hq i hi, fun es hes => ?_⟩
  rw [pendingTick_append s es hq (fun e he => by rw [hes e he]; decide) hrun]
  have hage : es.map Pending.age = es.map fun e => { e with remaining := 0 } :=
    List.map_congr_left fun e he => by rw [Pending.age, hes e he]
  rw [hage]

end Sys2Proof.Machine

/-! The integer unit, the shifts, the jumps and the branches (40_alu_unit.md R143, R148, R149; 41_integer.md;
42_control_transfer.md). The results of the ALU unit and of the shifter are told as integers, once for every width;
each instruction is then its arm with those facts. -/

namespace Sys2Proof.Machine

/-! ### The ALU unit -/

section AluFacts

variable {n : Nat} (a b : BitVec n)

/-- The sum in the accumulator, signed (R144). -/
theorem Alu.add_acc : ((Alu.begin a).addWithCarryIn b false).acc = BitVec.ofInt n (a.toInt + b.toInt) := by
  have hacc : ((Alu.begin a).addWithCarryIn b false).acc = a + b :=
    BitVec.eq_of_toNat_eq (by rw [Alu.addWithCarryIn_acc_toNat, BitVec.toNat_add]; rfl)
  rw [hacc, BitVec.ofInt_add, BitVec.ofInt_toInt, BitVec.ofInt_toInt]

/-- The overflow of the sum, signed (R144). -/
theorem Alu.add_v_iff (hn : 0 < n) :
    ((Alu.begin a).addWithCarryIn b false).v = true ↔ ¬ fitsSigned n (a.toInt + b.toInt) := by
  simpa using (Alu.begin a).addWithCarryIn_v_iff_not_fitsSigned b hn false

/-- Wrapping a difference. -/
theorem ofInt_sub (x y : Int) : BitVec.ofInt n (x - y) = BitVec.ofInt n x - BitVec.ofInt n y := by
  rw [Int.sub_eq_add_neg, BitVec.ofInt_add, BitVec.ofInt_neg, BitVec.sub_eq_add_neg]

/-- The difference in the accumulator (R145). -/
theorem Alu.sub_acc_eq_sub : ((Alu.begin a).subtractViaNegatedAdd b false).acc = a - b := by
  rw [Alu.subtractViaNegatedAdd_acc, Alu.begin_acc, Bool.toNat_false, Nat.cast_zero, sub_zero, ofInt_sub,
    BitVec.ofInt_natCast, BitVec.ofInt_natCast, BitVec.ofNat_toNat, BitVec.ofNat_toNat, BitVec.setWidth_eq,
    BitVec.setWidth_eq]

/-- The difference in the accumulator, signed (R145). -/
theorem Alu.sub_acc : ((Alu.begin a).subtractViaNegatedAdd b false).acc = BitVec.ofInt n (a.toInt - b.toInt) := by
  rw [Alu.sub_acc_eq_sub, ofInt_sub, BitVec.ofInt_toInt, BitVec.ofInt_toInt]

/-- The overflow of the difference, signed (R145). -/
theorem Alu.sub_v_iff (hn : 0 < n) :
    ((Alu.begin a).subtractViaNegatedAdd b false).v = true ↔ ¬ fitsSigned n (a.toInt - b.toInt) := by
  simpa using (Alu.begin a).subtractViaNegatedAdd_v_iff_not_fitsSigned b hn false

/-- The only number whose negation does not fit is the least (R148). -/
theorem neg_not_fitsSigned_iff (hn : 0 < n) : ¬ fitsSigned n (0 - a.toInt) ↔ a = BitVec.intMin n := by
  have hrange : -((2 ^ n : Nat) : Int) ≤ 2 * a.toInt ∧ 2 * a.toInt < (2 ^ n : Nat) :=
    (fitsSigned_iff_two_mul hn a.toInt).mp ⟨a.le_toInt, a.toInt_lt⟩
  have hmin : 2 * (BitVec.intMin n).toInt = -((2 ^ n : Nat) : Int) := by
    obtain ⟨m, rfl⟩ := Nat.exists_add_one_eq.mpr hn
    rw [BitVec.toInt_intMin_of_pos hn, Nat.add_sub_cancel, Nat.pow_succ]
    push_cast
    ring
  rw [fitsSigned_iff_two_mul hn, ← BitVec.toInt_inj]
  omega

end AluFacts

/-- Settles O24: both negations are subtractions from 0. -/
theorem aluNegateAndLogic : Obligations.AluNegateAndLogic := by
  intro n u b hn
  have hacc : u.negateViaAdd.acc = -u.acc := by rw [Alu.negateViaAdd, Alu.sub_acc_eq_sub, BitVec.zero_sub]
  have hv : u.negateViaAdd.v = true ↔ u.acc = BitVec.intMin n := by
    rw [Alu.negateViaAdd, Alu.sub_v_iff _ _ hn, BitVec.toInt_zero, neg_not_fitsSigned_iff _ hn]
  have hc : u.negateViaAdd.c = true ↔ u.acc = 0#n := by
    rw [Alu.negateViaAdd, Alu.subtractViaNegatedAdd_c_iff, ← BitVec.toNat_inj]
    simp
  have hdirect : u.negateDirect.acc = u.negateViaAdd.acc ∧ u.negateDirect.v = u.negateViaAdd.v ∧
      u.negateDirect.c = !u.negateViaAdd.c :=
    ⟨Alu.subtractDirect_acc_eq .., Alu.subtractDirect_v_eq _ _ hn _, Alu.subtractDirect_c_eq_not ..⟩
  obtain ⟨hacc', hv', hc'⟩ := hdirect
  refine ⟨hacc, hacc'.trans hacc, hv, hv' ▸ hv, hc, ?_, rfl, rfl, rfl, rfl, rfl⟩
  rw [hc', Bool.not_eq_true', ← Bool.not_eq_true, hc]

/-! ### Add and subtract -/

/-- A number that fits is not changed by wrapping and extending it. -/
theorem signExtend_ofInt_of_fits {w : Nat} (hw : 0 < w) {x : Int} (h : fitsSigned w x) :
    (BitVec.ofInt w x).signExtend 64 = BitVec.ofInt 64 x := by
  obtain ⟨hlow, hhigh⟩ := (fitsSigned_iff_two_mul hw x).mp h
  rw [BitVec.signExtend, BitVec.toInt_ofInt, Int.bmod_eq_of_le_mul_two] <;> omega

/-- A trapping operation writes the exact result where it fits, and traps otherwise (R160). -/
theorem trapOrWrite_spec {w : Nat} (hw : 0 < w) (d : GprNo) {v : Bool} {acc : BitVec w} {x : Int} (s : State)
    (hv : v = true ↔ ¬ fitsSigned w x) (hacc : acc = BitVec.ofInt w x) :
    (fitsSigned w x →
      (trapOrWrite d v (acc.signExtend 64) s).commit s = .next (s.writeGpr d (BitVec.ofInt 64 x)).advance) ∧
    (¬ fitsSigned w x → (trapOrWrite d v (acc.signExtend 64) s).commit s = .next (takeException .ov s)) := by
  rw [trapOrWrite_commit]
  refine ⟨fun hfits => ?_, fun hnot => ?_⟩
  · rw [if_neg fun h => hv.mp h hfits, hacc, signExtend_ofInt_of_fits hw hfits]
  · rw [if_pos (hv.mpr hnot)]

/-- The 64-bit form of the trapping group, which extends nothing (R165). -/
theorem trapOrWrite64_spec (d : GprNo) {v : Bool} {acc : Word} {x : Int} (s : State)
    (hv : v = true ↔ ¬ fitsSigned 64 x) (hacc : acc = BitVec.ofInt 64 x) :
    (fitsSigned 64 x → (trapOrWrite d v acc s).commit s = .next (s.writeGpr d (BitVec.ofInt 64 x)).advance) ∧
    (¬ fitsSigned 64 x → (trapOrWrite d v acc s).commit s = .next (takeException .ov s)) := by
  simpa only [BitVec.signExtend_eq] using trapOrWrite_spec (by decide) d s hv hacc

/-- An immediate keeps its value when it is extended (R113). -/
theorem toInt_signExtend_imm (imm : BitVec 16) {w : Nat} (hw : 16 ≤ w) : (imm.signExtend w).toInt = imm.toInt :=
  BitVec.toInt_signExtend_of_le hw

/-- Settles O26: the sum or difference of the ALU unit, and its overflow. -/
theorem addSubtract : Obligations.AddSubtract := by
  intro rd rs rt imm s a32 b32 a b k wraps traps
  have h32 : (imm.signExtend 32).toInt = k := toInt_signExtend_imm imm (by decide)
  have h64 : (signExt16 imm).toInt = k := toInt_signExtend_imm imm (by decide)
  have wrapped {w : Nat} {acc : BitVec w} {x : Int} (d : GprNo) (h : acc = BitVec.ofInt w x) :
      (writeAndAdvance d (acc.signExtend 64) s).commit s =
        .next (s.writeGpr d ((BitVec.ofInt w x).signExtend 64)).advance := by rw [h, writeAndAdvance_commit]
  have wrapped64 {acc : Word} {x : Int} (d : GprNo) (h : acc = BitVec.ofInt 64 x) :
      (writeAndAdvance d acc s).commit s = .next (s.writeGpr d ((BitVec.ofInt 64 x).signExtend 64)).advance := by
    simpa only [BitVec.signExtend_eq] using wrapped d h
  refine ⟨wrapped rd (Alu.add_acc ..), wrapped rd (Alu.sub_acc ..), ?_, wrapped64 rd (Alu.add_acc ..),
    wrapped64 rd (Alu.sub_acc ..), ?_, trapOrWrite_spec (by decide) rd s (Alu.add_v_iff _ _ (by decide)) (Alu.add_acc ..),
    trapOrWrite_spec (by decide) rd s (Alu.sub_v_iff _ _ (by decide)) (Alu.sub_acc ..), ?_,
    trapOrWrite64_spec rd s (Alu.add_v_iff _ _ (by decide)) (Alu.add_acc ..),
    trapOrWrite64_spec rd s (Alu.sub_v_iff _ _ (by decide)) (Alu.sub_acc ..), ?_⟩
  · exact h32 ▸ wrapped rt (Alu.add_acc ..)
  · exact h64 ▸ wrapped64 rt (Alu.add_acc ..)
  · exact h32 ▸ trapOrWrite_spec (by decide) rt s (Alu.add_v_iff _ _ (by decide)) (Alu.add_acc ..)
  · exact h64 ▸ trapOrWrite64_spec rt s (Alu.add_v_iff _ _ (by decide)) (Alu.add_acc ..)

/-! ### Set on less than, logic -/

/-- A truth value as a register holds it. -/
theorem setWidth_ofBool (p : Prop) [Decidable p] :
    (BitVec.ofBool (decide p)).setWidth 64 = if p then 1#64 else 0#64 := by
  by_cases h : p <;> simp [h]

/-- The sign of the difference, corrected by its overflow, is the signed order (R173). -/
theorem lessSigned_eq (a b : Word) : lessSigned a b = if a.toInt < b.toInt then 1#64 else 0#64 := by
  have hv := Alu.sub_v_iff a b (by decide)
  rw [← Alu.subtractDirect_v_eq _ _ (by decide)] at hv
  have hacc : ((Alu.begin a).subtractDirect b false).acc.toInt = (a.toInt - b.toInt).bmod (2 ^ 64) := by
    rw [Alu.subtractDirect_acc_eq, Alu.sub_acc, BitVec.toInt_ofInt]
  have ha := a.le_toInt
  have ha' := a.toInt_lt
  have hb := b.le_toInt
  have hb' := b.toInt_lt
  have hbmod := Int.bmod_def (a.toInt - b.toInt) (2 ^ 64)
  have hless : (((Alu.begin a).subtractDirect b false).acc.msb ^^ ((Alu.begin a).subtractDirect b false).v) =
      decide (a.toInt < b.toInt) := by
    rw [BitVec.msb_eq_toInt, hacc, hbmod]
    cases hflag : ((Alu.begin a).subtractDirect b false).v <;>
      simp only [hflag, Bool.false_eq_true, false_iff, true_iff, not_not, fitsSigned] at hv <;>
      simp only [Bool.xor_false, Bool.xor_true, ← decide_not, decide_eq_decide] <;> split <;> omega
  rw [lessSigned, hless, setWidth_ofBool]

/-- The borrow of the difference is the unsigned order (R174). -/
theorem lessUnsigned_eq (a b : Word) : lessUnsigned a b = if a.toNat < b.toNat then 1#64 else 0#64 := by
  have hless : ((Alu.begin a).subtractDirect b false).c = decide (a.toNat < b.toNat) := by
    rw [Bool.eq_iff_iff, Alu.subtractDirect_c_iff, decide_eq_true_iff, Alu.begin_acc, Bool.toNat_false]
    omega
  rw [lessUnsigned, hless, setWidth_ofBool]

/-- A field with zeros behind it, extended, is a multiple (R184, R220). -/
theorem signExtend_append_zero {m : Nat} (imm : BitVec 16) :
    (imm ++ 0#m).signExtend 64 = BitVec.ofInt 64 (imm.toInt * 2 ^ m) := by
  have htoInt : (imm ++ 0#m).toInt = imm.toInt * 2 ^ m := by
    have hlt : (imm.toNat : Int) < 2 ^ 16 := by exact_mod_cast imm.isLt
    have hpos : (0 : Int) < 2 ^ m := by positivity
    have hbound : 2 * (imm.toNat * 2 ^ m) < 2 ^ (16 + m) ↔ 2 * imm.toNat < 2 ^ 16 := by
      rw [Nat.pow_add, ← Nat.mul_assoc]
      exact Nat.mul_lt_mul_right (Nat.two_pow_pos m)
    rw [BitVec.toInt_eq_toNat_cond, BitVec.toInt_eq_toNat_cond, toNat_append_eq, BitVec.toNat_ofNat, Nat.zero_mod,
      Nat.add_zero]
    by_cases h : 2 * imm.toNat < 2 ^ 16
    · rw [if_pos (hbound.mpr h), if_pos h]
      push_cast
      rfl
    · rw [if_neg (mt hbound.mp h), if_neg h, Nat.pow_add]
      push_cast
      ring
  rw [BitVec.signExtend, htoInt]

/-- Settles O27. -/
theorem logicAndSetOnLessThan : Obligations.LogicAndSetOnLessThan := by
  intro rd rs rt imm s x y sx zx writes
  have written {v v' : Word} (d : GprNo) (h : v = v') :
      (writeAndAdvance d v s).commit s = .next (s.writeGpr d v').advance := by rw [h, writeAndAdvance_commit]
  exact ⟨written rd (lessSigned_eq ..), written rd (lessUnsigned_eq ..), written rt (lessSigned_eq ..),
    written rt (lessUnsigned_eq ..), rfl, rfl, rfl, rfl, rfl, rfl, rfl, written rt (signExtend_append_zero imm)⟩

/-! ### Shifts -/

section ShiftFacts

variable {w : Nat} (x : BitVec w) (n : Nat)

/-- A left shift multiplies (R185). -/
theorem shiftLeft_eq_ofNat : x <<< n = BitVec.ofNat w (x.toNat * 2 ^ n) :=
  BitVec.eq_of_toNat_eq (by rw [BitVec.toNat_shiftLeft, Nat.shiftLeft_eq, BitVec.toNat_ofNat])

/-- A logical right shift divides the unsigned number (R186). -/
theorem ushiftRight_eq_ofNat : x >>> n = BitVec.ofNat w (x.toNat / 2 ^ n) := by
  rw [← Nat.shiftRight_eq_div_pow, ← BitVec.toNat_ushiftRight, BitVec.ofNat_toNat, BitVec.setWidth_eq]

/-- An arithmetic right shift divides the signed number (R187). -/
theorem sshiftRight_eq_ofInt : x.sshiftRight n = BitVec.ofInt w (x.toInt / 2 ^ n) := by
  rw [← BitVec.ofInt_toInt (x := x.sshiftRight n), BitVec.toInt_sshiftRight, Int.shiftRight_eq_div_pow]
  norm_cast

end ShiftFacts

/-- The amount of a variable 32-bit shift (R188). -/
theorem shiftAmount5_eq (s : State) (rs : GprNo) : s.shiftAmount5 rs = (s.readGpr rs).toNat % 32 := by
  rw [State.shiftAmount5, extractLsb'_toNat_div]
  norm_num

/-- The amount of a variable 64-bit shift (R197). -/
theorem shiftAmount6_eq (s : State) (rs : GprNo) : s.shiftAmount6 rs = (s.readGpr rs).toNat % 64 := by
  rw [State.shiftAmount6, extractLsb'_toNat_div]
  norm_num

/-- Settles O28. -/
theorem shifts : Obligations.Shifts := by
  intro rd rt rs sa s w x n5 n6 word double
  have words {v v' : BitVec 32} (h : v = v') :
      (writeAndAdvance rd (signExt32 v) s).commit s = .next (s.writeGpr rd (v'.signExtend 64)).advance := by
    rw [h, writeAndAdvance_commit, signExt32]
  have doubles {v v' : Word} (h : v = v') :
      (writeAndAdvance rd v s).commit s = .next (s.writeGpr rd v').advance := by rw [h, writeAndAdvance_commit]
  have h5 : s.shiftAmount5 rs = n5 := shiftAmount5_eq s rs
  have h6 : s.shiftAmount6 rs = n6 := shiftAmount6_eq s rs
  exact ⟨words (shiftLeft_eq_ofNat ..), words (ushiftRight_eq_ofNat ..), words (sshiftRight_eq_ofInt ..),
    h5 ▸ words (shiftLeft_eq_ofNat ..), h5 ▸ words (ushiftRight_eq_ofNat ..), h5 ▸ words (sshiftRight_eq_ofInt ..),
    doubles (shiftLeft_eq_ofNat ..), doubles (ushiftRight_eq_ofNat ..), doubles (sshiftRight_eq_ofInt ..),
    doubles (shiftLeft_eq_ofNat ..), doubles (ushiftRight_eq_ofNat ..), doubles (sshiftRight_eq_ofInt ..),
    h6 ▸ doubles (shiftLeft_eq_ofNat ..), h6 ▸ doubles (ushiftRight_eq_ofNat ..),
    h6 ▸ doubles (sshiftRight_eq_ofInt ..)⟩

/-! ### Jumps and branches -/

/-- The target of J and JAL as a number (R222). -/
theorem jumpTarget_eq (s : State) (index : BitVec 26) :
    s.jumpTarget index = BitVec.ofNat 64 ((s.pc + 4#64).toNat / 2 ^ 28 * 2 ^ 28 + index.toNat * 4) := by
  have hpc := (s.pc + 4#64).isLt
  have hindex := index.isLt
  apply BitVec.eq_of_toNat_eq
  simp only [State.jumpTarget, State.nextPc, toNat_append_eq, extractLsb'_toNat_div, BitVec.toNat_ofNat, Nat.reducePow]
  omega

/-- Settles O29. -/
theorem jumps : Obligations.Jumps := by
  intro rd rs index s next target
  have htarget : s.jumpTarget index = target := jumpTarget_eq s index
  exact ⟨htarget ▸ rfl, htarget ▸ rfl, rfl, rfl⟩

/-- The bit of a condition code (R47). -/
theorem fccBit_toNat (cc : BitVec 3) : (fccBit cc).toNat = codeBit cc.toNat := by
  revert cc
  decide

/-- A branch, with its target as a number (R220). -/
theorem branchIf_goes {b c : Bool} (imm : BitVec 16) (s : State) (h : b = c) :
    (branchIf b imm s).commit s = .next { s with
      pc := if c then s.pc + 4#64 + BitVec.ofInt 64 (4 * imm.toInt) else s.pc + 4#64 } := by
  have htarget : s.branchTarget imm = s.pc + 4#64 + BitVec.ofInt 64 (4 * imm.toInt) := by
    rw [State.branchTarget, signExtend_append_zero, Int.mul_comm]
    rfl
  rw [branchIf_commit, htarget, h]
  rfl

/-- An FPU branch that may run is a branch on its condition code (R372, R373). -/
theorem fpuBranchIf_usable {s : State} (cc : BitVec 3) (wanted : Bool) (imm : BitVec 16) (hcu1 : s.cu1 = true) :
    (fpuBranchIf cc wanted imm s).commit s =
      (branchIf (s.fcsr.getLsbD (codeBit cc.toNat) == wanted) imm s).commit s := by
  rw [fpuBranchIf_commit, if_pos hcu1, branchIf_commit, State.fcc, fccBit_toNat]

/-- Settles O30. -/
theorem branches : Obligations.Branches := by
  intro rs rt cc imm s x y code goes
  have hsign : x.msb = decide (x.toInt < 0) := BitVec.msb_eq_toInt
  refine ⟨branchIf_goes imm s (Bool.beq_eq_decide_eq ..), branchIf_goes imm s ?_, branchIf_goes imm s rfl,
    branchIf_goes imm s rfl, branchIf_goes imm s hsign, branchIf_goes imm s ?_, fun hcu1 => ⟨?_, ?_⟩⟩
  · rw [bne, Bool.beq_eq_decide_eq, ← decide_not]
  · show (!x.msb) = _
    rw [hsign, ← decide_not, decide_eq_decide, not_lt]
  · exact (fpuBranchIf_usable cc false imm hcu1).trans (branchIf_goes imm s (beq_false _))
  · exact (fpuBranchIf_usable cc true imm hcu1).trans (branchIf_goes imm s (beq_true _))

end Sys2Proof.Machine

/-! The loads and stores (43_load_store.md; 20_memory.md R77, R78, R96-R99). What each shared operation does is an
equation per outcome; the value a load delivers and the value a merge makes are numbers; each instruction is then its
arm with those. -/

namespace Sys2Proof.Machine

variable {s : State} {rt base : GprNo} {imm : BitVec 16}

/-! ### Values -/

/-- A load of `n` bytes is below `256^n` (R84). -/
theorem loaded_lt (s : State) (va : Word) (n : Nat) : (s.loaded va n).toNat < 2 ^ (8 * n) := by
  rw [State.loaded, valueOfBytes_toNat, Nat.pow_mul]
  refine (Nat.mod_le _ _).trans_lt ((Nat.ofDigits_lt_base_pow_length (by decide) ?_).trans_eq ?_)
  · simp only [List.mem_map]
    rintro _ ⟨b, -, rfl⟩
    exact b.isLt
  · rw [List.length_map]
    congr 1
    split <;> simp

/-- How a load of the table extends its value. -/
def loadExt (signed : Bool) : LoadExt := if signed then .signed else .zero

/-- The value an aligned load delivers (R242-R248). -/
theorem extendLoaded_loaded (signed : Bool) (n : Nat) (s : State) (va : Word) :
    extendLoaded (loadExt signed) n (s.loaded va n) = extended signed n (s.loaded va n) := by
  cases signed
  · have hlt := loaded_lt s va n
    show ((s.loaded va n).setWidth (8 * n)).setWidth 64 = s.loaded va n
    apply BitVec.eq_of_toNat_eq
    rw [BitVec.toNat_setWidth, BitVec.toNat_setWidth, Nat.mod_eq_of_lt hlt, Nat.mod_eq_of_lt (BitVec.isLt _)]
  · show ((s.loaded va n).setWidth (8 * n)).signExtend 64 = _
    rw [BitVec.signExtend, BitVec.toInt_setWidth]
    rfl

/-- The high bytes replaced, as a number (R257). -/
theorem mergeHigh_eq {w : Nat} (old m : BitVec w) {n : Nat} (hw : w = 8 * (w / 8)) :
    mergeHigh old m n = BitVec.ofNat w (mergedLeft w n old.toNat m.toNat) := by
  have hkeep : w - 8 * n = 8 * (w / 8 - n) := by omega
  have hmask : old.toNat % 2 ^ (w - 8 * n) < 2 ^ (w - 8 * n) := Nat.mod_lt _ (Nat.two_pow_pos _)
  apply BitVec.eq_of_getLsbD_eq
  intro i hi
  rw [mergedLeft, ← Nat.shiftLeft_eq, Nat.shiftLeft_add_eq_or_of_lt hmask, hkeep]
  simp only [mergeHigh, lowMask, BitVec.getLsbD_or, BitVec.getLsbD_shiftLeft, BitVec.getLsbD_and, BitVec.getLsbD_ofNat,
    Nat.testBit_or, Nat.testBit_shiftLeft, Nat.testBit_mod_two_pow, Nat.testBit_two_pow_sub_one, hi, decide_true,
    Bool.true_and, BitVec.testBit_toNat]
  by_cases hlow : i < 8 * (w / 8 - n)
  · simp [hlow, Nat.not_le.mpr hlow]
  · simp [hlow, Nat.le_of_not_lt hlow]

/-- The low bytes replaced, as a number (R258). -/
theorem mergeLow_eq {w : Nat} (old m : BitVec w) {n : Nat} (hm : m.toNat < 2 ^ (8 * n)) :
    mergeLow old m n = BitVec.ofNat w (mergedRight n old.toNat m.toNat) := by
  have hbit (i : Nat) (h : 8 * n ≤ i) : m.getLsbD i = false :=
    Nat.testBit_eq_false_of_lt (hm.trans_le (Nat.pow_le_pow_right (by decide) h))
  apply BitVec.eq_of_getLsbD_eq
  intro i hi
  rw [mergedRight, ← Nat.shiftRight_eq_div_pow, ← Nat.shiftLeft_eq, Nat.shiftLeft_add_eq_or_of_lt hm]
  simp only [mergeLow, lowMask, BitVec.getLsbD_or, BitVec.getLsbD_and, BitVec.getLsbD_not, BitVec.getLsbD_ofNat,
    Nat.testBit_or, Nat.testBit_shiftLeft, Nat.testBit_shiftRight, Nat.testBit_two_pow_sub_one, hi, decide_true,
    Bool.true_and, BitVec.testBit_toNat]
  by_cases hlow : i < 8 * n
  · simp [hlow, Nat.not_le.mpr hlow]
  · have hge := Nat.le_of_not_lt hlow
    simp [hlow, hge, hbit i hge]

/-- The low word of a register, as a number (R200). -/
theorem extract_low_toNat (x : Word) : (x.extractLsb' 0 32).toNat = x.toNat % 2 ^ 32 := by
  rw [extractLsb'_toNat_div, Nat.pow_zero, Nat.div_one]

/-! ### The shared operations, outcome by outcome -/

section Outcomes

variable {dest : PendDest} {n : Nat} {ext : LoadExt} {va : Word}

/-- The length of an aligned access (R77). -/
abbrev AccessLength (n : Nat) : Prop := n = 1 ∨ n = 2 ∨ n = 4 ∨ n = 8

/-- There is room: the entry is appended (R57). -/
theorem sched_room (hroom : s.Room) (v : Word) (bit : Option (BitVec 5)) :
    s.sched dest v bit = .completes { s with pq := s.pq ++ [{ dest, value := v, remaining := 1, bit }] } := if_pos hroom

/-- There is none: the core stops (R57). -/
theorem sched_full (hfull : s.cfg.pendingCapacity ≤ s.pq.length) (v : Word) (bit : Option (BitVec 5)) :
    s.sched dest v bit = .checkStops := if_neg (Nat.not_lt.mpr hfull)

/-- An aligned load schedules what it reads (R241). -/
theorem loadTo_aligned (hn : AccessLength n) (ha : va.toNat % n = 0) :
    loadTo dest n ext va s = s.sched dest (extendLoaded ext n (s.loaded va n)) none := by
  rcases loadTo_cases dest n ext va s hn with ⟨_, h⟩ | ⟨hmis, _⟩
  · exact h
  · exact absurd ha hmis

/-- A misaligned load raises the address error (R78). -/
theorem loadTo_misaligned (hn : AccessLength n) (ha : va.toNat % n ≠ 0) :
    loadTo dest n ext va s = .raises (.adEL va) s := by
  rcases loadTo_cases dest n ext va s hn with ⟨hal, _⟩ | ⟨_, h⟩
  · exact absurd hal ha
  · exact h

/-- An aligned load with room completes (R241). -/
theorem load_room (hn : AccessLength n) (ha : va.toNat % n = 0) (hroom : s.Room) :
    (loadTo dest n ext va s).thenAdvance.commit s =
      .next (s.scheduled dest (extendLoaded ext n (s.loaded va n))) := by
  rw [loadTo_aligned hn ha, sched_room hroom]
  rfl

/-- An aligned load without room stops the core (R57). -/
theorem load_full (hn : AccessLength n) (ha : va.toNat % n = 0) (hfull : s.cfg.pendingCapacity ≤ s.pq.length) :
    (loadTo dest n ext va s).thenAdvance.commit s = .next { s with run := .checkStop } := by
  rw [loadTo_aligned hn ha, sched_full hfull]
  rfl

/-- A misaligned load traps (R78). -/
theorem load_misaligned (hn : AccessLength n) (ha : va.toNat % n ≠ 0) :
    (loadTo dest n ext va s).thenAdvance.commit s = .next (takeException (.adEL va) s) := by
  rw [loadTo_misaligned hn ha]
  rfl

/-- An aligned load for a register of the table, with its value (R242-R248). -/
theorem load_extended (signed : Bool) (hn : AccessLength n) (ha : va.toNat % n = 0) (hroom : s.Room) :
    (loadTo dest n (loadExt signed) va s).thenAdvance.commit s =
      .next (s.scheduled dest (extended signed n (s.loaded va n))) := by
  rw [load_room hn ha hroom, extendLoaded_loaded signed n]

/-- A linked load with room (R96, R253, R254). -/
theorem loadLinked_room (hn : AccessLength n) (ha : (s.va base imm).toNat % n = 0) (hroom : s.Room) :
    (loadLinked n .signed rt base imm s).commit s =
      .next { s.scheduled (.gpr rt) (extended true n (s.loaded (s.va base imm) n)) with
        llBit := true, llAddr := s.va base imm } := by
  obtain ⟨t, ht⟩ := (loadLinked n .signed rt base imm s).commit_next s
  rcases loadLinked_cases hn ht with ⟨_, _, h⟩ | ⟨_, hfull, _⟩ | ⟨hmis, _⟩
  · rw [ht, h, show LoadExt.signed = loadExt true from rfl, extendLoaded_loaded true n]
    rfl
  · exact absurd hroom (Nat.not_lt.mpr hfull)
  · exact absurd ha hmis

/-- A misaligned linked load traps (R78). -/
theorem loadLinked_misaligned (hn : AccessLength n) (ha : (s.va base imm).toNat % n ≠ 0) :
    (loadLinked n ext rt base imm s).commit s = .next (takeException (.adEL (s.va base imm)) s) := by
  obtain ⟨t, ht⟩ := (loadLinked n ext rt base imm s).commit_next s
  rcases loadLinked_cases hn ht with ⟨hal, _⟩ | ⟨hal, _⟩ | ⟨_, h⟩
  · exact absurd hal ha
  · exact absurd hal ha
  · rw [ht, h]
    rfl

/-- A store leaves the PC to the instruction (R85). -/
theorem memWrite_advance {t : State} {v : Word} (h : memWrite s va n v = .ok t) :
    t.advance = { t with pc := s.pc + 4#64 } := by
  obtain ⟨m, rfl⟩ := memWrite_ok_eq h
  rfl

/-- An aligned store completes (R241). -/
theorem store_aligned (hn : AccessLength n) (ha : va.toNat % n = 0) (v : Word) :
    ∃ t, memWrite s va n v = .ok t ∧ (storeAt n va v s).thenAdvance.commit s = .next { t with pc := s.pc + 4#64 } := by
  rcases storeAt_cases n va v s hn with ⟨_, u, hw, h⟩ | ⟨hmis, _⟩
  · exact ⟨u, hw, by rw [h, ← memWrite_advance hw]; rfl⟩
  · exact absurd ha hmis

/-- A misaligned store traps (R78). -/
theorem store_misaligned (hn : AccessLength n) (ha : va.toNat % n ≠ 0) (v : Word) :
    (storeAt n va v s).thenAdvance.commit s = .next (takeException (.adES va) s) := by
  rcases storeAt_cases n va v s hn with ⟨hal, _⟩ | ⟨_, h⟩
  · exact absurd hal ha
  · rw [h]
    rfl

/-- A conditional store that is not linked (R99). -/
theorem storeConditional_unlinked (hn : AccessLength n) (ha : (s.va base imm).toNat % n = 0)
    (hlink : s.llBit = false) :
    (storeConditional n rt base imm s).commit s = .next (s.writeGpr rt 0#64).advance := by
  obtain ⟨t, ht⟩ := (storeConditional n rt base imm s).commit_next s
  rcases storeConditional_cases hn ht with ⟨_, hset, _⟩ | ⟨_, _, h⟩ | ⟨hmis, _⟩
  · exact absurd (hlink.symm.trans hset) (by decide)
  · rw [ht, h]
  · exact absurd ha hmis

/-- A conditional store that is linked (R97). -/
theorem storeConditional_linked (hn : AccessLength n) (ha : (s.va base imm).toNat % n = 0) (hlink : s.llBit = true) :
    ∃ t, memWrite s (s.va base imm) n (s.readGpr rt) = .ok t ∧ (storeConditional n rt base imm s).commit s =
      .next (({ t with llBit := false } : State).writeGpr rt 1#64).advance := by
  obtain ⟨t, ht⟩ := (storeConditional n rt base imm s).commit_next s
  rcases storeConditional_cases hn ht with ⟨_, _, u, hw, h⟩ | ⟨_, hclear, _⟩ | ⟨hmis, _⟩
  · exact ⟨u, hw, by rw [ht, h]⟩
  · exact absurd (hlink.symm.trans hclear) (by decide)
  · exact absurd ha hmis

/-- A misaligned conditional store traps, linked or not (R78). -/
theorem storeConditional_misaligned (hn : AccessLength n) (ha : (s.va base imm).toNat % n ≠ 0) :
    (storeConditional n rt base imm s).commit s = .next (takeException (.adES (s.va base imm)) s) := by
  obtain ⟨t, ht⟩ := (storeConditional n rt base imm s).commit_next s
  rcases storeConditional_cases hn ht with ⟨hal, _⟩ | ⟨hal, _⟩ | ⟨_, h⟩
  · exact absurd hal ha
  · exact absurd hal ha
  · rw [ht, h]
    rfl

/-- A merge store completes (R261-R264). -/
theorem mergeStore_next {a : MergeAccess} {v : Word} (ha : insideDoubleword a.addr a.count = true) :
    ∃ t, memWrite s a.addr a.count v = .ok t ∧ (mergeStore a v s).commit s = .next { t with pc := s.pc + 4#64 } := by
  obtain ⟨t, ht⟩ := (mergeStore a v s).commit_next s
  obtain ⟨u, hw, h⟩ := mergeStore_cases ha ht
  exact ⟨u, hw, by rw [ht, h, ← memWrite_advance hw]⟩

/-- A merge load of a word with room (R257, R258). -/
theorem mergeLoadWord_room {a : MergeAccess} {merge : BitVec 32 → BitVec 32 → Nat → BitVec 32} (hroom : s.Room)
    (ha : insideDoubleword a.addr a.count = true) :
    (mergeLoadWord a merge rt s).commit s =
      .next (s.scheduled (.gpr rt) (signExt32 (merge ((s.pendingOrCurrent rt).extractLsb' 0 32)
        ((s.loaded a.addr a.count).extractLsb' 0 32) a.count))) := by
  obtain ⟨t, ht⟩ := (mergeLoadWord a merge rt s).commit_next s
  rcases mergeLoadWord_cases ha ht with ⟨_, h⟩ | ⟨hfull, _⟩
  · rw [ht, h]
  · exact absurd hroom (Nat.not_lt.mpr hfull)

/-- A merge load of a doubleword with room (R259, R260). -/
theorem mergeLoadDouble_room {a : MergeAccess} {merge : Word → Word → Nat → Word} (hroom : s.Room)
    (ha : insideDoubleword a.addr a.count = true) :
    (mergeLoadDouble a merge rt s).commit s =
      .next (s.scheduled (.gpr rt) (merge (s.pendingOrCurrent rt) (s.loaded a.addr a.count) a.count)) := by
  obtain ⟨t, ht⟩ := (mergeLoadDouble a merge rt s).commit_next s
  rcases mergeLoadDouble_cases ha ht with ⟨_, h⟩ | ⟨hfull, _⟩
  · rw [ht, h]
  · exact absurd hroom (Nat.not_lt.mpr hfull)

end Outcomes

/-! ### The tables -/

/-- Each aligned load is the load of its length and extension (R242-R248). -/
theorem loadTable_exec {p : (GprNo → GprNo → BitVec 16 → Instr) × Nat × Bool} (hp : p ∈ loadTable) :
    AccessLength p.2.1 ∧ ∀ (rt base : GprNo) (imm : BitVec 16) (s : State),
      exec (p.1 rt base imm) s = (loadTo (.gpr rt) p.2.1 (loadExt p.2.2) (s.va base imm) s).thenAdvance.commit s := by
  simp only [loadTable, List.mem_cons, List.not_mem_nil, or_false] at hp
  rcases hp with rfl | rfl | rfl | rfl | rfl | rfl | rfl <;> exact ⟨by decide, fun _ _ _ _ => rfl⟩

/-- Each aligned store is the store of its length (R249-R252). -/
theorem storeTable_exec {p : (GprNo → GprNo → BitVec 16 → Instr) × Nat} (hp : p ∈ storeTable) :
    AccessLength p.2 ∧ ∀ (rt base : GprNo) (imm : BitVec 16) (s : State),
      exec (p.1 rt base imm) s = (storeAt p.2 (s.va base imm) (s.readGpr rt) s).thenAdvance.commit s := by
  simp only [storeTable, List.mem_cons, List.not_mem_nil, or_false] at hp
  rcases hp with rfl | rfl | rfl | rfl <;> exact ⟨by decide, fun _ _ _ _ => rfl⟩

/-- Settles O35. -/
theorem alignedLoadsAndStores : Obligations.AlignedLoadsAndStores := by
  refine ⟨fun p hp rt base imm s ha hroom => ?_, fun p hp rt base imm s ha => ?_⟩
  · obtain ⟨hn, hexec⟩ := loadTable_exec hp
    rw [hexec]
    exact load_extended p.2.2 hn ha hroom
  · obtain ⟨hn, hexec⟩ := storeTable_exec hp
    rw [hexec]
    exact store_aligned hn ha (s.readGpr rt)

/-- A bit of a word with one bit replaced (R59). -/
theorem getLsbD_putBit {n : Nat} (w : BitVec n) (i : Nat) (b : Bool) (k : Nat) (hk : k < n) :
    (putBit w i b).getLsbD k = if k = i then b else w.getLsbD k := by
  have hone : (1#n <<< i).getLsbD k = decide (k = i) := by
    rw [← BitVec.twoPow_eq, BitVec.getLsbD_twoPow]
    by_cases h : i = k <;> simp [h, hk, eq_comm]
  unfold putBit
  split
  next hb =>
    simp only [BitVec.getLsbD_or, hone, hb]
    by_cases h : k = i <;> simp [h]
  next hb =>
    simp only [BitVec.getLsbD_and, BitVec.getLsbD_not, hone, hk, Bool.eq_false_iff.mpr hb]
    by_cases h : k = i <;> simp [h]

/-- Settles O42: one equation an entry; the last is a load without room. -/
theorem queueEntries_apply : Obligations.QueueEntries := by
  intro s v n i r b
  refine ⟨rfl, rfl, rfl, ⟨_, rfl, rfl, fun k hk => getLsbD_putBit _ _ _ k hk⟩,
    ⟨_, rfl, fun k hk => getLsbD_putBit _ _ _ k hk⟩, rfl, rfl, rfl, fun p hp rt base imm ha hfull => ?_⟩
  obtain ⟨hn, hexec⟩ := loadTable_exec hp
  rw [hexec]
  exact load_full hn ha hfull

/-- Settles O37. -/
theorem linkedAccess : Obligations.LinkedAccess := by
  intro rt base imm s va links stores
  have hlinks (n : Nat) (hn : AccessLength n) (ha : va.toNat % n = 0) (hroom : s.Room) :=
    loadLinked_room (rt := rt) hn ha hroom
  have hstores (n : Nat) (hn : AccessLength n) (ha : va.toNat % n = 0) :=
    And.intro (storeConditional_unlinked (rt := rt) hn ha) (storeConditional_linked (rt := rt) hn ha)
  exact ⟨hlinks 4 (by decide), hlinks 8 (by decide), hstores 4 (by decide), hstores 8 (by decide)⟩

/-! ### Merge accesses -/

/-- The bytes of a left access of a word, merged and extended (R257). -/
theorem mergeHigh_word (old m : Word) {n : Nat} (hn : n ≤ 4) (hm : m.toNat < 2 ^ (8 * n)) :
    signExt32 (mergeHigh (old.extractLsb' 0 32) (m.extractLsb' 0 32) n) =
      (BitVec.ofNat 32 (mergedLeft 32 n old.toNat m.toNat)).signExtend 64 := by
  have hm32 : m.toNat % 2 ^ 32 = m.toNat :=
    Nat.mod_eq_of_lt (hm.trans_le (Nat.pow_le_pow_right (by decide) (by omega)))
  rw [mergeHigh_eq _ _ rfl, extract_low_toNat, extract_low_toNat, hm32, mergedLeft,
    Nat.mod_mod_of_dvd _ (Nat.pow_dvd_pow 2 (Nat.sub_le ..))]
  rfl

/-- The bytes of a right access of a word, merged and extended (R258). -/
theorem mergeLow_word (old m : Word) {n : Nat} (hn : n ≤ 4) (hm : m.toNat < 2 ^ (8 * n)) :
    signExt32 (mergeLow (old.extractLsb' 0 32) (m.extractLsb' 0 32) n) =
      (BitVec.ofNat 32 (mergedRight n (old.toNat % 2 ^ 32) m.toNat)).signExtend 64 := by
  have hm32 : m.toNat % 2 ^ 32 = m.toNat :=
    Nat.mod_eq_of_lt (hm.trans_le (Nat.pow_le_pow_right (by decide) (by omega)))
  rw [mergeLow_eq _ _ (by rwa [extract_low_toNat, hm32]), extract_low_toNat, extract_low_toNat, hm32]
  rfl

/-- The most significant bytes of a value, as a number (R261). -/
theorem highBytes_toNat {w : Nat} (v : BitVec w) {n : Nat} (hw : w = 8 * (w / 8)) :
    (highBytes v n).toNat = v.toNat / 2 ^ (w - 8 * n) := by
  rw [highBytes, BitVec.toNat_ushiftRight, Nat.shiftRight_eq_div_pow, show w - 8 * n = 8 * (w / 8 - n) by omega]

/-- Settles O38: the parts of the access, and the merge as a number. -/
theorem mergeLoadsAndStores : Obligations.MergeLoadsAndStores := by
  intro rt base imm s be va x old bytes word loads stores
  simp only [leftPart_eq, rightPart_eq, bytes, word, loads, stores]
  obtain ⟨hl4, -, hl4n⟩ := leftAccess_inside 4 be va (.inl rfl)
  obtain ⟨hr4, -, hr4n⟩ := rightAccess_inside 4 be va (.inl rfl)
  obtain ⟨hl8, -, -⟩ := leftAccess_inside 8 be va (.inr rfl)
  obtain ⟨hr8, -, -⟩ := rightAccess_inside 8 be va (.inr rfl)
  have hself : BitVec.ofNat 64 x.toNat = x := by rw [BitVec.ofNat_toNat, BitVec.setWidth_eq]
  refine ⟨fun hroom => ?_, fun hroom => ?_, fun hroom => ?_, fun hroom => ?_, ?_, ?_, ?_, ?_⟩
  · exact (mergeLoadWord_room hroom hl4).trans (by rw [mergeHigh_word _ _ hl4n (loaded_lt ..)])
  · exact (mergeLoadWord_room hroom hr4).trans (by rw [mergeLow_word _ _ hr4n (loaded_lt ..)])
  · exact (mergeLoadDouble_room hroom hl8).trans (by rw [mergeHigh_eq _ _ rfl])
  · exact (mergeLoadDouble_room hroom hr8).trans (by rw [mergeLow_eq _ _ (loaded_lt ..)])
  · rw [← extract_low_toNat x, ← highBytes_toNat (w := 32) _ rfl, BitVec.ofNat_toNat]
    exact mergeStore_next hl4
  · rw [hself]
    exact mergeStore_next hr4
  · rw [← highBytes_toNat (w := 64) _ rfl, BitVec.ofNat_toNat, BitVec.setWidth_eq]
    exact mergeStore_next hl8
  · rw [hself]
    exact mergeStore_next hr8

/-! ### The FPU loads and stores, and misaligned accesses -/

/-- What the FPU does where it may be used and the registers are legal (R295). -/
theorem fpEnter_commit_ok {regs : List FprNo} {f : Unit → Effect} (hcu1 : s.cu1 = true)
    (hregs : s.fr = true ∨ ∀ r ∈ regs, r.toNat % 2 = 0) :
    (Effect.ofExcept s (s.fpEnter regs) f).commit s = (f ()).commit s := by
  have hok : ∀ r ∈ regs, s.fpr64Ok r = true := fun r hr => (s.fpr64Ok_iff r).mpr (hregs.imp_right (· r hr))
  rcases s.fpEnter_cases regs with ⟨hc, _⟩ | ⟨_, ⟨r, hr, hbad⟩, _⟩ | ⟨_, _, h⟩
  · exact absurd (hcu1.symm.trans hc) (by decide)
  · exact absurd ((hok r hr).symm.trans hbad) (by decide)
  · rw [h]
    rfl

/-- An instruction without a 64-bit register has none that is illegal. -/
theorem no_wide (s : State) : s.fr = true ∨ ∀ r ∈ ([] : List FprNo), r.toNat % 2 = 0 := .inr nofun

/-- Settles O40. -/
theorem fpuLoadsAndStores : Obligations.FpuLoadsAndStores := by
  intro ft base imm s hcu1 va stores
  have hlow : (s.rawRead32 ft).setWidth 64 = BitVec.ofNat 64 ((s.fgrAt ft).toNat % 2 ^ 32) := by
    rw [State.rawRead32, ← BitVec.ofNat_toNat, extract_low_toNat]
  refine ⟨fun ha hroom => ?_, fun ha => ?_, fun hreg ha => ⟨fun hroom => ?_, ?_⟩⟩
  · exact (fpEnter_commit_ok hcu1 (no_wide s)).trans (load_extended false (by decide) ha hroom)
  · obtain ⟨t, hw, h⟩ := store_aligned (s := s) (n := 4) (by decide) ha ((s.rawRead32 ft).setWidth 64)
    exact ⟨t, hlow ▸ hw, (fpEnter_commit_ok hcu1 (no_wide s)).trans h⟩
  · exact (fpEnter_commit_ok hcu1 (hreg.imp_right (by simp))).trans (load_extended false (by decide) ha hroom)
  · obtain ⟨t, hw, h⟩ := store_aligned (s := s) (n := 8) (by decide) ha (s.rawRead64 ft)
    refine ⟨t, ?_, (fpEnter_commit_ok hcu1 (hreg.imp_right (by simp))).trans h⟩
    have hpair : s.rawRead32 (pairOf ft) ++ s.rawRead32 ft =
        BitVec.ofNat 64 ((s.fgrAt (ft + 1#5)).toNat % 2 ^ 32 * 2 ^ 32 + (s.fgrAt ft).toNat % 2 ^ 32) := by
      apply BitVec.eq_of_toNat_eq
      simp only [State.rawRead32, toNat_append_eq, extract_low_toNat, BitVec.toNat_ofNat, pairOf]
      omega
    rw [← hpair]
    exact hw

/-- The primary opcode of a word in format I. -/
theorem iType_primary (op : BitVec 6) (rs rt : BitVec 5) (imm : BitVec 16) :
    (iType op rs rt imm).extractLsb' 26 6 = op := by
  obtain ⟨rd, sa, funct, rfl⟩ := exists_imm_fields imm
  rw [iType_append, rType_primary]

/-- A word in format I with one of the opcodes of R505 is one of coprocessor 1. -/
theorem usesCop1_iType {i : Instr} {op : BitVec 6} {rs rt : BitVec 5} {imm : BitVec 16} (h : encode i = iType op rs rt imm)
    (hop : [0x11#6, 0x13#6, 0x31#6, 0x35#6, 0x39#6, 0x3D#6, 0x1E#6].contains op = true) : usesCop1 i = true := by
  rw [usesCop1, primaryOpcode, h, iType_primary, hop]

/-- Settles O36: the operation of each load and store at a misaligned address. -/
theorem misalignedAccessTraps : Obligations.MisalignedAccessTraps := by
  intro i s va n hcop hmis
  refine ⟨fun h => ?_, fun h => ?_⟩
  · unfold loadAlignment at h
    split at h
    case h_7 | h_10 => cases h; exact loadLinked_misaligned (by decide) hmis
    case h_8 =>
      cases h
      obtain ⟨hcu1, -⟩ := hcop (usesCop1_iType rfl (by decide))
      exact (fpEnter_commit_ok hcu1 (no_wide s)).trans (load_misaligned (by decide) hmis)
    case h_11 =>
      cases h
      obtain ⟨hcu1, hreg⟩ := hcop (usesCop1_iType rfl (by decide))
      exact (fpEnter_commit_ok hcu1 hreg).trans (load_misaligned (by decide) hmis)
    case h_12 => cases h
    all_goals cases h; exact load_misaligned (by decide) hmis
  · unfold storeAlignment at h
    split at h
    case h_4 | h_7 => cases h; exact storeConditional_misaligned (by decide) hmis
    case h_5 =>
      cases h
      obtain ⟨hcu1, -⟩ := hcop (usesCop1_iType rfl (by decide))
      exact (fpEnter_commit_ok hcu1 (no_wide s)).trans (store_misaligned (by decide) hmis _)
    case h_8 =>
      cases h
      obtain ⟨hcu1, hreg⟩ := hcop (usesCop1_iType rfl (by decide))
      exact (fpEnter_commit_ok hcu1 hreg).trans (store_misaligned (by decide) hmis _)
    case h_9 => cases h
    all_goals cases h; exact store_misaligned (by decide) hmis _

end Sys2Proof.Machine

/-! The moves of coprocessor 0, and the instructions of the FPU around their operations (48_system.md section 2;
10_state.md R33-R36; 44_fpu_unit.md R294-R296; 45_fpu_instructions.md). -/

namespace Sys2Proof.Machine

variable {s : State}

/-! ### Moves of coprocessor 0 -/

/-- Where coprocessor 0 may be used (R505, R525). -/
theorem cp0Usable_of (h : s.um = false ∨ s.exl = true ∨ s.cu0 = true) : s.cp0Usable = true := by
  rw [cp0Usable_eq]
  rcases h with h | h | h <;> simp [h]

/-- What the CP0 registers read, by number, as a chain of tests (R38-R44). -/
def cp0Value (s : State) (rd : BitVec 5) : Option Word :=
  if rd = 8#5 then some s.badVAddr
  else if rd = 12#5 then some (s.status.setWidth 64)
  else if rd = 13#5 then some (BitVec.ofNat 64 (s.excCode.toNat * 2 ^ 2 + s.ce.toNat * 2 ^ 28 +
    (if s.pins.intLevel.toNat = 0 then 0 else 2 ^ (8 + s.pins.intLevel.toNat))))
  else if rd = 14#5 then some s.epc
  else if rd = 15#5 then some (s.cfg.prid.setWidth 64)
  else if rd = 16#5 then some (if s.configBE then 0x8000#64 else 0#64)
  else none

/-- The pending level, as the number it is in Cause (R40, R520). -/
theorem causeIP_toNat (s : State) :
    s.causeIP.toNat * 2 ^ 8 = if s.pins.intLevel.toNat = 0 then 0 else 2 ^ (8 + s.pins.intLevel.toNat) := by
  unfold State.causeIP
  generalize s.pins.intLevel = level
  revert level
  decide

/-- Cause as a number (R40). -/
theorem cause_toNat (s : State) :
    s.cause.toNat = s.excCode.toNat * 2 ^ 2 + s.ce.toNat * 2 ^ 28 +
      (if s.pins.intLevel.toNat = 0 then 0 else 2 ^ (8 + s.pins.intLevel.toNat)) := by
  rw [← causeIP_toNat]
  simp only [State.cause, toNat_append_eq, BitVec.toNat_ofNat, Nat.reducePow]
  omega

/-- A CP0 register reads as its number says, and only six numbers are implemented (R38). -/
theorem readCp0_eq (s : State) (rd : BitVec 5) : s.readCp0 rd = cp0Value s rd := by
  unfold State.readCp0
  split
  case h_3 =>
    show _ = some (BitVec.ofNat 64 _)
    rw [← cause_toNat, BitVec.ofNat_toNat]
  case h_6 =>
    show some (s.configReg.setWidth 64) = some (if s.configBE then 0x8000#64 else 0#64)
    unfold State.configReg
    split <;> rfl
  case h_7 h8 h12 h13 h14 h15 h16 =>
    rw [cp0Value, if_neg h8, if_neg h12, if_neg h13, if_neg h14, if_neg h15, if_neg h16]
  all_goals rfl

/-- A write to a CP0 register, by number (R486, R487). -/
theorem writeCp0_eq (s : State) (rd : BitVec 5) (v : Word) :
    s.writeCp0 rd v =
      if rd = 12#5 then { s with status := v.setWidth 32 &&& 0x3600FF13#32 }
      else if rd = 14#5 then { s with epc := v } else s := by
  unfold State.writeCp0
  split
  case h_3 h12 h14 => rw [if_neg h12, if_neg h14]
  all_goals rfl

/-- The low word of a register, by truncation. -/
theorem extract_low_eq_setWidth (x : Word) : x.extractLsb' 0 32 = x.setWidth 32 :=
  BitVec.eq_of_toNat_eq (by rw [extract_low_toNat, BitVec.toNat_setWidth])

/-- Truncating an extended word gives it back. -/
theorem setWidth_signExtend (v : BitVec 32) : (v.signExtend 64).setWidth 32 = v :=
  BitVec.eq_of_getLsbD_eq fun i hi => by
    simp only [BitVec.getLsbD_setWidth, BitVec.getLsbD_signExtend, hi, show i < 64 by omega, decide_true,
      Bool.true_and, if_true]

section Cp0

variable {rt : GprNo} {rd : BitVec 5} {v w : Word} {f : Word → Word}

/-- A move from an implemented register (R484, R485). -/
theorem moveFromCp0_some (hu : s.cp0Usable = true) (hr : s.readCp0 rd = some w) :
    (moveFromCp0 rt rd f s).commit s = .next (s.writeGpr rt (f w)).advance := by
  rw [moveFromCp0, withCp0_eq, if_pos hu]
  simp only [hr]
  rfl

/-- A move from an unimplemented register (R485). -/
theorem moveFromCp0_none (hu : s.cp0Usable = true) (hr : s.readCp0 rd = none) :
    (moveFromCp0 rt rd f s).commit s = .next (takeException .ri s) := by
  rw [moveFromCp0, withCp0_eq, if_pos hu]
  simp only [hr]
  rfl

/-- A move to an implemented register (R486, R487). -/
theorem moveToCp0_some (hu : s.cp0Usable = true) (hr : s.readCp0 rd = some w) :
    (moveToCp0 rd v s).commit s = .next (s.writeCp0 rd v).advance := by
  rw [moveToCp0, withCp0_eq, if_pos hu]
  simp only [hr, Option.isSome_some, if_true]
  rfl

/-- A move to an unimplemented register (R487). -/
theorem moveToCp0_none (hu : s.cp0Usable = true) (hr : s.readCp0 rd = none) :
    (moveToCp0 rd v s).commit s = .next (takeException .ri s) := by
  rw [moveToCp0, withCp0_eq, if_pos hu]
  simp only [hr, Option.isSome_none, Bool.false_eq_true, if_false]
  rfl

end Cp0

/-- Settles O44. -/
theorem cp0Moves : Obligations.Cp0Moves := by
  intro rt rd s husable value written
  have hu := cp0Usable_of husable
  have hvalue : s.readCp0 rd = value := readCp0_eq s rd
  have hlow : signExt32 (s.readGprLow rt) = ((s.readGpr rt).setWidth 32).signExtend 64 := by
    rw [State.readGprLow, extract_low_eq_setWidth, signExt32]
  refine ⟨fun v hv => ?_, fun hnone i hi => ?_⟩
  · have hr := hvalue.trans hv
    refine ⟨?_, moveFromCp0_some hu hr, ?_, ?_⟩
    · exact (moveFromCp0_some hu hr).trans (by rw [extract_low_eq_setWidth, signExt32])
    · exact (moveToCp0_some hu hr).trans (by rw [writeCp0_eq, hlow, setWidth_signExtend])
    · exact (moveToCp0_some hu hr).trans (by rw [writeCp0_eq])
  · have hr := hvalue.trans hnone
    rcases hi with rfl | rfl | rfl | rfl
    · exact moveFromCp0_none hu hr
    · exact moveFromCp0_none hu hr
    · exact moveToCp0_none hu hr
    · exact moveToCp0_none hu hr

/-! ### Raw moves of the FPU -/

/-- A register whose low half is replaced (R32). -/
theorem upper_append_eq (f : Word) (v : BitVec 32) :
    f.extractLsb' 32 32 ++ v = BitVec.ofNat 64 (f.toNat / 2 ^ 32 * 2 ^ 32 + v.toNat) := by
  apply BitVec.eq_of_toNat_eq
  simp only [toNat_append_eq, extractLsb'_toNat_div, BitVec.toNat_ofNat, Nat.reducePow]
  omega

/-- A raw 32-bit write (R32). -/
theorem rawWrite32_eq (s : State) (r : FprNo) (v : BitVec 32) :
    s.rawWrite32 r v =
      (s.setFgr r (BitVec.ofNat 64 ((s.fgrAt r).toNat / 2 ^ 32 * 2 ^ 32 + v.toNat))).setTag r .uninterpreted := by
  rw [State.rawWrite32, State.put32, State.setFgrLow, upper_append_eq]

/-- The register behind an even one is another. -/
theorem add_one_ne (r : FprNo) : r + 1#5 ≠ r := by bv_omega

/-- A raw 64-bit write with FR = 0 is two 32-bit writes (R32). -/
theorem rawWrite64_pair (hfr : s.fr = false) {r : FprNo} (heven : r.toNat % 2 = 0) (v : Word) :
    s.rawWrite64 r v = (s.rawWrite32 r (v.extractLsb' 0 32)).rawWrite32 (r + 1#5) (v.extractLsb' 32 32) := by
  unfold State.rawWrite64 State.put64
  rw [if_neg (by simp [hfr])]
  simp only [pairForWrite_even r heven]
  rfl

/-- A raw 64-bit write with FR = 0, register by register (R32). -/
theorem rawWrite64_pair_eq (hfr : s.fr = false) {r : FprNo} (heven : r.toNat % 2 = 0) (v : Word) :
    s.rawWrite64 r v =
      (((s.setFgr r (BitVec.ofNat 64 ((s.fgrAt r).toNat / 2 ^ 32 * 2 ^ 32 + v.toNat % 2 ^ 32))).setTag r
        .uninterpreted).setFgr (r + 1#5) (BitVec.ofNat 64 ((s.fgrAt (r + 1#5)).toNat / 2 ^ 32 * 2 ^ 32 +
          v.toNat / 2 ^ 32))).setTag (r + 1#5) .uninterpreted := by
  have hhigh : (v.extractLsb' 32 32).toNat = v.toNat / 2 ^ 32 := by
    have hlt := v.isLt
    rw [extractLsb'_toNat_div]
    omega
  rw [rawWrite64_pair hfr heven, rawWrite32_eq, rawWrite32_eq, State.fgrAt_setTag, State.fgrAt_setFgr,
    if_neg (add_one_ne r), hhigh, extract_low_toNat]

/-- A raw 64-bit read with FR = 0 (R32). -/
theorem rawRead64_pair (hfr : s.fr = false) (r : FprNo) :
    s.rawRead64 r = (s.fgrAt (r + 1#5)).setWidth 32 ++ (s.fgrAt r).setWidth 32 := by
  rw [State.rawRead64, if_neg (by simp [hfr]), State.rawRead32, State.rawRead32, extract_low_eq_setWidth,
    extract_low_eq_setWidth, pairOf]

/-- A raw 64-bit read with FR = 1 (R32). -/
theorem rawRead64_full (hfr : s.fr = true) (r : FprNo) : s.rawRead64 r = s.fgrAt r := if_pos hfr

/-- The FP control registers are 0 and 31 (R45). -/
theorem readFpControl_none {n : BitVec 5} (h0 : n ≠ 0#5) (h31 : n ≠ 31#5) : s.readFpControl n = none := by
  unfold State.readFpControl
  split
  · exact absurd rfl h0
  · exact absurd rfl h31
  · rfl

/-- A write of the FCSR that enables no cause (R336). -/
theorem writeFcsr_off {v : BitVec 32}
    (h : (fcsrOf v).extractLsb' 12 5 &&& (fcsrOf v).extractLsb' 7 5 = 0#5 ∧ (fcsrOf v).getLsbD 17 = false) :
    (writeFcsr v s).commit s = .next { s with fcsr := fcsrOf v, pc := s.pc + 4#64 } := by
  obtain ⟨hcause, he⟩ := h
  rw [writeFcsr]
  refine congrArg (Effect.commit · s) (if_neg ?_)
  rintro (h | h)
  · exact h hcause
  · exact absurd (he.symm.trans h) (by decide)

/-- A write of the FCSR that traps at once (R336). -/
theorem writeFcsr_on {v : BitVec 32}
    (h : ¬ ((fcsrOf v).extractLsb' 12 5 &&& (fcsrOf v).extractLsb' 7 5 = 0#5 ∧ (fcsrOf v).getLsbD 17 = false)) :
    (writeFcsr v s).commit s = .next (takeException .fpe { s with fcsr := fcsrOf v }) := by
  rw [writeFcsr]
  refine congrArg (Effect.commit · s) (if_pos ?_)
  rw [not_and_or, Bool.not_eq_false] at h
  exact h

/-- Settles O45. -/
theorem fpuMoves : Obligations.FpuMoves := by
  intro rt r s hcu1 x f low g high fcsr
  have hlow : s.rawRead32 r = f.setWidth 32 := extract_low_eq_setWidth f
  have hx : (s.readGprLow rt).toNat = x.toNat % 2 ^ 32 := extract_low_toNat x
  have hfcsr : fcsrOf (s.readGprLow rt) = fcsr := by rw [fcsrOf, State.readGprLow, extract_low_eq_setWidth]; rfl
  have hmfc1 : exec (.mfc1 rt r) s = (writeAndAdvance rt (signExt32 (s.rawRead32 r)) s).commit s :=
    fpEnter_commit_ok hcu1 (no_wide s)
  have hmtc1 : exec (.mtc1 rt r) s = .next (s.rawWrite32 r (s.readGprLow rt)).advance :=
    fpEnter_commit_ok hcu1 (no_wide s)
  have hdmfc1 (hok : s.fr = true ∨ r.toNat % 2 = 0) :
      exec (.dmfc1 rt r) s = (writeAndAdvance rt (s.rawRead64 r) s).commit s :=
    fpEnter_commit_ok hcu1 (hok.imp_right (by simp))
  have hdmtc1 (hok : s.fr = true ∨ r.toNat % 2 = 0) : exec (.dmtc1 rt r) s = .next (s.rawWrite64 r x).advance :=
    fpEnter_commit_ok hcu1 (hok.imp_right (by simp))
  have hcfc1 : exec (.cfc1 rt r) s = (moveFromFpControl rt r s).commit s := fpEnter_commit_ok hcu1 (no_wide s)
  have hctc1 : exec (.ctc1 rt r) s =
      (if r = 31#5 then writeFcsr (s.readGprLow rt) s else Effect.raises .ri s).commit s :=
    fpEnter_commit_ok hcu1 (no_wide s)
  refine ⟨?_, ?_, fun hfr => ⟨?_, ?_⟩, fun hfr heven => ⟨?_, ?_⟩, fun h0 => ?_, fun h31 => ⟨?_, fun hoff => ?_,
    fun hon => ?_⟩, fun h31 => ?_, fun h0 h31 => ?_⟩
  · rw [hmfc1, hlow, writeAndAdvance_commit, signExt32]
  · rw [hmtc1, rawWrite32_eq, hx]
  · rw [hdmfc1 (.inl hfr), rawRead64_full hfr, writeAndAdvance_commit]
  · rw [hdmtc1 (.inl hfr), State.rawWrite64_fr _ _ _ hfr]
  · rw [hdmfc1 (.inr heven), rawRead64_pair hfr, writeAndAdvance_commit]
  · rw [hdmtc1 (.inr heven), rawWrite64_pair_eq hfr heven]
  · rw [hcfc1, h0]
    rfl
  · rw [hcfc1, h31]
    rfl
  · rw [hctc1, if_pos h31, writeFcsr_off (hfcsr ▸ hoff), hfcsr]
  · rw [hctc1, if_pos h31, writeFcsr_on (hfcsr ▸ hon), hfcsr]
  · rw [hctc1, if_neg h31]
    rfl
  · rw [hcfc1, moveFromFpControl, readFpControl_none h0 h31]
    rfl

end Sys2Proof.Machine

/-! Formatted access, the FCSR procedure, and the arithmetic, conversion and compare instructions of the FPU around
their unit operations (10_state.md R33-R36; 44_fpu_unit.md R294-R296; 45_fpu_instructions.md R330-R371). -/

namespace Sys2Proof.Machine

variable {s : State}

/-! ### Formatted access -/

/-- The registers of an operand (R33). -/
theorem operandRegs_eq (s : State) (i : FprNo) (fmt : Fmt) :
    s.operandRegs i fmt = if fmt.wide = true ∧ s.fr = false then [i, i + 1#5] else [i] := by
  simp only [State.operandRegs, Bool.and_eq_true, Bool.not_eq_true', pairOf]

/-- The register of an operand is one of its registers. -/
theorem mem_operandRegs (s : State) (i : FprNo) (fmt : Fmt) : i ∈ s.operandRegs i fmt := by
  rw [operandRegs_eq]
  split <;> simp

/-- The tag check of a formatted read (R33). -/
theorem tagsMatch_iff (s : State) (i : FprNo) (fmt : Fmt) :
    s.tagsMatch i fmt = true ↔ ∀ r ∈ s.operandRegs i fmt, s.tagAt r = fmt.tag ∨ s.tagAt r = .uninterpreted := by
  simp only [State.tagsMatch, List.all_eq_true, Bool.or_eq_true, beq_iff_eq]

/-- The raw bits a formatted read gives where the tags match (R33). -/
def State.rawValue (s : State) (i : FprNo) (fmt : Fmt) : Word :=
  if fmt.wide then s.rawRead64 i else (s.rawRead32 i).setWidth 64

/-- A formatted read whose tags match (R33). -/
theorem fprValue_of_match {i : FprNo} {fmt : Fmt} (h : s.tagsMatch i fmt = true) :
    s.fprValue i fmt = s.rawValue i fmt := if_pos h

/-- A formatted read whose tags do not (R33, R35). -/
theorem fprValue_of_mismatch {i : FprNo} {fmt : Fmt} (h : ¬ s.tagsMatch i fmt = true) :
    s.fprValue i fmt = fmt.canonNaN := if_neg h

/-- A register of unknown content matches no format (R33). -/
theorem tagsMatch_of_unknown {i : FprNo} (fmt : Fmt) (h : s.tagAt i = .unknown) : ¬ s.tagsMatch i fmt = true := by
  intro hmatch
  rcases (tagsMatch_iff s i fmt).mp hmatch i (mem_operandRegs s i fmt) with htag | htag
  · rw [h] at htag
    cases fmt <;> cases htag
  · rw [h] at htag
    cases htag

/-- A formatted write leaves the mode alone. -/
theorem writeFpr_fr (s : State) (i : FprNo) (fmt : Fmt) (v : Word) : (s.writeFpr i fmt v).fr = s.fr :=
  State.fr_eq_of_status _ _ (by simp)

/-- Every register of a formatted write has its tag (R34). -/
theorem tagAt_writeFpr {i : FprNo} {fmt : Fmt} (hok : s.WideOk fmt [i]) (v : Word) :
    ∀ r ∈ s.operandRegs i fmt, (s.writeFpr i fmt v).tagAt r = fmt.tag := by
  rw [operandRegs_eq]
  unfold State.writeFpr
  cases hwide : fmt.wide
  · simp [State.tagAt_put32]
  · cases hfr : s.fr
    · have heven : i.toNat % 2 = 0 := (hok hwide).elim (by simp [hfr]) (by simp)
      simp [State.put64, hfr, pairForWrite_even i heven, State.tagAt_put32, (add_one_ne i).symm]
    · simp [State.put64, hfr, State.tagAt_setTag]

/-- What was written is read back as raw bits (R32-R34). -/
theorem rawValue_writeFpr {i : FprNo} {fmt : Fmt} (hok : s.WideOk fmt [i]) (v : Word) :
    (s.writeFpr i fmt v).rawValue i fmt = if fmt.wide then v else BitVec.ofNat 64 (v.toNat % 2 ^ 32) := by
  have hlow (x y : BitVec 32) : (x ++ y).extractLsb' 0 32 = y := by
    apply BitVec.eq_of_toNat_eq
    have := y.isLt
    rw [extractLsb'_toNat_div, toNat_append_eq]
    omega
  have hvlow : (v.extractLsb' 0 32).setWidth 64 = BitVec.ofNat 64 (v.toNat % 2 ^ 32) := by
    rw [← BitVec.ofNat_toNat, extract_low_toNat]
  unfold State.rawValue State.rawRead64 State.rawRead32
  rw [writeFpr_fr]
  unfold State.writeFpr
  cases hwide : fmt.wide
  · simp [State.fgrAt_put32, hlow, hvlow]
  · cases hfr : s.fr
    · have heven : i.toNat % 2 = 0 := (hok hwide).elim (by simp [hfr]) (by simp)
      have hjoin : v.extractLsb' 32 32 ++ v.extractLsb' 0 32 = v := by
        apply BitVec.eq_of_toNat_eq
        have := v.isLt
        rw [toNat_append_eq, extractLsb'_toNat_div, extractLsb'_toNat_div]
        omega
      simp [State.put64, hfr, pairForWrite_even i heven, State.fgrAt_put32, pairOf, (add_one_ne i).symm, hlow, hjoin]
    · simp [State.put64, hfr, State.fgrAt_setFgr]

/-- Settles O46. -/
theorem formattedAccess : Obligations.FormattedAccess := by
  intro s i fmt v hok regs raw t
  have hregs : s.operandRegs i fmt = regs := operandRegs_eq s i fmt
  have hraw : s.rawValue i fmt = raw := by
    unfold State.rawValue
    cases hwide : fmt.wide
    · simp only [Bool.false_eq_true, if_false, State.rawRead32, extract_low_eq_setWidth, raw, hwide, if_true]
    · cases hfr : s.fr
      · simp only [if_true, rawRead64_pair hfr, raw, hwide, hfr, Bool.true_eq_false, Bool.false_eq_true, if_false]
      · simp only [if_true, rawRead64_full hfr, raw, hwide, hfr, Bool.true_eq_false, if_false]
  have hmatch : s.tagsMatch i fmt = true ↔ ∀ r ∈ regs, s.tagAt r = fmt.tag ∨ s.tagAt r = .uninterpreted :=
    hregs ▸ tagsMatch_iff s i fmt
  have htags (r : FprNo) : t.tagAt r =
      if r ∈ regs then (if s.tagsMatch i fmt then fmt.tag else .unknown) else s.tagAt r :=
    hregs ▸ tagAt_retag s i fmt r
  refine ⟨fun h => ?_, fun h => ?_, retag_eq s i fmt, fun r hr => ?_, ?_, hregs ▸ tagAt_writeFpr hok v,
    fun hwide => ?_⟩
  · have hm := hmatch.mpr h
    exact ⟨(fprValue_of_match hm).trans hraw, fun r hr => by rw [htags, if_pos hr, if_pos hm]⟩
  · have hm := mt hmatch.mp h
    have hunknown : ∀ r ∈ regs, t.tagAt r = .unknown := fun r hr => by rw [htags, if_pos hr, if_neg hm]
    exact ⟨fprValue_of_mismatch hm, hunknown, fun fmt' _ =>
      fprValue_of_mismatch (tagsMatch_of_unknown fmt' (hunknown i (hregs ▸ mem_operandRegs s i fmt)))⟩
  · rw [htags, if_neg hr]
  · have hm : (s.writeFpr i fmt v).tagsMatch i fmt = true := by
      rw [tagsMatch_iff, operandRegs_congr (s := s) (by simp) i fmt]
      exact fun r hr => .inl (tagAt_writeFpr hok v r hr)
    rw [fprValue_of_match hm, rawValue_writeFpr hok]
  · unfold State.writeFpr
    have hlt := (v.extractLsb' 0 32).isLt
    simp only [hwide, Bool.false_eq_true, if_false, State.fgrAt_put32, if_true, toNat_append_eq,
      extractLsb'_toNat_div]
    have := (s.fgrAt i).isLt
    omega

/-! ### The FCSR procedure -/

/-- The FCSR after `FPRaise`, bit by bit (R296). -/
theorem raisedFcsr_getLsbD (f : BitVec 32) (flags : FpExcs) (k : Nat) :
    (raisedFcsr f flags).getLsbD k =
      if 12 ≤ k ∧ k < 17 then flags.getLsbD (k - 12)
      else if k = 17 then false
      else if 2 ≤ k ∧ k < 7 then f.getLsbD k || flags.getLsbD (k - 2)
      else f.getLsbD k := by
  have hmask : (0x0003F000#32).getLsbD k = decide (12 ≤ k ∧ k < 18) := by
    by_cases hk : k < 32
    · exact (by decide : ∀ k < 32, (0x0003F000#32).getLsbD k = decide (12 ≤ k ∧ k < 18)) k hk
    · rw [BitVec.getLsbD_of_ge _ _ (Nat.le_of_not_lt hk), eq_comm, decide_eq_false_iff_not]
      omega
  have hflags (j : Nat) (hj : 5 ≤ j) : flags.getLsbD j = false := BitVec.getLsbD_of_ge _ _ hj
  by_cases hk : k < 32
  · simp only [raisedFcsr, BitVec.getLsbD_or, BitVec.getLsbD_and, BitVec.getLsbD_not, BitVec.getLsbD_shiftLeft,
      BitVec.getLsbD_setWidth, hmask, hk, decide_true, Bool.true_and]
    by_cases hcause : 12 ≤ k ∧ k < 17
    · simp [hcause, hflags (k - 2) (by omega), show ¬ k < 12 by omega, show k < 18 by omega, show k - 12 < 32 by omega]
    by_cases h17 : k = 17
    · subst h17
      simp
    by_cases hsticky : 2 ≤ k ∧ k < 7
    · simp [h17, hsticky, show k < 12 by omega, show ¬ k < 2 by omega, show k - 2 < 32 by omega,
        show ¬ 12 ≤ k by omega]
    · have hout : ¬ (12 ≤ k ∧ k < 18) := by omega
      have h12 : k < 12 ∨ flags.getLsbD (k - 12) = false := or_iff_not_imp_left.mpr fun h => hflags _ (by omega)
      have h2 : k < 2 ∨ flags.getLsbD (k - 2) = false := or_iff_not_imp_left.mpr fun h => hflags _ (by omega)
      rcases h12 with h12 | h12 <;> rcases h2 with h2 | h2 <;> simp [hcause, h17, hsticky, hout, h12, h2]
  · have hge := Nat.le_of_not_lt hk
    rw [BitVec.getLsbD_of_ge _ _ hge, if_neg (by omega), if_neg (by omega), if_neg (by omega),
      BitVec.getLsbD_of_ge _ _ hge]

/-- Settles O47. -/
theorem fpRaise_records : Obligations.FpRaise := by
  intro s flags t
  refine ⟨raisedFcsr_getLsbD s.fcsr flags, rfl, fun h => ?_, fun h => ?_⟩
  · exact if_neg (not_not.mpr h)
  · exact if_pos h

/-- The last two steps of an arithmetic instruction (R330). -/
theorem fpFinish_commit {fmt : Fmt} {fd : FprNo} {u s0 : State} (r : BitVec 64 × FpExcs)
    (he : u.fpEnables = s.fpEnables) :
    (r.2 &&& s.fpEnables = 0#5 →
      (fpFinish fmt fd r u).commit s0 = .next ((u.recordFlags r.2).writeFpr fd fmt r.1).advance) ∧
    (r.2 &&& s.fpEnables ≠ 0#5 → (fpFinish fmt fd r u).commit s0 = .next (takeException .fpe (u.recordFlags r.2))) := by
  obtain ⟨t, ht⟩ := (fpFinish fmt fd r u).commit_next s0
  rw [← he, ht]
  rcases fpFinish_cases ht with ⟨hoff, h⟩ | ⟨hon, h⟩
  · exact ⟨fun _ => by rw [h], fun hon => absurd hoff hon⟩
  · exact ⟨fun hoff => absurd hoff hon, fun _ => by rw [h]⟩

/-! ### Arithmetic -/

/-- Legal registers pass the check of a format (R36, R330). -/
theorem checked_ok {fmt : Fmt} {regs : List FprNo} (h : s.WideOk fmt regs) :
    s.fr = true ∨ ∀ r ∈ fmt.checked regs, r.toNat % 2 = 0 := by
  unfold Fmt.checked
  split
  next hwide => exact h hwide
  next => exact no_wide s

/-- Each unary instruction is its operation in its format (R344-R347). -/
theorem fpUnaryTable_exec {p : (ArithFmt → FprNo → FprNo → Instr) × FpOp1} (hp : p ∈ fpUnaryTable) (fmt : ArithFmt)
    (fd fs : FprNo) (s : State) : exec (p.1 fmt fd fs) s = (fpArith1 p.2 fmt fd fs s).commit s := by
  simp only [fpUnaryTable, List.mem_cons, List.not_mem_nil, or_false] at hp
  rcases hp with rfl | rfl | rfl | rfl <;> cases fmt <;> rfl

/-- Each binary instruction is its operation in its format (R340-R343, R348, R349). -/
theorem fpBinaryTable_exec {p : (ArithFmt → FprNo → FprNo → FprNo → Instr) × FpOp2} (hp : p ∈ fpBinaryTable)
    (fmt : ArithFmt) (fd fs ft : FprNo) (s : State) :
    exec (p.1 fmt fd fs ft) s = (fpArith2 p.2 fmt fd fs ft s).commit s := by
  simp only [fpBinaryTable, List.mem_cons, List.not_mem_nil, or_false] at hp
  rcases hp with rfl | rfl | rfl | rfl | rfl | rfl <;> cases fmt <;> rfl

/-- Each multiply-add instruction is its operation in its format (R350-R353). -/
theorem fpTernaryTable_exec {p : (ArithFmt → FprNo → FprNo → FprNo → FprNo → Instr) × FpOp3} (hp : p ∈ fpTernaryTable)
    (fmt : ArithFmt) (fd fr fs ft : FprNo) (s : State) :
    exec (p.1 fmt fd fr fs ft) s = (fpArith3 p.2 fmt fd fr fs ft s).commit s := by
  simp only [fpTernaryTable, List.mem_cons, List.not_mem_nil, or_false] at hp
  rcases hp with rfl | rfl | rfl | rfl <;> cases fmt <;> rfl

/-- Settles O48: entry, the operands in their order, the operation, and the end. -/
theorem fpuArithmetic : Obligations.FpuArithmetic := by
  intro fmt fd fr fs ft s hcu1 f rm flush a s1 b s2 c s3 finishes
  refine ⟨fun hok => ⟨fun p hp => ?_, ?_⟩, fun hok p hp => ?_, fun hok p hp => ?_⟩
  · have hexec : exec (p.1 fmt fd fs) s = (fpFinish f fd (p.2.inFmt fmt rm flush a) s1).commit s :=
      (fpUnaryTable_exec hp fmt fd fs s).trans (fpEnter_commit_ok hcu1 (checked_ok hok))
    simp only [finishes, hexec]
    exact fpFinish_commit _ (by simp only [s1, retag_fpEnables])
  · have hexec : exec (fmtForm Instr.movS Instr.movD Instr.movPs fmt fd fs) s = (fpMove fmt fd fs s).commit s := by
      cases fmt <;> rfl
    exact hexec.trans (fpEnter_commit_ok hcu1 (checked_ok hok))
  · have hexec : exec (p.1 fmt fd fs ft) s = (fpFinish f fd (p.2.inFmt fmt rm flush a b) s2).commit s :=
      (fpBinaryTable_exec hp fmt fd fs ft s).trans (fpEnter_commit_ok hcu1 (checked_ok hok))
    simp only [finishes, hexec]
    exact fpFinish_commit _ (by simp only [s2, s1, retag_fpEnables])
  · have hexec : exec (p.1 fmt fd fr fs ft) s = (fpFinish f fd (p.2.inFmt fmt rm flush a b c) s3).commit s :=
      (fpTernaryTable_exec hp fmt fd fr fs ft s).trans (fpEnter_commit_ok hcu1 (checked_ok hok))
    simp only [finishes, hexec]
    exact fpFinish_commit _ (by simp only [s3, s2, s1, retag_fpEnables])

/-! ### Conversions -/

/-- Each conversion is its operation between its formats (R355-R370). -/
theorem fpConvertTable_exec {c : Conversion} (hc : c ∈ fpConvertTable) (fd fs : FprNo) (s : State) :
    exec (c.instr fd fs) s = (fpConvert c.src c.dst (c.op s.roundingMode s.fpFlush) fd fs s).commit s := by
  simp only [fpConvertTable, List.mem_cons, List.not_mem_nil, or_false] at hc
  rcases hc with rfl | rfl | rfl | rfl | rfl | rfl | rfl | rfl | rfl | rfl | rfl | rfl | rfl | rfl | rfl | rfl | rfl |
    rfl | rfl | rfl | rfl | rfl | rfl | rfl | rfl | rfl <;> rfl

/-- Settles O49. -/
theorem fpuConversions : Obligations.FpuConversions := by
  intro c hc fd fs s hcu1 hdst hsrc res t
  have hregs : s.fr = true ∨ ∀ r ∈ convertRegs c.src c.dst fd fs, r.toNat % 2 = 0 := by
    rcases checked_ok hdst with hfr | hd
    · exact .inl hfr
    · rcases checked_ok hsrc with hfr | hs
      · exact .inl hfr
      · exact .inr fun r hr => (List.mem_append.mp hr).elim (hd r) (hs r)
  have hexec : exec (c.instr fd fs) s = (fpFinish c.dst fd res (s.retag fs c.src)).commit s :=
    (fpConvertTable_exec hc fd fs s).trans (fpEnter_commit_ok hcu1 hregs)
  rw [hexec]
  exact fpFinish_commit res (retag_fpEnables ..)

/-! ### Compares -/

/-- Each compare in S (R371). -/
theorem fpCompareTable_exec {p : (ArithFmt → BitVec 3 → FprNo → FprNo → Instr) × BitVec 4} (hp : p ∈ fpCompareTable)
    (cc : BitVec 3) (fs ft : FprNo) (s : State) :
    exec (p.1 .s cc fs ft) s = (fpCompareS p.2 cc fs ft s).commit s ∧
    exec (p.1 .d cc fs ft) s = (fpCompareD p.2 cc fs ft s).commit s ∧
    exec (p.1 .ps cc fs ft) s = (fpComparePs p.2 cc fs ft s).commit s := by
  simp only [fpCompareTable, List.mem_cons, List.not_mem_nil, or_false] at hp
  rcases hp with rfl | rfl | rfl | rfl | rfl | rfl | rfl | rfl | rfl | rfl | rfl | rfl | rfl | rfl | rfl | rfl <;>
    exact ⟨rfl, rfl, rfl⟩

/-- The entry of a condition code, its bit as a number (R47, R371). -/
theorem codeEntry_eq (cc : BitVec 3) (v : Bool) :
    codeEntry cc v =
      { dest := .fcsr, value := if v then 1#64 else 0#64, remaining := 1,
        bit := some (BitVec.ofNat 5 (codeBit cc.toNat)) } := by
  have hbit : fccBit cc = BitVec.ofNat 5 (codeBit cc.toNat) := by rw [← fccBit_toNat, BitVec.ofNat_toNat]; simp
  rw [codeEntry, hbit]
  cases v <;> rfl

/-- A compare in S or D with room in the queue (R371). -/
theorem fpCompareScalar_room {f : FpFmt} {fmt : ArithFmt} {narrow : BitVec 64 → FpBits f} {cond : BitVec 4}
    {cc : BitVec 3} {fs ft : FprNo} (hcu1 : s.cu1 = true) (hok : s.WideOk fmt.toFmt [fs, ft]) (hroom : s.Room) :
    let u := (s.retag fs fmt.toFmt).retag ft fmt.toFmt
    let r := fpCompare f cond (narrow (s.fprValue fs fmt.toFmt)) (narrow ((s.retag fs fmt.toFmt).fprValue ft fmt.toFmt))
    (r.2 &&& s.fpEnables = 0#5 → (fpCompareScalar f fmt narrow cond cc fs ft s).commit s =
      .next { u.recordFlags r.2 with pq := s.pq ++ [codeEntry cc r.1], pc := s.pc + 4#64 }) ∧
    (r.2 &&& s.fpEnables ≠ 0#5 → (fpCompareScalar f fmt narrow cond cc fs ft s).commit s =
      .next (takeException .fpe (u.recordFlags r.2))) := by
  intro u r
  have hlegal : ∀ q ∈ fmt.toFmt.checked [fs, ft], s.fpr64Ok q = true :=
    fun q hq => (s.fpr64Ok_iff q).mpr ((checked_ok hok).imp_right (· q hq))
  obtain ⟨t, ht⟩ := (fpCompareScalar f fmt narrow cond cc fs ft s).commit_next s
  rw [ht]
  rcases fpCompareScalar_cases ht with ⟨hc, -⟩ | ⟨-, ⟨q, hq, hbad⟩, -⟩ | ⟨-, -, hon, h⟩ | ⟨-, -, hoff, -, h⟩ |
    ⟨-, -, -, hfull, -⟩
  · exact absurd (hcu1.symm.trans hc) (by decide)
  · exact absurd ((hlegal q hq).symm.trans hbad) (by decide)
  · exact ⟨fun hoff => absurd hoff hon, fun _ => by rw [h]⟩
  · refine ⟨fun _ => ?_, fun hon => absurd hoff hon⟩
    have hpc : (u.recordFlags r.2).pc = s.pc := by simp [u]
    rw [h, ← hpc]
    rfl
  · exact absurd hroom (Nat.not_lt.mpr hfull)

/-- A compare in PS with room in the queue for two entries (R371). -/
theorem fpComparePs_room {cond : BitVec 4} {cc : BitVec 3} {fs ft : FprNo} (hcu1 : s.cu1 = true)
    (hok : s.WideOk .ps [fs, ft]) (hroom : s.pq.length + 2 ≤ s.cfg.pendingCapacity) :
    let u := (s.retag fs .ps).retag ft .ps
    let up := fpCompare .single cond (upperHalf (s.fprValue fs .ps)) (upperHalf ((s.retag fs .ps).fprValue ft .ps))
    let lo := fpCompare .single cond (lowerHalf (s.fprValue fs .ps)) (lowerHalf ((s.retag fs .ps).fprValue ft .ps))
    ((up.2 ||| lo.2) &&& s.fpEnables = 0#5 → (fpComparePs cond cc fs ft s).commit s =
      .next { u.recordFlags (up.2 ||| lo.2) with
        pq := s.pq ++ [codeEntry cc lo.1, codeEntry (cc + 1#3) up.1], pc := s.pc + 4#64 }) ∧
    ((up.2 ||| lo.2) &&& s.fpEnables ≠ 0#5 → (fpComparePs cond cc fs ft s).commit s =
      .next (takeException .fpe (u.recordFlags (up.2 ||| lo.2)))) := by
  intro u up lo
  have hlegal : ∀ q ∈ [fs, ft], s.fpr64Ok q = true :=
    fun q hq => (s.fpr64Ok_iff q).mpr ((hok rfl).imp_right (· q hq))
  obtain ⟨t, ht⟩ := (fpComparePs cond cc fs ft s).commit_next s
  rw [ht]
  rcases fpComparePs_cases ht with ⟨hc, -⟩ | ⟨-, ⟨q, hq, hbad⟩, -⟩ | ⟨-, -, hon, h⟩ | ⟨-, -, hoff, -, h⟩ |
    ⟨-, -, -, hfull, -⟩
  · exact absurd (hcu1.symm.trans hc) (by decide)
  · exact absurd ((hlegal q hq).symm.trans hbad) (by decide)
  · exact ⟨fun hoff => absurd hoff hon, fun _ => by rw [h]⟩
  · refine ⟨fun _ => ?_, fun hon => absurd hoff hon⟩
    have hpc : (u.recordFlags (up.2 ||| lo.2)).pc = s.pc := by simp [u]
    rw [h, ← hpc]
    rfl
  · exact absurd hroom (Nat.not_le.mpr hfull)

/-- Settles O50. -/
theorem fpuCompares : Obligations.FpuCompares := by
  intro p hp cc fs ft s hcu1 entry ends
  obtain ⟨hs, hd, hps⟩ := fpCompareTable_exec hp cc fs ft s
  have hentry (k : BitVec 3) (v : Bool) : entry k v = codeEntry k v := (codeEntry_eq k v).symm
  have hnarrow : s.WideOk ArithFmt.s.toFmt [fs, ft] := fun h => absurd h (by decide)
  refine ⟨fun hroom => ?_, fun hroom hok => ?_, fun hroom hok _ => ?_⟩
  · have h := fpCompareScalar_room (f := .single) (fmt := .s) (narrow := lowerHalf) (cond := p.2) (cc := cc) hcu1
      hnarrow hroom
    simp only [ends, hs, hentry]
    exact h
  · have h := fpCompareScalar_room (f := .double) (fmt := .d) (narrow := id) (cond := p.2) (cc := cc) hcu1 hok hroom
    simp only [ends, hd, hentry]
    exact h
  · have h := fpComparePs_room (cond := p.2) (cc := cc) hcu1 hok hroom
    simp only [ends, hps, hentry]
    exact h

end Sys2Proof.Machine

/-! The coprocessor checks at the head of an instruction (60_exceptions.md R504, R505; 10_state.md R36; 44_fpu_unit.md
R295; 46_mdmx_lane_ops.md R400). Which check an instruction makes is told once, for the whole table; what the check
does then decides. -/

namespace Sys2Proof.Machine

variable {s : State}

/-! ### Primary opcodes -/

/-- The primary opcode of a word in format J. -/
theorem jType_primary (op : BitVec 6) (index : BitVec 26) : (jType op index).extractLsb' 26 6 = op := by
  obtain ⟨rs, rt, rd, sa, funct, rfl⟩ := exists_index_fields index
  rw [jType_append, rType_primary]

/-- The primary opcode of a SPECIAL word with a code. -/
theorem codeType_primary (code : BitVec 20) (funct : BitVec 6) : (codeType code funct).extractLsb' 26 6 = 0x00#6 := by
  obtain ⟨rs, rt, rd, sa, rfl⟩ := exists_code_fields code
  rw [codeType_append, rType_primary]

/-- An opcode that is of no coprocessor (R117, R505). -/
theorem no_coprocessor {i : Instr} {op : BitVec 6} (h : primaryOpcode i = op)
    (hop : [0x11#6, 0x13#6, 0x31#6, 0x35#6, 0x39#6, 0x3D#6, 0x1E#6].contains op = false ∧ (op == 0x10#6) = false ∧
      (op == 0x1E#6) = false) :
    usesCop1 i = false ∧ usesCp0 i = false ∧ usesMdmx i = false := by
  unfold usesCop1 usesCp0 usesMdmx
  rw [h]
  exact hop

/-- An opcode of the FPU is neither MDMX nor CP0 (R117). -/
theorem only_fpu {i : Instr} {op : BitVec 6} (h : primaryOpcode i = op)
    (hop : (op == 0x10#6) = false ∧ (op == 0x1E#6) = false) : usesCp0 i = false ∧ usesMdmx i = false := by
  unfold usesCp0 usesMdmx
  rw [h]
  exact hop

/-- COP0 is neither coprocessor 1 nor MDMX (R117). -/
theorem only_cp0 {i : Instr} (h : primaryOpcode i = 0x10#6) : usesCop1 i = false ∧ usesMdmx i = false := by
  unfold usesCop1 usesMdmx
  rw [h]
  decide

/-- MDMX is not COP0 (R117). -/
theorem not_cp0_of_mdmx {i : Instr} (h : primaryOpcode i = 0x1E#6) : usesCp0 i = false := by
  unfold usesCp0
  rw [h]
  rfl

/-! ### The check of each instruction -/

/-- The check an instruction makes before anything else, if any. -/
inductive Guarded (i : Instr) (s : State) : Prop where
  /-- `MDMXEnter` (R400). -/
  | mdmx (f : Unit → Effect) (hother : usesCp0 i = false) (hwide : wideFields i = [])
      (hexec : exec i s = (Effect.ofExcept s s.mdmxEnter f).commit s)
  /-- `FPEnter` of the registers that name a 64-bit operand (R295). -/
  | fpu (f : Unit → Effect) (hother : usesCp0 i = false ∧ usesMdmx i = false)
      (hexec : exec i s = (Effect.ofExcept s (s.fpEnter (wideFields i)) f).commit s)
  /-- The privilege check of CP0 (R505). -/
  | cp0 (f : State → Effect) (hother : usesCop1 i = false ∧ usesMdmx i = false) (hwide : wideFields i = [])
      (hexec : exec i s = (withCp0 f s).commit s)
  /-- None. -/
  | free (hother : usesCop1 i = false ∧ usesCp0 i = false ∧ usesMdmx i = false) (hwide : wideFields i = [])

/-- The check of every instruction of the table. -/
theorem exec_guarded (i : Instr) (s : State) : Guarded i s := by
  cases i
  case mfc0 | dmfc0 | mtc0 | dmtc0 | eret =>
    exact .cp0 _ (only_cp0 (rType_primary ..)) rfl rfl
  case mfc1 | dmfc1 | cfc1 | mtc1 | dmtc1 | ctc1 | addS | addD | addPs | subS | subD | subPs | mulS | mulD | mulPs |
      divS | divD | divPs | recip2S | recip2D | recip2Ps | rsqrt2S | rsqrt2D | rsqrt2Ps | sqrtS | sqrtD | sqrtPs |
      absS | absD | absPs | movS | movD | movPs | negS | negD | negPs | recipS | recipD | recipPs | roundLS |
      roundLD | truncLS | truncLD | ceilLS | ceilLD | floorLS | floorLD | roundWS | roundWD | truncWS | truncWD |
      ceilWS | ceilWD | floorWS | floorWD | cvtWS | cvtWD | cvtLS | cvtLD | cvtSD | cvtSW | cvtSL | cvtDS | cvtDW |
      cvtDL | cFS | cFD | cFPs | cUnS | cUnD | cUnPs | cEqS | cEqD | cEqPs | cUeqS | cUeqD | cUeqPs | cOltS | cOltD
      | cOltPs | cUltS | cUltD | cUltPs | cOleS | cOleD | cOlePs | cUleS | cUleD | cUlePs | cSfS | cSfD | cSfPs |
      cNgleS | cNgleD | cNglePs | cSeqS | cSeqD | cSeqPs | cNglS | cNglD | cNglPs | cLtS | cLtD | cLtPs | cNgeS |
      cNgeD | cNgePs | cLeS | cLeD | cLePs | cNgtS | cNgtD | cNgtPs | maddS | maddD | maddPs | msubS | msubD |
      msubPs | nmaddS | nmaddD | nmaddPs | nmsubS | nmsubD | nmsubPs =>
    exact .fpu _ (only_fpu (rType_primary ..) (by decide)) rfl
  case bc1f | bc1t | lwc1 | ldc1 | swc1 | sdc1 =>
    exact .fpu _ (only_fpu (iType_primary ..) (by decide)) rfl
  case sll | srl | sra | dsll | dsrl | dsra | dsll32 | dsrl32 | dsra32 | sllv | srlv | srav | dsllv | dsrlv | dsrav
      | add | addu | sub | subu | and | or | xor | nor | slt | sltu | dadd | daddu | dsub | dsubu | jr | jalr | sync
      =>
    exact .free (no_coprocessor (rType_primary ..) (by decide)) rfl
  case bltz | bgez | beq | bne | blez | bgtz | addi | addiu | slti | sltiu | andi | ori | xori | daddi | daddiu |
      lui | lb | lbu | lh | lhu | lw | lwu | ld | sb | sh | sw | sd | ll | lld | sc | scd | lwl | lwr | ldl | ldr |
      swl | swr | sdl | sdr =>
    exact .free (no_coprocessor (iType_primary ..) (by decide)) rfl
  case j | jal =>
    exact .free (no_coprocessor (jType_primary ..) (by decide)) rfl
  case syscall | brk | halt =>
    exact .free (no_coprocessor (codeType_primary ..) (by decide)) rfl
  all_goals exact .mdmx _ (not_cp0_of_mdmx (rType_primary ..)) rfl rfl

/-! ### What the checks do -/

/-- The FPU that may not be used (R295, R505). -/
theorem fpEnter_unusable (h : s.cu1 = false) (regs : List FprNo) : s.fpEnter regs = .error (.cpU 1#2) := by
  rcases s.fpEnter_cases regs with ⟨-, he⟩ | ⟨hc, -⟩ | ⟨hc, -⟩
  · exact he
  · exact absurd (h.symm.trans hc) (by decide)
  · exact absurd (h.symm.trans hc) (by decide)

/-- The MDMX unit that may not be used (R400, R505). -/
theorem mdmxEnter_unusable (h : s.cu1 = false) : s.mdmxEnter = .error (.cpU 1#2) := by
  rcases s.mdmxEnter_cases with ⟨-, he⟩ | ⟨hc, -⟩ | ⟨hc, -⟩
  · exact he
  · exact absurd (h.symm.trans hc) (by decide)
  · exact absurd (h.symm.trans hc) (by decide)

/-- An odd 64-bit register with FR = 0 (R36, R295). -/
theorem fpEnter_odd (hcu1 : s.cu1 = true) (hfr : s.fr = false) {regs : List FprNo} (h : ∃ r ∈ regs, r.toNat % 2 = 1) :
    s.fpEnter regs = .error .ri := by
  obtain ⟨r, hr, hodd⟩ := h
  rcases s.fpEnter_cases regs with ⟨hc, -⟩ | ⟨-, -, he⟩ | ⟨-, hok, -⟩
  · exact absurd (hcu1.symm.trans hc) (by decide)
  · exact he
  · rcases (s.fpr64Ok_iff r).mp (hok r hr) with hf | heven
    · exact absurd (hfr.symm.trans hf) (by decide)
    · omega

/-- MDMX with FR = 0 (R400). -/
theorem mdmxEnter_noFr (hcu1 : s.cu1 = true) (hfr : s.fr = false) : s.mdmxEnter = .error .ri := by
  rcases s.mdmxEnter_cases with ⟨hc, -⟩ | ⟨-, -, he⟩ | ⟨-, hf, -⟩
  · exact absurd (hcu1.symm.trans hc) (by decide)
  · exact he
  · exact absurd (hfr.symm.trans hf) (by decide)

/-- A failed check is the trap from the unchanged state (R11). -/
theorem ofExcept_commit_error {r : Except Exc Unit} {e : Exc} (h : r = .error e) (f : Unit → Effect) :
    (Effect.ofExcept s r f).commit s = .next (takeException e s) := by
  rw [h]
  rfl

/-- Settles O14: the check of the instruction fails. -/
theorem coprocessorUnusable : Obligations.CoprocessorUnusable := by
  intro i s
  refine ⟨fun huses hcu1 => ?_, fun huses hum hexl hcu0 => ?_⟩
  · cases exec_guarded i s with
    | mdmx f _ _ hexec => exact hexec.trans (ofExcept_commit_error (mdmxEnter_unusable hcu1) f)
    | fpu f _ hexec => exact hexec.trans (ofExcept_commit_error (fpEnter_unusable hcu1 _) f)
    | cp0 _ hother => exact absurd (hother.1.symm.trans huses) (by decide)
    | free hother => exact absurd (hother.1.symm.trans huses) (by decide)
  · have hunusable : s.cp0Usable = false := by rw [cp0Usable_eq, hum, hexl, hcu0]; rfl
    cases exec_guarded i s with
    | mdmx _ hother => exact absurd (hother.symm.trans huses) (by decide)
    | fpu _ hother => exact absurd (hother.1.symm.trans huses) (by decide)
    | cp0 f _ _ hexec =>
      rw [hexec, withCp0_eq, hunusable]
      rfl
    | free hother => exact absurd (hother.2.1.symm.trans huses) (by decide)

/-- Settles O15: the check of the instruction fails. -/
theorem registerFileModeTraps : Obligations.RegisterFileModeTraps := by
  intro i s hcu1 hfr h
  cases exec_guarded i s with
  | mdmx f _ _ hexec => exact hexec.trans (ofExcept_commit_error (mdmxEnter_noFr hcu1 hfr) f)
  | fpu f hother hexec =>
    have hodd := h.resolve_left (by simp [hother.2])
    exact hexec.trans (ofExcept_commit_error (fpEnter_odd hcu1 hfr hodd) f)
  | cp0 _ hother hwide => simp [hother.2, hwide] at h
  | free hother hwide => simp [hother.2.2, hwide] at h

end Sys2Proof.Machine

/-! The load delay (70_reset_and_hazards.md R564-R568; 10_state.md R56-R60). A step that executes an instruction puts its
entries behind the due ones; its tick applies the due ones and makes the new ones due; so does the next step with
these, whatever it executes. -/

namespace Sys2Proof.Machine

variable {s u t : State}

/-! ### One step -/

/-- What a step leaves after serving the queue: the state the tick makes of `v`, up to an interrupt. -/
def Ticked (t v : State) (q es : List Pending) : Prop :=
  let d := { drainPending q v with pq := es.map Pending.age }
  t = d ∨ t = takeException .int d

section Ticked

variable {v : State} {q es : List Pending}

theorem Ticked.pq (h : Ticked t v q es) : t.pq = es.map Pending.age := by rcases h with rfl | rfl <;> rfl

theorem Ticked.gpr (h : Ticked t v q es) (r : GprNo) : t.readGpr r = (drainPending q v).readGpr r := by
  rcases h with rfl | rfl <;> rfl

theorem Ticked.fgr (h : Ticked t v q es) : t.fgr = (drainPending q v).fgr := by rcases h with rfl | rfl <;> rfl

theorem Ticked.tag (h : Ticked t v q es) : t.tag = (drainPending q v).tag := by rcases h with rfl | rfl <;> rfl

theorem Ticked.fcsr (h : Ticked t v q es) : t.fcsr = (drainPending q v).fcsr := by rcases h with rfl | rfl <;> rfl

theorem Ticked.mem (h : Ticked t v q es) (hq : ∀ e ∈ q, e.legal = true) : t.mem = v.mem := by
  have hmem : (drainPending q v).mem = v.mem := by rw [(drainPending_legal q v hq).1]
  rcases h with rfl | rfl <;> exact hmem

/-- An interrupt does not change FR (R510). -/
theorem Ticked.fr (h : Ticked t v q es) (hq : ∀ e ∈ q, e.legal = true) : t.fr = v.fr := by
  have hstatus : (drainPending q v).status = v.status := by rw [(drainPending_legal q v hq).1]
  rcases h with rfl | rfl
  · exact State.fr_eq_of_status _ _ hstatus
  · show ((drainPending q v).status ||| 2#32).getLsbD 26 = v.status.getLsbD 26
    rw [hstatus, getLsbD_or_two]
    rfl

end Ticked

/-- A tick behind entries that are due and entries that are not. -/
theorem tick_ticked {v : State} {q es : List Pending} (hpq : v.pq = q ++ es) (hq : ∀ e ∈ q, e.legal = true)
    (hes : ∀ e ∈ es, e.remaining = 1) (hrun : v.run ≠ .checkStop) : Ticked (tick v) v q es :=
  tick_append_cases v q es hpq hq (fun e he => by rw [hes e he]; decide) hrun

/-- A step that executes an instruction whose entries are `es` (R563, R564). -/
theorem step_ticked {i : Instr} {v : State} {es : List Pending} (hs : s.Inv) (hready : (samplePins s).Ready)
    (hf : fetchDecode (samplePins s) = .ok i) (he : exec i (samplePins s) = .next v) (hpq : v.pq = s.pq ++ es)
    (hes : ∀ e ∈ es, e.remaining = 1) (hrun : v.run = s.run) :
    ∃ t, step s = .next t ∧ t.Inv ∧ Ticked t v s.pq es := by
  have hstep := step_of_exec hready hf he
  obtain ⟨-, -, hrunning, -⟩ := hready
  refine ⟨tick v, hstep, stepKeepsInv s _ hs hstep, tick_ticked hpq hs.queue.2 hes ?_⟩
  rw [hrun, ← samplePins_run s, hrunning]
  decide

/-- Any step of a core that may run serves the whole queue it finds (R565, R568). -/
theorem step_serves (hs : s.Inv) (hready : (samplePins s).Ready) (h : step s = .next t) :
    ∃ v es, Ticked t v s.pq es := by
  have hu := samplePins_inv hs
  rcases step_cases h with ⟨hreset, -⟩ | ⟨-, hrun, -⟩ | ⟨-, -, hstop, -⟩ | ⟨-, v, rfl, hv⟩
  · exact absurd (hready.1.symm.trans hreset) (by decide)
  · exact absurd hready.2.2.1 hrun
  · exact absurd (hready.2.1.symm.trans hstop) (by decide)
  · obtain ⟨-, hsafe⟩ := fetchExecute_midInv hu hready hv
    obtain ⟨es, hpq, hes⟩ : ∃ es, v.pq = s.pq ++ es ∧ ∀ e ∈ es, e.Fresh := by
      rcases hv with ⟨e, -, rfl⟩ | ⟨i, -, hexec⟩
      · exact ⟨[], by simp, by simp⟩
      · obtain ⟨es, hpq, -, hes⟩ := (exec_ends i hexec).pq_fresh
        exact ⟨es, by simpa using hpq, hes⟩
    exact ⟨v, es, tick_ticked hpq hs.queue.2 (fun e he => (hes e he).1) hsafe⟩

/-! ### What the due entries leave alone -/

/-- Draining the same queue from two states keeps what applying one entry keeps. -/
theorem drainPending_rel (R : State → State → Prop)
    (hR : ∀ e a b a' b', R a b → applyPending e a = some a' → applyPending e b = some b' → R a' b')
    (hpq : ∀ a b, R a b → R { a with pq := [] } { b with pq := [] }) (q : List Pending)
    (hq : ∀ e ∈ q, e.legal = true) (a b : State) (h : R a b) : R (drainPending q a) (drainPending q b) := by
  induction q generalizing a b with
  | nil => exact hpq a b h
  | cons e q ih =>
    obtain ⟨a', ha⟩ := applyPending_of_legal a (hq e (by simp))
    obtain ⟨b', hb⟩ := applyPending_of_legal b (hq e (by simp))
    have hdue : e.remaining = 0 := by
      have hlegal := hq e (by simp)
      simp only [Pending.legal, Bool.and_eq_true, beq_iff_eq] at hlegal
      exact hlegal.1
    rw [drainPending, drainPending, if_pos hdue, if_pos hdue, ha, hb]
    exact ih (fun x hx => hq x (by simp [hx])) a' b' (hR e a b a' b' h ha hb)

/-- Two states with the same floating-point registers and mode. -/
structure SameFpr (a b : State) : Prop where
  fgr : a.fgr = b.fgr
  tag : a.tag = b.tag
  status : a.status = b.status

theorem SameFpr.put32 {a b : State} (h : SameFpr a b) (i : FprNo) (v : BitVec 32) (tg : FmtTag) :
    SameFpr (a.put32 i v tg) (b.put32 i v tg) where
  fgr := by simp only [State.put32, State.setFgrLow, State.setFgr, State.setTag, State.fgrAt, h.fgr]
  tag := by simp only [State.put32, State.setFgrLow, State.setFgr, State.setTag, h.tag]
  status := h.status

/-- One entry has the same effect on the same registers. -/
theorem SameFpr.apply {e : Pending} {a b a' b' : State} (h : SameFpr a b) (ha : applyPending e a = some a')
    (hb : applyPending e b = some b') : SameFpr a' b' := by
  obtain ⟨dest, value, remaining, bit⟩ := e
  match dest, bit with
  | .gpr i, none | .gpr i, some b | .fcsr, some b =>
    cases ha
    cases hb
    exact ⟨by simpa using h.fgr, by simpa using h.tag, by simpa using h.status⟩
  | .fpr32 i, none =>
    cases ha
    cases hb
    exact h.put32 i _ _
  | .fpr64 i, none =>
    cases ha
    cases hb
    have hfr : a.fr = b.fr := State.fr_eq_of_status _ _ h.status
    unfold State.rawWrite64 State.put64
    rw [hfr]
    dsimp only
    split
    · exact ⟨by simp only [State.setFgr, State.setTag, h.fgr], by simp only [State.setFgr, State.setTag, h.tag],
        h.status⟩
    · split
      · exact (h.put32 _ _ _).put32 _ _ _
      · exact h.put32 _ _ _

/-- The due entries write the same floating-point registers from either state. -/
theorem drainPending_sameFpr {q : List Pending} (hq : ∀ e ∈ q, e.legal = true) {a b : State} (h : SameFpr a b) :
    SameFpr (drainPending q a) (drainPending q b) :=
  drainPending_rel SameFpr (fun _ _ _ _ _ h ha hb => h.apply ha hb) (fun _ _ h => ⟨h.fgr, h.tag, h.status⟩) q hq a b h

/-- Two states with the same condition codes (R47). -/
def SameCodes (a b : State) : Prop := ∀ k < 8, a.fcsr.getLsbD (codeBit k) = b.fcsr.getLsbD (codeBit k)

/-- The bits of the condition codes are bits of the FCSR (R47). -/
theorem codeBit_lt {k : Nat} (hk : k < 8) : codeBit k < 32 := by
  unfold codeBit
  split <;> omega

theorem SameCodes.apply {e : Pending} {a b a' b' : State} (h : SameCodes a b) (ha : applyPending e a = some a')
    (hb : applyPending e b = some b') : SameCodes a' b' := by
  obtain ⟨dest, value, remaining, bit⟩ := e
  match dest, bit with
  | .gpr i, none | .gpr i, some b | .fpr32 i, none | .fpr64 i, none =>
    cases ha
    cases hb
    simpa [SameCodes] using h
  | .fcsr, some b =>
    cases ha
    cases hb
    intro k hk
    simp only [State.setFcsrBit, getLsbD_putBit _ _ _ _ (codeBit_lt hk), h k hk]

/-- The due entries write the same condition codes from either state. -/
theorem drainPending_sameCodes {q : List Pending} (hq : ∀ e ∈ q, e.legal = true) {a b : State} (h : SameCodes a b) :
    SameCodes (drainPending q a) (drainPending q b) :=
  drainPending_rel SameCodes (fun _ _ _ _ _ h ha hb => h.apply ha hb) (fun _ _ h => h) q hq a b h


/-! ### Loads of a general register -/

/-- There is room for the entries of any instruction (R57, R530). -/
theorem Inv.room (hs : s.Inv) : s.pq.length + 2 ≤ s.cfg.pendingCapacity := by
  have hcap := hs.config.2.2
  have hlen := hs.queue.1
  omega

/-- A load of a general register that does not trap schedules the value `gprLoad` gives (R564). -/
theorem gprLoad_exec {i : Instr} {rt : GprNo} {v : Word} (h : gprLoad i u = some (rt, v)) (hroom : u.Room)
    (halign : ∀ va n, loadAlignment i u = some (va, n) → va.toNat % n = 0) :
    ∃ w, exec i u = .next w ∧ w.pq = u.pq ++ [⟨.gpr rt, v, 1, none⟩] ∧ w.gpr = u.gpr ∧ w.mem = u.mem ∧
      w.run = u.run := by
  have aligned {i : Instr} {rt base : GprNo} {imm : BitVec 16} {n : Nat} (signed : Bool) (hn : AccessLength n)
      (halign : ∀ va n, loadAlignment i u = some (va, n) → va.toNat % n = 0)
      (ha : loadAlignment i u = some (u.va base imm, n))
      (hexec : exec i u = (loadTo (.gpr rt) n (loadExt signed) (u.va base imm) u).thenAdvance.commit u) :
      ∃ w, exec i u = .next w ∧ w.pq = u.pq ++ [⟨.gpr rt, extended signed n (u.loaded (u.va base imm) n), 1, none⟩] ∧
        w.gpr = u.gpr ∧ w.mem = u.mem ∧ w.run = u.run :=
    ⟨_, hexec.trans (load_extended signed hn (halign _ _ ha) hroom), rfl, rfl, rfl, rfl⟩
  unfold gprLoad at h
  dsimp only at h
  split at h
  case h_1 => cases h; exact aligned true (by decide) halign rfl rfl
  case h_2 => cases h; exact aligned false (by decide) halign rfl rfl
  case h_3 => cases h; exact aligned true (by decide) halign rfl rfl
  case h_4 => cases h; exact aligned false (by decide) halign rfl rfl
  case h_5 => cases h; exact aligned true (by decide) halign rfl rfl
  case h_6 => cases h; exact aligned false (by decide) halign rfl rfl
  case h_7 => cases h; exact aligned true (by decide) halign rfl rfl
  case h_8 => cases h; exact ⟨_, loadLinked_room (by decide) (halign _ _ rfl) hroom, rfl, rfl, rfl, rfl⟩
  case h_9 => cases h; exact ⟨_, loadLinked_room (by decide) (halign _ _ rfl) hroom, rfl, rfl, rfl, rfl⟩
  case h_10 rt base imm =>
    cases h
    exact ⟨_, (mergeLoadsAndStores rt base imm u).1 hroom, rfl, rfl, rfl, rfl⟩
  case h_11 rt base imm =>
    cases h
    exact ⟨_, (mergeLoadsAndStores rt base imm u).2.1 hroom, rfl, rfl, rfl, rfl⟩
  case h_12 rt base imm =>
    cases h
    exact ⟨_, (mergeLoadsAndStores rt base imm u).2.2.1 hroom, rfl, rfl, rfl, rfl⟩
  case h_13 rt base imm =>
    rw [Nat.mod_eq_of_lt (u.pendingOrCurrent rt).isLt] at h
    cases h
    exact ⟨_, (mergeLoadsAndStores rt base imm u).2.2.2.1 hroom, rfl, rfl, rfl, rfl⟩
  case h_14 => cases h

/-- Serving a queue that holds one due entry for a general register (R58). -/
theorem readGpr_of_served {v : State} {es : List Pending} {rt : GprNo} {x : Word}
    (h : Ticked t v [⟨.gpr rt, x, 0, none⟩] es) : t.readGpr rt = if rt = 0#5 then 0#64 else x := by
  rw [h.gpr]
  show (v.writeGpr rt x).readGpr rt = _
  rw [State.readGpr_writeGpr]
  by_cases hrt : rt = 0#5 <;> simp [hrt]

/-- The general registers after the step of an instruction that writes none: those of the due entries (R565). -/
theorem readGpr_of_due (hs : s.Inv) {v : State} {es : List Pending} (hgpr : v.gpr = s.gpr) (h : Ticked t v s.pq es)
    (r : GprNo) : t.readGpr r = if r = 0#5 then 0#64 else s.pendingOrCurrent r := by
  split
  next hr => rw [hr]; rfl
  next hr =>
    rw [h.gpr, drainPending_readGpr _ _ hs.queue.2 r hr, State.readGpr_eq_of_gpr s v r hgpr]
    rfl

/-- A load of a general register, and what the next step does with its entry (R564, R565). -/
theorem gprLoad_delivers {i : Instr} {rt : GprNo} {x : Word} (hs : s.Inv) (hready : (samplePins s).Ready)
    (hload : gprLoad i (samplePins s) = some (rt, x))
    (halign : ∀ va n, loadAlignment i (samplePins s) = some (va, n) → va.toNat % n = 0)
    (hf : fetchDecode (samplePins s) = .ok i) :
    ∃ t, step s = .next t ∧ t.Inv ∧ t.mem = s.mem ∧ t.pq = [⟨.gpr rt, x, 0, none⟩] ∧
      ∀ r, t.readGpr r = if r = 0#5 then 0#64 else s.pendingOrCurrent r := by
  have hroom : (samplePins s).Room := by
    have := Inv.room (samplePins_inv hs)
    simp only [State.Room]
    omega
  obtain ⟨w, hexec, hpq, hgpr, hmem, hrun⟩ := gprLoad_exec hload hroom halign
  rw [samplePins_pq] at hpq
  rw [samplePins_gpr] at hgpr
  rw [samplePins_run] at hrun
  rw [samplePins_mem] at hmem
  obtain ⟨t, hstep, hinv, ht⟩ := step_ticked hs hready hf hexec hpq (by simp) hrun
  exact ⟨t, hstep, hinv, (ht.mem hs.queue.2).trans hmem, ht.pq, readGpr_of_due hs hgpr ht⟩

/-! ### Loads of the FPU -/

/-- A raw 64-bit write with FR = 0, for every register whose pair exists (R32, log 11). -/
theorem rawWrite64_pair_of_ne (hfr : s.fr = false) {r : FprNo} (h31 : r ≠ 31#5) (v : Word) :
    s.rawWrite64 r v = (s.rawWrite32 r (v.extractLsb' 0 32)).rawWrite32 (r + 1#5) (v.extractLsb' 32 32) := by
  unfold State.rawWrite64 State.put64 pairForWrite
  rw [if_neg (by simp [hfr]), if_neg h31]
  rfl

/-- The low half of a register after a raw 32-bit write (R32). -/
theorem fgrAt_rawWrite32_low (s : State) (r : FprNo) (v : BitVec 32) :
    ((s.rawWrite32 r v).fgrAt r).toNat % 2 ^ 32 = v.toNat := by
  have hv := v.isLt
  rw [State.rawWrite32, State.fgrAt_put32, if_pos rfl, toNat_append_eq]
  omega

/-- The tag after a raw 32-bit write (R32). -/
theorem tagAt_rawWrite32 (s : State) (r : FprNo) (v : BitVec 32) :
    (s.rawWrite32 r v).tagAt r = .uninterpreted := by
  rw [State.rawWrite32, State.tagAt_put32, if_pos rfl]

/-- The registers after a raw 64-bit write with FR = 0 (R32). -/
theorem rawWrite64_halves (hfr : s.fr = false) {r : FprNo} (h31 : r ≠ 31#5) (v : Word) :
    ((s.rawWrite64 r v).fgrAt r).toNat % 2 ^ 32 = v.toNat % 2 ^ 32 ∧ (s.rawWrite64 r v).tagAt r = .uninterpreted ∧
    ((s.rawWrite64 r v).fgrAt (r + 1#5)).toNat % 2 ^ 32 = v.toNat / 2 ^ 32 ∧
    (s.rawWrite64 r v).tagAt (r + 1#5) = .uninterpreted := by
  have hne := (add_one_ne r).symm
  have hhigh : (v.extractLsb' 32 32).toNat = v.toNat / 2 ^ 32 := by
    have hlt := v.isLt
    rw [extractLsb'_toNat_div]
    omega
  rw [rawWrite64_pair_of_ne hfr h31]
  refine ⟨?_, ?_, (fgrAt_rawWrite32_low ..).trans hhigh, tagAt_rawWrite32 ..⟩
  · rw [State.rawWrite32, State.fgrAt_put32, if_neg hne, fgrAt_rawWrite32_low, extract_low_toNat]
  · rw [State.rawWrite32, State.tagAt_put32, if_neg hne, tagAt_rawWrite32]

/-- A load of the FPU that completes: its entry is due in the next step, and the due entries are served in this one
(R564, R565). -/
theorem fpuLoad_delivers {i : Instr} {dest : PendDest} {x : Word} (hs : s.Inv) (hready : (samplePins s).Ready)
    (hexec : exec i (samplePins s) = .next ((samplePins s).scheduled dest x))
    (hf : fetchDecode (samplePins s) = .ok i) :
    ∃ t, step s = .next t ∧ t.Inv ∧ t.pq = [⟨dest, x, 0, none⟩] ∧ t.fgr = (pendingTick s).fgr ∧
      t.tag = (pendingTick s).tag := by
  have hrun : s.run ≠ .checkStop := by
    have := hready.2.2.1
    rw [samplePins_run] at this
    simp [this]
  obtain ⟨t, hstep, hinv, ht⟩ := step_ticked hs hready hf hexec (es := [⟨dest, x, 1, none⟩]) (by simp) (by simp) (by simp)
  have hsame : SameFpr ((samplePins s).scheduled dest x) s := ⟨by simp, by simp, by simp⟩
  have hdrain := drainPending_sameFpr hs.queue.2 hsame
  refine ⟨t, hstep, hinv, ht.pq, ?_, ?_⟩
  · rw [ht.fgr, hdrain.fgr, pendingTick_legal s hs.queue.2 hrun]
  · rw [ht.tag, hdrain.tag, pendingTick_legal s hs.queue.2 hrun]

/-! ### Compares -/

/-- Recording flags leaves the condition codes alone (R296). -/
theorem raisedFcsr_codeBit (f : BitVec 32) (flags : FpExcs) (k : Nat) :
    (raisedFcsr f flags).getLsbD (codeBit k) = f.getLsbD (codeBit k) := by
  have hge : 23 ≤ codeBit k := by
    unfold codeBit
    split <;> omega
  rw [raisedFcsr_getLsbD, if_neg (by omega), if_neg (by omega), if_neg (by omega)]

/-- The entry of a condition code, due. -/
def dueCode (cc : BitVec 3) (v : Bool) : Pending := (codeEntry cc v).age

/-- Serving the entry of a condition code writes its bit (R59). -/
theorem applyPending_dueCode (s : State) (cc : BitVec 3) (v : Bool) :
    applyPending (dueCode cc v) s = some (s.setFcsrBit (fccBit cc) v) := by
  have hbit : ((BitVec.ofBool v).setWidth 64).getLsbD 0 = v := by cases v <;> decide
  show some (s.setFcsrBit (fccBit cc) (((BitVec.ofBool v).setWidth 64).getLsbD 0)) = _
  rw [hbit]

/-- A bit of the FCSR after one of its bits is written (R59). -/
theorem setFcsrBit_code (s : State) (cc : BitVec 3) (v : Bool) {k : Nat} (hk : k < 8) :
    (s.setFcsrBit (fccBit cc) v).fcsr.getLsbD (codeBit k) = if k = cc.toNat then v else s.fcsr.getLsbD (codeBit k) := by
  have hinj : codeBit k = codeBit cc.toNat ↔ k = cc.toNat := by
    unfold codeBit
    split <;> split <;> omega
  rw [State.setFcsrBit, fccBit_toNat, getLsbD_putBit _ _ _ _ (codeBit_lt hk)]
  simp only [hinj]

/-- A compare that completes: its entries are due in the next step, and the due entries are served in this one (R564,
R566). -/
theorem compare_delivers {i : Instr} {w : State} {flags : FpExcs} {es : List Pending} (hs : s.Inv)
    (hready : (samplePins s).Ready) (hf : fetchDecode (samplePins s) = .ok i)
    (hexec : exec i (samplePins s) = .next { w.recordFlags flags with
      pq := (samplePins s).pq ++ es, pc := (samplePins s).pc + 4#64 })
    (hfcsr : w.fcsr = s.fcsr) (hrun : w.run = s.run) (hes : ∀ e ∈ es, e.remaining = 1) :
    ∃ t, step s = .next t ∧ t.Inv ∧ t.pq = es.map Pending.age ∧ SameCodes t (pendingTick s) := by
  have hsafe : s.run ≠ .checkStop := by
    have := hready.2.2.1
    rw [samplePins_run] at this
    simp [this]
  obtain ⟨t, hstep, hinv, ht⟩ := step_ticked hs hready hf hexec (es := es) (by simp) hes hrun
  refine ⟨t, hstep, hinv, ht.pq, ?_⟩
  rw [pendingTick_legal s hs.queue.2 hsafe, SameCodes, ht.fcsr]
  refine drainPending_sameCodes hs.queue.2 fun k _ => ?_
  show (raisedFcsr w.fcsr flags).getLsbD (codeBit k) = _
  rw [raisedFcsr_codeBit, hfcsr]

/-- A due entry at the head of the queue is applied first (R58). -/
theorem drainPending_cons_due {e : Pending} (q : List Pending) (hdue : e.remaining = 0)
    (h : applyPending e s = some t) : drainPending (e :: q) s = drainPending q t := by
  rw [drainPending, if_pos hdue, h]

/-- The results of a compare, once its entries are served (R566). -/
theorem codes_of_served {v : State} {es : List Pending} {cc : BitVec 3} {rs : List Bool}
    (hrs : (∃ r, rs = [r]) ∨ ∃ l r, rs = [l, r] ∧ cc.toNat % 2 = 0)
    (h : Ticked t v (rs.zipIdx.map fun x => dueCode (cc + BitVec.ofNat 3 x.2) x.1) es) :
    ∀ k b, rs[k]? = some b → t.fcsr.getLsbD (codeBit (cc.toNat + k)) = b := by
  have hcc := cc.isLt
  rw [h.fcsr]
  rcases hrs with ⟨r, rfl⟩ | ⟨l, r, rfl, heven⟩
  · have hdrain : drainPending [dueCode cc r] v = { v.setFcsrBit (fccBit cc) r with pq := [] } := by
      rw [drainPending_cons_due _ rfl (applyPending_dueCode v cc r)]
      rfl
    intro k b hk
    match k with
    | 0 =>
      cases hk
      simp only [List.zipIdx_cons, List.zipIdx_nil, List.map_cons, List.map_nil, BitVec.add_zero,
        hdrain]
      exact (setFcsrBit_code v cc r hcc).trans (if_pos rfl)
    | k + 1 => cases hk
  · have hnext : (cc + 1#3).toNat = cc.toNat + 1 := by bv_omega
    have hdrain : drainPending [dueCode cc l, dueCode (cc + 1#3) r] v =
        { (v.setFcsrBit (fccBit cc) l).setFcsrBit (fccBit (cc + 1#3)) r with pq := [] } := by
      rw [drainPending_cons_due _ rfl (applyPending_dueCode v cc l),
        drainPending_cons_due _ rfl (applyPending_dueCode _ (cc + 1#3) r)]
      rfl
    intro k b hk
    simp only [List.zipIdx_cons, List.zipIdx_nil, List.map_cons, List.map_nil, BitVec.add_zero,
      Nat.zero_add, hdrain]
    match k with
    | 0 =>
      cases hk
      refine (setFcsrBit_code _ _ r hcc).trans ((if_neg (by omega)).trans ?_)
      exact (setFcsrBit_code v cc l hcc).trans (if_pos rfl)
    | 1 =>
      cases hk
      exact (setFcsrBit_code _ _ r (by omega)).trans (if_pos hnext.symm)
    | k + 2 => cases hk

/-- Settles O43: what the instruction schedules, and what the next step does with it. -/
theorem loadDelay : Obligations.LoadDelay := by
  intro s hs u due delivers hready
  have hu := samplePins_inv hs
  have hroom2 := Inv.room hu
  have hroom : u.Room := by
    simp only [State.Room, u]
    omega
  refine ⟨fun i rt v hload halign hf => ?_, fun hcu1 ft base imm => ⟨fun ha hf => ?_, fun ha hreg hf => ?_⟩,
    fun hcu1 p hp fmt cc fs ft => ?_⟩
  · obtain ⟨t, hstep, hinv, -, hpq, hold⟩ := gprLoad_delivers hs hready hload halign hf
    refine ⟨t, hstep, hold, fun t' hready' hstep' => ?_⟩
    obtain ⟨v', es, h⟩ := step_serves hinv hready' hstep'
    exact readGpr_of_served (hpq ▸ h)
  · obtain ⟨t, hstep, hinv, hpq, hfgr, htag⟩ :=
      fpuLoad_delivers hs hready ((fpuLoadsAndStores ft base imm u hcu1).1 ha hroom) hf
    refine ⟨t, hstep, ⟨hfgr, htag⟩, fun t' hready' hstep' => ?_⟩
    obtain ⟨v', es, h⟩ := step_serves hinv hready' hstep'
    rw [hpq] at h
    have hval : ((u.loaded (u.va base imm) 4).extractLsb' 0 32).toNat = (u.loaded (u.va base imm) 4).toNat := by
      rw [extract_low_toNat, Nat.mod_eq_of_lt (loaded_lt u _ 4)]
    refine ⟨?_, ?_⟩
    · rw [fgrAt_congr h.fgr]
      exact (fgrAt_rawWrite32_low v' ft _).trans hval
    · rw [tagAt_congr h.tag]
      exact tagAt_rawWrite32 v' ft _
  · obtain ⟨hload, -⟩ := (fpuLoadsAndStores ft base imm u hcu1).2.2 hreg ha
    obtain ⟨t, hstep, hinv, hpq, hfgr, htag⟩ := fpuLoad_delivers hs hready (hload hroom) hf
    refine ⟨t, hstep, ⟨hfgr, htag⟩, fun t' hready' hstep' => ?_⟩
    obtain ⟨v', es, h⟩ := step_serves hinv hready' hstep'
    have hfr := h.fr hinv.queue.2
    rw [hpq] at h
    simp only [fgrAt_congr h.fgr, tagAt_congr h.tag, hfr]
    refine ⟨fun hone => ?_, fun hzero h31 => rawWrite64_halves hzero h31 _⟩
    show (v'.rawWrite64 ft _).fgrAt ft = _ ∧ (v'.rawWrite64 ft _).tagAt ft = _
    rw [State.rawWrite64_fr _ _ _ hone, State.fgrAt_setTag, State.fgrAt_setFgr, if_pos rfl, State.tagAt_setTag,
      if_pos rfl]
    exact ⟨rfl, rfl⟩
  · intro r hok heven hoff hf
    obtain ⟨hcs, hcd, hcps⟩ := fpCompareTable_exec hp cc fs ft u
    have served {es : List Pending} {w : State}
        (hexec : exec (p.1 fmt cc fs ft) u = .next { w.recordFlags r.2 with pq := u.pq ++ es, pc := u.pc + 4#64 })
        (hfcsr : w.fcsr = s.fcsr) (hrun : w.run = s.run) (hone : ∀ e ∈ es, e.remaining = 1)
        (hage : es.map Pending.age = r.1.zipIdx.map fun x => dueCode (cc + BitVec.ofNat 3 x.2) x.1)
        (hr : (∃ b, r.1 = [b]) ∨ ∃ l b, r.1 = [l, b] ∧ cc.toNat % 2 = 0) :
        ∃ t, step s = .next t ∧ SameCodes t due ∧ ∀ t', (samplePins t).Ready → step t = .next t' →
          ∀ k b, r.1[k]? = some b → t'.fcsr.getLsbD (codeBit (cc.toNat + k)) = b := by
      obtain ⟨t, hstep, hinv, hpq, hcodes⟩ := compare_delivers hs hready hf hexec hfcsr hrun hone
      refine ⟨t, hstep, hcodes, fun t' hready' hstep' => ?_⟩
      obtain ⟨v', es', h⟩ := step_serves hinv hready' hstep'
      exact codes_of_served hr (by rwa [hpq, hage] at h)
    cases fmt with
    | s =>
      refine served (hcs.trans ((fpCompareScalar_room (fmt := .s) hcu1 hok hroom).1 hoff)) (by simp [u]) (by simp [u])
        (by simp) ?_ (.inl ⟨_, rfl⟩)
      simp [dueCode, r, State.compared]
    | d =>
      refine served (hcd.trans ((fpCompareScalar_room (fmt := .d) hcu1 hok hroom).1 hoff)) (by simp [u]) (by simp [u])
        (by simp) ?_ (.inl ⟨_, rfl⟩)
      simp [dueCode, r, State.compared]
    | ps =>
      refine served (hcps.trans ((fpComparePs_room hcu1 hok hroom2).1 hoff)) (by simp [u]) (by simp [u])
        (by simp) ?_ (.inr ⟨_, _, rfl, heven rfl⟩)
      simp [dueCode, r, State.compared]
      exact ⟨rfl, rfl⟩

/-! ### The merge-load pair -/

/-- The bytes of two adjacent ranges are the bytes of both. -/
theorem bytesFrom_add (s : State) (a : Word) (n m : Nat) :
    s.bytesFrom a (n + m) = s.bytesFrom a n ++ s.bytesFrom (a + BitVec.ofNat 64 n) m := by
  rw [State.bytesFrom_eq_map, State.bytesFrom_eq_map, State.bytesFrom_eq_map, List.range_add, List.map_append,
    List.map_map]
  congr 1
  refine List.map_congr_left fun j _ => ?_
  rw [Function.comp_apply, BitVec.add_assoc, BitVec.ofNat_add]

/-- A number read over two adjacent ranges, in either byte order (R84). -/
theorem loaded_add (s : State) (a : Word) {n m : Nat} (h : n + m ≤ 8) :
    (s.loaded a (n + m)).toNat =
      if s.bigEndianCPU false then
        (s.loaded a n).toNat * 2 ^ (8 * m) + (s.loaded (a + BitVec.ofNat 64 n) m).toNat
      else (s.loaded a n).toNat + (s.loaded (a + BitVec.ofNat 64 n) m).toNat * 2 ^ (8 * n) := by
  have hsmall (a : Word) (k : Nat) (hk : k ≤ 8) :
      Nat.ofDigits 256 ((if s.bigEndianCPU false then (s.bytesFrom a k).reverse else s.bytesFrom a k).map
        BitVec.toNat) = (s.loaded a k).toNat := by
    rw [State.loaded, valueOfBytes_toNat, Nat.mod_eq_of_lt]
    refine (Nat.ofDigits_lt_base_pow_length (by decide) ?_).trans_le ?_
    · simp only [List.mem_map]
      rintro _ ⟨b, -, rfl⟩
      exact b.isLt
    · have hlen : (if s.bigEndianCPU false then (s.bytesFrom a k).reverse else s.bytesFrom a k).length = k := by
        split <;> simp
      rw [List.length_map, hlen]
      exact Nat.pow_le_pow_right (by decide : 0 < 256) hk
  rw [← hsmall a (n + m) h, ← hsmall a n (by omega), ← hsmall _ m (by omega), bytesFrom_add]
  split
  · rw [List.reverse_append, List.map_append, Nat.ofDigits_append, List.length_map, List.length_reverse,
      State.bytesFrom_length, Nat.pow_mul, Nat.mul_comm, Nat.add_comm]
  · rw [List.map_append, Nat.ofDigits_append, List.length_map, State.bytesFrom_length, Nat.pow_mul, Nat.mul_comm]

/-- The two parts of an unaligned access of `w` bytes at `lo`, in either byte order: each is the whole access at a
multiple of `w`; otherwise they are the two sides of a boundary (R256). -/
theorem pair_parts {w : Nat} (hw : w = 4 ∨ w = 8) (be : Bool) {lo hi left right : Word}
    (hhi : hi = lo + BitVec.ofNat 64 (w - 1)) (hleft : left = if be then lo else hi)
    (hright : right = if be then hi else lo) :
    (leftPart w be left = (lo, w) ∧ rightPart w be right = (lo, w)) ∨
    ∃ n, 0 < n ∧ n < w ∧
      leftPart w be left = (if be then (lo, n) else (lo + BitVec.ofNat 64 n, w - n)) ∧
      rightPart w be right = (if be then (lo + BitVec.ofNat 64 n, w - n) else (lo, n)) := by
  subst hleft hright
  have hmod : hi.toNat % w = if lo.toNat % w = 0 then w - 1 else lo.toNat % w - 1 := by
    subst hhi
    rcases hw with rfl | rfl <;> split <;> bv_omega
  by_cases h0 : lo.toNat % w = 0
  · rw [if_pos h0] at hmod
    refine .inl ?_
    have hback : hi - BitVec.ofNat 64 (w - 1) = lo := hhi ▸ BitVec.add_sub_cancel ..
    have hcount : w - 1 + 1 = w := by omega
    cases be <;> simp [leftPart, rightPart, h0, hmod, hback, hcount]
  · rw [if_neg h0] at hmod
    refine .inr ⟨w - lo.toNat % w, ?_, by omega, ?_⟩
    · have := Nat.mod_lt lo.toNat (show w > 0 by omega)
      omega
    have hlt := Nat.mod_lt lo.toNat (show w > 0 by omega)
    have hback : hi - BitVec.ofNat 64 (lo.toNat % w - 1) = lo + BitVec.ofNat 64 (w - lo.toNat % w) := by
      subst hhi
      rcases hw with rfl | rfl <;> bv_omega
    have hcount : lo.toNat % w - 1 + 1 = w - (w - lo.toNat % w) := by omega
    cases be <;> simp [leftPart, rightPart, hmod, hback, hcount]

/-- Left bytes over an old value, then right bytes, are the whole access (R257-R260). -/
theorem merged_pair {w : Nat} (hw : w = 4 ∨ w = 8) (s : State) {lo hi left right : Word}
    (hhi : hi = lo + BitVec.ofNat 64 (w - 1)) (hleft : left = if s.bigEndianCPU false then lo else hi)
    (hright : right = if s.bigEndianCPU false then hi else lo) (old : Nat) :
    let l := leftPart w (s.bigEndianCPU false) left
    let r := rightPart w (s.bigEndianCPU false) right
    mergedLeft (8 * w) l.2 old (s.loaded l.1 l.2).toNat < 2 ^ (8 * w) ∧
    mergedRight r.2 (mergedLeft (8 * w) l.2 old (s.loaded l.1 l.2).toNat) (s.loaded r.1 r.2).toNat =
      (s.loaded lo w).toNat := by
  intro l r
  have hl := loaded_lt s l.1 l.2
  have hbound (hcount : l.2 ≤ w) : mergedLeft (8 * w) l.2 old (s.loaded l.1 l.2).toNat < 2 ^ (8 * w) := by
    have hrest : old % 2 ^ (8 * w - 8 * l.2) < 2 ^ (8 * w - 8 * l.2) := Nat.mod_lt _ (Nat.two_pow_pos _)
    calc mergedLeft (8 * w) l.2 old (s.loaded l.1 l.2).toNat
        < ((s.loaded l.1 l.2).toNat + 1) * 2 ^ (8 * w - 8 * l.2) := by
          rw [mergedLeft, Nat.add_mul, Nat.one_mul]
          exact Nat.add_lt_add_left hrest _
      _ ≤ 2 ^ (8 * l.2) * 2 ^ (8 * w - 8 * l.2) := Nat.mul_le_mul_right _ hl
      _ = 2 ^ (8 * w) := by rw [← Nat.pow_add, Nat.add_sub_cancel' (Nat.mul_le_mul_left 8 hcount)]
  rcases pair_parts hw (s.bigEndianCPU false) hhi hleft hright with ⟨hlp, hrp⟩ | ⟨n, hn0, hnw, hlp, hrp⟩
  · have hlt := hbound (by simp [l, hlp])
    refine ⟨hlt, ?_⟩
    simp only [l, r, hlp, hrp] at hlt ⊢
    rw [mergedRight, Nat.div_eq_of_lt hlt, Nat.zero_mul, Nat.zero_add]
  · have hsplit := loaded_add s lo (n := n) (m := w - n) (by omega)
    rw [Nat.add_sub_cancel' hnw.le] at hsplit
    rw [hsplit]
    cases hbe : s.bigEndianCPU false with
    | true =>
      simp only [hbe, if_true] at hlp hrp
      have hlt := hbound (by simp [l, hbe, hlp, hnw.le])
      refine ⟨hlt, ?_⟩
      have hrest : old % 2 ^ (8 * (w - n)) < 2 ^ (8 * (w - n)) := Nat.mod_lt _ (Nat.two_pow_pos _)
      simp only [l, r, hbe, hlp, hrp, if_true, mergedRight, mergedLeft, ← Nat.mul_sub]
      rw [Nat.add_comm (_ * _) (old % _), Nat.add_mul_div_right _ _ (Nat.two_pow_pos _), Nat.div_eq_of_lt hrest,
        Nat.zero_add]
    | false =>
      simp only [hbe, Bool.false_eq_true, if_false] at hlp hrp
      have hlt := hbound (by simp [l, hbe, hlp])
      refine ⟨hlt, ?_⟩
      have hkeep : 8 * w - 8 * (w - n) = 8 * n := by omega
      have hrest : old % 2 ^ (8 * n) < 2 ^ (8 * n) := Nat.mod_lt _ (Nat.two_pow_pos _)
      simp only [l, r, hbe, hlp, hrp, Bool.false_eq_true, if_false, mergedRight, mergedLeft, hkeep]
      rw [Nat.add_comm (_ * _) (old % _), Nat.add_mul_div_right _ _ (Nat.two_pow_pos _), Nat.div_eq_of_lt hrest,
        Nat.zero_add, Nat.add_comm]

/-- What a load reads depends on the memory and the byte order. -/
theorem loaded_congr (hmem : t.mem = s.mem) (hbe : t.bigEndianCPU false = s.bigEndianCPU false) (va : Word) (n : Nat) :
    t.loaded va n = s.loaded va n := by
  have hbytes : t.bytesFrom va n = s.bytesFrom va n := by
    rw [State.bytesFrom_eq_map, State.bytesFrom_eq_map]
    exact List.map_congr_left fun j _ => State.byteAt_eq_of_mem s t _ hmem
  rw [State.loaded, hbe, hbytes]

/-- Two loads of one register, back to back: the second one's value is there after the step that follows (R565). -/
theorem loadPair_delivers {i j : Instr} {rt : GprNo} {x y : Word} (hs : s.Inv) (hstep : step s = .next t)
    (hready : (samplePins s).Ready) (hready' : (samplePins t).Ready) (hfi : fetchDecode (samplePins s) = .ok i)
    (hfj : fetchDecode (samplePins t) = .ok j) (hi : gprLoad i (samplePins s) = some (rt, x))
    (hai : ∀ va n, loadAlignment i (samplePins s) = some (va, n) → va.toNat % n = 0)
    (haj : ∀ va n, loadAlignment j (samplePins t) = some (va, n) → va.toNat % n = 0)
    (hj : (samplePins t).mem = (samplePins s).mem → (samplePins t).pendingOrCurrent rt = x →
      gprLoad j (samplePins t) = some (rt, y)) :
    ∃ w, step t = .next w ∧ ∀ w', (samplePins w).Ready → step w = .next w' →
      w'.readGpr rt = if rt = 0#5 then 0#64 else y := by
  obtain ⟨t1, hstep1, hinv, hmem, hpq, -⟩ := gprLoad_delivers hs hready hi hai hfi
  obtain rfl : t1 = t := Host.Outcome.next.inj (hstep1.symm.trans hstep)
  have hpending : (samplePins t1).pendingOrCurrent rt = x := by
    rw [State.pendingOrCurrent, samplePins_pq, hpq]
    simp [youngestFor]
  have hload := hj (by simpa using hmem) hpending
  obtain ⟨w, hstep2, hinv2, -, hpq2, -⟩ := gprLoad_delivers hinv hready' hload haj hfj
  refine ⟨w, hstep2, fun w' hready2 hstep3 => ?_⟩
  obtain ⟨v, es, h⟩ := step_serves hinv2 hready2 hstep3
  exact readGpr_of_served (hpq2 ▸ h)

/-- A word, extended as LW extends it (R246). -/
theorem extended_word (m : Word) : (BitVec.ofNat 32 m.toNat).signExtend 64 = extended true 4 m := by
  rw [BitVec.signExtend, BitVec.ofNat_toNat, BitVec.toInt_setWidth]
  rfl

/-- A doubleword is not extended (R248). -/
theorem extended_double (m : Word) : BitVec.ofNat 64 m.toNat = extended true 8 m := by
  rw [BitVec.ofNat_toNat, BitVec.setWidth_eq]
  exact (BitVec.ofInt_toInt (x := m)).symm.trans (by rw [BitVec.toInt_eq_toNat_bmod]; rfl)

/-- The low word of a sign-extended word is that word. -/
theorem signExtend_ofNat_toNat_mod {x : Nat} (h : x < 2 ^ 32) :
    ((BitVec.ofNat 32 x).signExtend 64).toNat % 2 ^ 32 = x := by
  rw [← BitVec.toNat_setWidth, setWidth_signExtend, BitVec.toNat_ofNat, Nat.mod_eq_of_lt h]

/-- Settles O39: the second load merges into the entry of the first. -/
theorem unalignedLoadPair : Obligations.UnalignedLoadPair := by
  intro rt base k1 k2 s t hs hstep u v hready hready' hbe left right lo hi delivers
  have hleft : left = if u.bigEndianCPU false then lo else hi := by simp only [lo, hi]; split <;> rfl
  have hright : right = if u.bigEndianCPU false then hi else lo := by simp only [lo, hi]; split <;> rfl
  refine ⟨fun hfi hfj hhi => ?_, fun hfi hfj hhi => ?_⟩
  · obtain ⟨hlt, hmerged⟩ := merged_pair (.inl rfl) u hhi hleft hright (u.pendingOrCurrent rt).toNat
    refine loadPair_delivers hs hstep hready hready' hfi hfj rfl nofun nofun fun hmem hpending => ?_
    have hload := loaded_congr (s := u) (t := v) hmem hbe
    change some (rt, (BitVec.ofNat 32 (mergedRight (rightPart 4 (v.bigEndianCPU false) right).2
      ((v.pendingOrCurrent rt).toNat % 2 ^ 32) (v.loaded _ _).toNat)).signExtend 64) = _
    rw [hpending, signExtend_ofNat_toNat_mod hlt, hload, hbe, ← extended_word, ← hmerged]
  · obtain ⟨hlt, hmerged⟩ := merged_pair (.inr rfl) u hhi hleft hright (u.pendingOrCurrent rt).toNat
    refine loadPair_delivers hs hstep hready hready' hfi hfj rfl nofun nofun fun hmem hpending => ?_
    have hload := loaded_congr (s := u) (t := v) hmem hbe
    change some (rt, BitVec.ofNat 64 (mergedRight (rightPart 8 (v.bigEndianCPU false) right).2
      ((v.pendingOrCurrent rt).toNat % 2 ^ 64) (v.loaded _ _).toNat)) = _
    rw [hpending, BitVec.toNat_ofNat, Nat.mod_mod, Nat.mod_eq_of_lt hlt, hload, hbe, ← extended_double, ← hmerged]

end Sys2Proof.Machine

/-! The byte-lane multiplexer (20_memory.md R80-R86). A value assembled from memory is told bit by bit: bit `k` is bit
`k % 8` of the byte that `byteIndex` places at `k / 8`. Both forms of an access are compared bit by bit on a load and
byte by byte on a store. -/

namespace Sys2Proof.Machine

variable {s : State} {pa : Word} {n : Nat}

/-! ### Bits of assembled values -/

/-- The bits of bytes joined from the most significant one down. -/
theorem joinBytes_reverse_getLsbD (w : Nat) (bs : List Byte) (k : Nat) :
    (joinBytes w 0#w bs.reverse).getLsbD k =
      (decide (k < w) && ((bs[k / 8]?).getD 0#8).getLsbD (k % 8)) := by
  induction bs generalizing k with
  | nil => simp [joinBytes]
  | cons b bs ih =>
    have happend : ∀ (l : List Byte) (acc : BitVec w),
        joinBytes w acc (l ++ [b]) = (joinBytes w acc l <<< 8) ||| b.setWidth w := by
      intro l
      induction l with
      | nil => exact fun _ => rfl
      | cons c l ihl => exact fun acc => ihl _
    rw [List.reverse_cons, happend, BitVec.getLsbD_or, BitVec.getLsbD_shiftLeft, BitVec.getLsbD_setWidth, ih]
    by_cases hk : k < 8
    · simp [hk, Nat.div_eq_of_lt hk, Nat.mod_eq_of_lt hk]
    · have hdiv : k / 8 = (k - 8) / 8 + 1 := by omega
      have hmod : (k - 8) % 8 = k % 8 := by omega
      have hw : k < w → k - 8 < w := by omega
      rw [hdiv, List.getElem?_cons_succ, hmod, BitVec.getLsbD_of_ge b k (by omega)]
      by_cases hkw : k < w <;> simp [hk, hkw, hw]

/-- The bits of a value assembled from memory (R80, R84). -/
theorem valueOfBytes_bytesFrom_getLsbD (w : Nat) (be : Bool) (s : State) (a : Word) (n k : Nat) :
    (valueOfBytes w be (s.bytesFrom a n)).getLsbD k =
      (decide (k < w) && (decide (k < 8 * n) &&
        (s.byteAt (a + BitVec.ofNat 64 (byteIndex be n (k / 8)))).getLsbD (k % 8))) := by
  have horder : valueOfBytes w be (s.bytesFrom a n) =
      joinBytes w 0#w (if be then (s.bytesFrom a n).reverse else s.bytesFrom a n).reverse := by
    cases be <;> simp [valueOfBytes]
  rw [horder, joinBytes_reverse_getLsbD]
  by_cases hk : k < 8 * n
  · have hlist : (if be then (s.bytesFrom a n).reverse else s.bytesFrom a n)[k / 8]? =
        some (s.byteAt (a + BitVec.ofNat 64 (byteIndex be n (k / 8)))) := by
      cases be
      · rw [if_neg Bool.false_ne_true, State.bytesFrom_getElem?, if_pos (by omega)]
        rfl
      · rw [if_pos rfl, List.getElem?_reverse (by rw [State.bytesFrom_length]; omega), State.bytesFrom_length,
          State.bytesFrom_getElem?, if_pos (by omega)]
        rfl
    rw [hlist, Option.getD_some, decide_eq_true hk, Bool.true_and]
  · have hlist : (if be then (s.bytesFrom a n).reverse else s.bytesFrom a n)[k / 8]? = none := by
      rw [List.getElem?_eq_none]
      split <;> simp <;> omega
    rw [hlist, decide_eq_false hk]
    simp

/-- The bytes after a store of the byte form (R85). -/
theorem storeValue_byteAt {w : Nat} (s : State) (pa : Word) (v : BitVec w) (a : Word) (hn : n ≤ 2 ^ 64) :
    (storeValue s pa n v).byteAt a =
      if (a - pa).toNat < n then v.extractLsb' (8 * byteIndex (s.bigEndianCPU false) n (a - pa).toNat) 8
      else s.byteAt a := by
  rw [storeValue, State.byteAt_storeBytes _ _ _ _ (by simpa using hn), bytesOfValue_getElem?]
  split <;> rfl

/-! ### Lanes -/

/-- An address is its doubleword's base and its offset in it (R80). -/
theorem laneBase_add (pa : Word) : pa = laneBase pa + BitVec.ofNat 64 (pa.toNat % 8) := by
  have hbase := toNat_and_not_seven pa
  rw [← laneBase] at hbase
  bv_omega

/-- The base of a doubleword's own address. -/
theorem laneBase_of_aligned (h : pa.toNat % 8 = 0) : laneBase pa = pa := by
  conv => rhs; rw [laneBase_add pa, h]
  simp

/-- The positioning rule counts whole lanes (R81). -/
theorem laneShift_eq (be : Bool) (pa : Word) (n : Nat) :
    laneShift be pa n = 8 * (if be then 8 - pa.toNat % 8 - n else pa.toNat % 8) := by
  unfold laneShift
  cases be <;> simp [Nat.mul_comm]

/-- Lane `m` on, as a place in the access: the lane `i` of the access is the lane `shift / 8 + i` of the doubleword
(R81). -/
theorem byteIndex_lane (be : Bool) {i : Nat} (h : pa.toNat % 8 + n ≤ 8) (hi : i < n) :
    byteIndex be 8 ((if be then 8 - pa.toNat % 8 - n else pa.toNat % 8) + i) = pa.toNat % 8 + byteIndex be n i := by
  cases be <;> simp only [byteIndex, if_true, if_false, Bool.false_eq_true]
  omega

/-- The bits of the low `8n` bits' mask. -/
theorem lowMask_getLsbD (n k : Nat) :
    (BitVec.ofNat 64 (2 ^ (8 * n) - 1)).getLsbD k = (decide (k < 64) && decide (k < 8 * n)) := by
  rw [BitVec.getLsbD_ofNat, Nat.testBit_two_pow_sub_one]

/-- A load through the multiplexer gives the bytes in their order (R82, R84). -/
theorem laneLoad_eq (s : State) (isFetch : Bool) (h : pa.toNat % 8 + n ≤ 8) :
    laneLoad s pa n isFetch = valueOfBytes 64 (s.bigEndianCPU isFetch) (s.bytesFrom pa n) := by
  apply BitVec.eq_of_getLsbD_eq
  intro k hk
  rw [laneLoad, State.doubleword, laneShift_eq, BitVec.getLsbD_and, BitVec.getLsbD_ushiftRight, lowMask_getLsbD,
    valueOfBytes_bytesFrom_getLsbD, valueOfBytes_bytesFrom_getLsbD]
  by_cases hkn : k < 8 * n
  · generalize s.bigEndianCPU isFetch = be
    have hplace := byteIndex_lane (pa := pa) be h (i := k / 8) (by omega)
    generalize hm : (if be then 8 - pa.toNat % 8 - n else pa.toNat % 8) = m at hplace ⊢
    have hmn : m + n ≤ 8 := by
      rw [← hm]
      split <;> omega
    have haddr : laneBase pa + BitVec.ofNat 64 (pa.toNat % 8 + byteIndex be n (k / 8)) =
        pa + BitVec.ofNat 64 (byteIndex be n (k / 8)) := by
      conv => rhs; rw [laneBase_add pa]
      rw [BitVec.ofNat_add, BitVec.add_assoc]
    have hlt : 8 * m + k < 64 := by omega
    rw [show (8 * m + k) / 8 = m + k / 8 by omega, Nat.mul_add_mod, hplace, haddr]
    simp [hk, hkn, hlt]
  · simp [hkn]

/-- A doubleword that is read whole. -/
theorem laneLoad_doubleword (s : State) (isFetch : Bool) (h : pa.toNat % 8 = 0) :
    s.doubleword (s.bigEndianCPU isFetch) pa = laneLoad s pa 8 isFetch := by
  rw [laneLoad_eq s isFetch (by omega), State.doubleword, laneBase_of_aligned h]

/-- The bits of the mask of a store: the lanes from the shift on (R83). -/
theorem laneMask_getLsbD (be : Bool) (pa : Word) (n k : Nat) (hk : k < 64) :
    (laneMask be pa n).getLsbD k = (decide (laneShift be pa n ≤ k) && decide (k - laneShift be pa n < 8 * n)) := by
  have hlt : k - laneShift be pa n < 64 := by omega
  rw [laneMask, BitVec.getLsbD_shiftLeft, lowMask_getLsbD]
  by_cases h : laneShift be pa n ≤ k <;> simp [hk, hlt, h]

/-- The byte on each lane of a merged doubleword: of the value where the mask selects the lane, else as it was (R83). -/
theorem laneMerge_byte (be : Bool) (pa : Word) (n : Nat) (dw v : BitVec 64) {l m : Nat} (hl : l < 8)
    (hm : laneShift be pa n = 8 * m) :
    (laneMerge be pa n dw v).extractLsb' (8 * l) 8 =
      if m ≤ l ∧ l - m < n then v.extractLsb' (8 * (l - m)) 8 else dw.extractLsb' (8 * l) 8 := by
  apply BitVec.eq_of_getLsbD_eq
  intro k hk
  have hlk : 8 * l + k < 64 := by omega
  rw [apply_ite (fun x : BitVec 8 => x.getLsbD k)]
  simp only [BitVec.getLsbD_extractLsb', laneMerge, BitVec.getLsbD_or, BitVec.getLsbD_and, BitVec.getLsbD_not,
    laneMask_getLsbD be pa n _ hlk, BitVec.getLsbD_shiftLeft, hm, hk, hlk, decide_true, Bool.true_and]
  by_cases hsel : m ≤ l ∧ l - m < n
  · have h1 : 8 * m ≤ 8 * l + k := by omega
    have h2 : 8 * l + k - 8 * m < 8 * n := by omega
    have h3 : 8 * l + k - 8 * m = 8 * (l - m) + k := by omega
    rw [h3] at h2
    simp only [hsel, h1, h2, h3, and_self, if_true, decide_true, Bool.not_true, Bool.and_false, Bool.false_or,
      Bool.and_true, Nat.not_lt.mpr h1, decide_false, Bool.not_false, Bool.true_and]
  · have hmask : (decide (8 * m ≤ 8 * l + k) && decide (8 * l + k - 8 * m < 8 * n)) = false := by
      rw [Bool.and_eq_false_iff, decide_eq_false_iff_not, decide_eq_false_iff_not]
      omega
    simp only [hsel, hmask, if_false, Bool.not_false, Bool.and_true, Bool.and_false, Bool.or_false]

/-- One byte of a doubleword is the byte of memory on its lane (R80). -/
theorem doubleword_byte (s : State) (be : Bool) (pa : Word) {l : Nat} (hl : l < 8) :
    (s.doubleword be pa).extractLsb' (8 * l) 8 = s.byteAt (laneBase pa + BitVec.ofNat 64 (byteIndex be 8 l)) := by
  apply BitVec.eq_of_getLsbD_eq
  intro k hk
  have hlk : 8 * l + k < 64 := by omega
  rw [BitVec.getLsbD_extractLsb', State.doubleword, valueOfBytes_bytesFrom_getLsbD,
    show (8 * l + k) / 8 = l by omega, Nat.mul_add_mod, Nat.mod_eq_of_lt hk]
  simp [hk, hlk]

/-- Reversing the places twice gives them back. -/
theorem byteIndex_byteIndex (be : Bool) {j : Nat} (h : j < n) : byteIndex be n (byteIndex be n j) = j := by
  cases be <;> simp only [byteIndex, if_true, if_false, Bool.false_eq_true]
  omega

/-- A place of an access is inside it. -/
theorem byteIndex_lt (be : Bool) {j : Nat} (h : j < n) : byteIndex be n j < n := by
  cases be <;> simp only [byteIndex, if_true, if_false, Bool.false_eq_true] <;> omega

/-- A store through the multiplexer leaves every byte as the byte form leaves it (R83, R85). -/
theorem laneStore_byteAt (s : State) (v : BitVec 64) (a : Word) (h : pa.toNat % 8 + n ≤ 8) :
    (laneStore s pa n v).byteAt a = (storeValue s pa n v).byteAt a := by
  have hshift := laneShift_eq (s.bigEndianCPU false) pa n
  have hbase := laneBase_add pa
  rw [laneStore, State.byteAt_storeBytes _ _ _ _ (by simp), bytesOfValue_getElem?,
    storeValue_byteAt s pa v a (by omega)]
  generalize s.bigEndianCPU false = be at hshift ⊢
  generalize hj : (a - laneBase pa).toNat = j
  by_cases hj8 : j < 8
  · have haddr : laneBase pa + BitVec.ofNat 64 j = a := by bv_omega
    have hl := byteIndex_lt be hj8
    rw [if_pos hj8, Option.getD_some, laneMerge_byte _ _ _ _ _ hl hshift, doubleword_byte _ _ _ hl,
      byteIndex_byteIndex be hj8, haddr]
    by_cases hin : pa.toNat % 8 ≤ j ∧ j < pa.toNat % 8 + n
    · have hoff : (a - pa).toNat = j - pa.toNat % 8 := by bv_omega
      have hlane : byteIndex be 8 j = (if be then 8 - pa.toNat % 8 - n else pa.toNat % 8) +
          byteIndex be n (j - pa.toNat % 8) := by
        cases be <;> simp only [byteIndex, if_true, if_false, Bool.false_eq_true] <;> omega
      have hin' := byteIndex_lt be (show j - pa.toNat % 8 < n by omega)
      rw [hoff, if_pos (show j - pa.toNat % 8 < n by omega), hlane, Nat.add_sub_cancel_left,
        if_pos ⟨Nat.le_add_right .., hin'⟩]
    · have hoff : ¬ (a - pa).toNat < n := by bv_omega
      rw [if_neg hoff, if_neg]
      cases be <;> simp only [byteIndex, if_true, if_false, Bool.false_eq_true] <;> omega
  · have hoff : ¬ (a - pa).toNat < n := by bv_omega
    rw [if_neg hj8, if_neg hoff, Option.getD_none]

/-- The byte enables select the lanes from the shift on (R80, R83). -/
theorem laneEnables_getLsbD (be : Bool) (h : pa.toNat % 8 + n ≤ 8) (k : Nat) :
    (laneEnables be pa n).getLsbD k =
      (decide (laneShift be pa n / 8 ≤ k) && decide (k < laneShift be pa n / 8 + n)) := by
  have hm : laneShift be pa n / 8 + n ≤ 8 := by
    rw [laneShift_eq, Nat.mul_div_cancel_left _ (by decide)]
    split <;> omega
  rw [laneEnables, BitVec.getLsbD_shiftLeft, BitVec.getLsbD_ofNat, Nat.testBit_two_pow_sub_one]
  generalize laneShift be pa n / 8 = m at hm ⊢
  rw [Bool.eq_iff_iff]
  simp only [Bool.and_eq_true, decide_eq_true_eq, Bool.not_eq_true', decide_eq_false_iff_not]
  omega

/-! ### Fetch -/

/-- The four bytes of a fetch, joined, are the word the decoder sees (R84, R90). -/
theorem wordOfBytes_eq_valueOfBytes (be : Bool) (b0 b1 b2 b3 : Byte) :
    (valueOfBytes 64 be [b0, b1, b2, b3]).setWidth 32 = wordOfBytes be b0 b1 b2 b3 := by
  have h0 := b0.isLt
  have h1 := b1.isLt
  have h2 := b2.isLt
  have h3 := b3.isLt
  apply BitVec.eq_of_toNat_eq
  rw [BitVec.toNat_setWidth, valueOfBytes_toNat]
  cases be <;>
    simp only [wordOfBytes, if_true, if_false, Bool.false_eq_true, toNat_append_eq, List.reverse_cons, List.reverse_nil,
      List.nil_append, List.cons_append, List.map_cons, List.map_nil, Nat.ofDigits_cons, Nat.ofDigits_nil] <;>
    omega

/-- An instruction fetched through the multiplexer is the word the decoder sees (R82, R90). -/
theorem laneLoad_fetch (s : State) (h : pa.toNat % 4 = 0) :
    (laneLoad s pa 4 true).setWidth 32 =
      wordOfBytes s.configBE (s.byteAt pa) (s.byteAt (pa + 1#64)) (s.byteAt (pa + 2#64)) (s.byteAt (pa + 3#64)) := by
  rw [laneLoad_eq s true (by omega), State.bytesFrom_eq_map, bigEndianCPU_fetch]
  simpa [List.range_succ] using wordOfBytes_eq_valueOfBytes s.configBE _ _ _ _

/-! ### The 16-byte access -/

section Sixteen

variable (h16 : pa.toNat % 16 = 0)

include h16

/-- The second transfer is at a multiple of 8 as the first is. -/
theorem aligned_second : (pa + 8#64).toNat % 8 = 0 := by bv_omega

/-- The two transfers of a load give what `MemRead` gives (R86). -/
theorem memRead16_eq_lanes (s : State) : memRead16 s pa = .ok (laneLoad16 s pa) := by
  rw [memRead16_of_aligned s pa h16]
  congr 1
  have hsecond := aligned_second h16
  apply BitVec.eq_of_getLsbD_eq
  intro k hk
  have hbyte (i j : Nat) (hij : i = 8 + j) :
      pa + BitVec.ofNat 64 i = pa + 8#64 + BitVec.ofNat 64 j := by
    subst hij
    rw [BitVec.ofNat_add, BitVec.add_assoc]
  rw [laneLoad16, laneLoad_eq s false (by omega), laneLoad_eq s false (pa := pa + 8#64) (by omega),
    valueOfBytes_bytesFrom_getLsbD]
  by_cases hk64 : k < 64
  · cases s.bigEndianCPU false <;>
      simp only [if_true, if_false, Bool.false_eq_true, BitVec.getLsbD_append, valueOfBytes_bytesFrom_getLsbD, hk64,
        hk, decide_true, Bool.true_and, byteIndex, Nat.reduceMul]
    rw [hbyte (16 - 1 - k / 8) (8 - 1 - k / 8) (by omega)]
  · have hsub : (k - 64) / 8 = k / 8 - 8 := by omega
    have hmod : (k - 64) % 8 = k % 8 := by omega
    have hlt : k - 64 < 64 := by omega
    cases s.bigEndianCPU false <;>
      simp only [if_true, if_false, Bool.false_eq_true, BitVec.getLsbD_append, valueOfBytes_bytesFrom_getLsbD, hk64,
        hk, hlt, decide_true, decide_false, Bool.true_and, byteIndex, hsub, hmod, Nat.reduceMul]
    · rw [hbyte (k / 8) (k / 8 - 8) (by omega)]
    · rw [show 16 - 1 - k / 8 = 8 - 1 - (k / 8 - 8) by omega]

omit h16 in
/-- A store through the multiplexer keeps the byte order of the data accesses. -/
theorem laneStore_bigEndianCPU (s : State) (pa : Word) (n : Nat) (v : BitVec 64) :
    (laneStore s pa n v).bigEndianCPU false = s.bigEndianCPU false := by
  simp [laneStore, State.bigEndianCPU, State.re, State.userMode, State.kernelMode, State.exl, State.um]

omit h16 in
/-- The two transfers, with the place of each half (R86). -/
theorem laneStore16_halves (s : State) (pa : Word) (v : BitVec 128) :
    laneStore16 s pa v =
      laneStore (laneStore s pa 8 (v.extractLsb' (if s.bigEndianCPU false then 64 else 0) 64)) (pa + 8#64) 8
        (v.extractLsb' (if s.bigEndianCPU false then 0 else 64) 64) := by
  rw [laneStore16_eq]
  cases s.bigEndianCPU false <;> rfl

omit h16 in
/-- A byte of a half is a byte of the value. -/
theorem extract_half_byte (v : BitVec 128) (start : Nat) {i : Nat} (hi : i < 8) :
    (v.extractLsb' start 64).extractLsb' (8 * i) 8 = v.extractLsb' (start + 8 * i) 8 := by
  apply BitVec.eq_of_getLsbD_eq
  intro k hk
  simp [hk, show 8 * i + k < 64 by omega, Nat.add_assoc]

/-- The bytes after the two transfers of a store are those of the byte form (R86). -/
theorem laneStore16_byteAt (s : State) (v : BitVec 128) (a : Word) :
    (laneStore16 s pa v).byteAt a = (storeValue s pa 16 v).byteAt a := by
  have hsecond := aligned_second h16
  rw [laneStore16_halves, laneStore_byteAt _ _ a (by omega), storeValue_byteAt _ _ _ _ (by decide),
    laneStore_bigEndianCPU, laneStore_byteAt _ _ a (by omega), storeValue_byteAt _ _ _ _ (by decide),
    storeValue_byteAt _ _ _ _ (by decide)]
  generalize s.bigEndianCPU false = be
  by_cases hhigh : (a - (pa + 8#64)).toNat < 8
  · have hoff : (a - pa).toNat = (a - (pa + 8#64)).toNat + 8 := by bv_omega
    have hin : (a - (pa + 8#64)).toNat + 8 < 16 := by omega
    have hplace : (if be then 0 else 64) + 8 * byteIndex be 8 (a - (pa + 8#64)).toNat =
        8 * byteIndex be 16 ((a - (pa + 8#64)).toNat + 8) := by
      cases be <;> simp only [byteIndex, if_true, if_false, Bool.false_eq_true] <;> omega
    rw [if_pos hhigh, hoff, if_pos hin, extract_half_byte v _ (byteIndex_lt be hhigh), hplace]
  · rw [if_neg hhigh]
    by_cases hlow : (a - pa).toNat < 8
    · have hplace : (if be then 64 else 0) + 8 * byteIndex be 8 (a - pa).toNat =
          8 * byteIndex be 16 (a - pa).toNat := by
        cases be <;> simp only [byteIndex, if_true, if_false, Bool.false_eq_true] <;> omega
      rw [if_pos hlow, if_pos (hlow.trans (by decide)), extract_half_byte v _ (byteIndex_lt be hlow), hplace]
    · have hout : ¬ (a - pa).toNat < 16 := by bv_omega
      rw [if_neg hlow, if_neg hout]

/-- The doubleword at one of the two transfers of a store holds that transfer's half (R86). -/
theorem laneStore16_doubleword (s : State) (v : BitVec 128) {start off : Nat} {b : Word}
    (hb : b = pa + BitVec.ofNat 64 off)
    (hoff : off = 0 ∨ off = 8)
    (hplace : ∀ l < 8, start + 8 * l =
      8 * byteIndex (s.bigEndianCPU false) 16 (off + byteIndex (s.bigEndianCPU false) 8 l)) :
    (laneStore16 s pa v).doubleword (s.bigEndianCPU false) b = v.extractLsb' start 64 := by
  have haligned : b.toNat % 8 = 0 := by
    rcases hoff with rfl | rfl <;> bv_omega
  have hbytes (l : Nat) (hl : l < 8) :
      ((laneStore16 s pa v).doubleword (s.bigEndianCPU false) b).extractLsb' (8 * l) 8 =
        (v.extractLsb' start 64).extractLsb' (8 * l) 8 := by
    have hi := byteIndex_lt (s.bigEndianCPU false) hl
    have hdist : (b + BitVec.ofNat 64 (byteIndex (s.bigEndianCPU false) 8 l) - pa).toNat =
        off + byteIndex (s.bigEndianCPU false) 8 l := by
      subst hb
      bv_omega
    rw [doubleword_byte _ _ _ hl, laneBase_of_aligned haligned, laneStore16_byteAt h16, storeValue_byteAt _ _ _ _
      (by decide), hdist, if_pos (by omega), extract_half_byte v start hl, hplace l hl]
  apply BitVec.eq_of_getLsbD_eq
  intro k hk
  have hbit := congrArg (fun x : BitVec 8 => x.getLsbD (k % 8)) (hbytes (k / 8) (by omega))
  simpa only [BitVec.getLsbD_extractLsb', Nat.mod_lt k (by decide : 8 > 0), decide_true, Bool.true_and,
    Nat.div_add_mod] using hbit

end Sixteen

/-- Settles O34: loads agree bit by bit, stores byte by byte. -/
theorem laneMultiplexer : Obligations.LaneMultiplexer := by
  intro s pa be
  refine ⟨fun n v hn hin => ⟨?_, fun a => laneStore_byteAt s v a hin, laneEnables_getLsbD be hin,
    laneLoad_fetch s⟩, fun v h16 => ⟨memRead16_eq_lanes h16 s, ?_, ?_, ?_, ?_⟩⟩
  · rcases memRead_cases s pa n with ⟨-, hread⟩ | ⟨hout, -⟩
    · rw [hread, laneLoad_eq s false hin]
    · exact absurd hin (of_decide_eq_false hout)
  · rcases memWrite16_cases s pa v with ⟨-, hok⟩ | ⟨hne, -⟩
    · refine ⟨_, hok, fun a => ?_⟩
      rw [laneStore16_byteAt h16, State.byteAt_eq_of_mem _ _ _ (clearLink_mem ..)]
    · exact absurd h16 hne
  · unfold laneTransfers16
    cases be <;> rfl
  · rw [laneStore16_doubleword h16 s v (start := if be then 64 else 0) (off := 0) (by simp) (.inl rfl)]
    · cases be <;> rfl
    · intro l hl
      show _ = 8 * byteIndex be 16 (0 + byteIndex be 8 l)
      cases be <;> simp only [byteIndex, if_true, if_false, Bool.false_eq_true] <;> omega
  · rw [laneStore16_doubleword h16 s v (start := if be then 0 else 64) (off := 8) rfl (.inr rfl)]
    · cases be <;> rfl
    · intro l hl
      show _ = 8 * byteIndex be 16 (8 + byteIndex be 8 l)
      cases be <;> simp only [byteIndex, if_true, if_false, Bool.false_eq_true] <;> omega

end Sys2Proof.Machine

/-! Rounding a rational to an integer (44_fpu_unit.md R283, R311; 47_mdmx_accumulator.md R465). `roundsTo` says which
integer a mode names; there is one, and `roundToInt` finds it. -/

namespace Sys2Proof.Machine

/-- The floor of a rational is at most it, by less than 1. -/
theorem floor_spec (r : Rat) : (0 : Rat) ≤ r - r.floor ∧ r - r.floor < 1 :=
  ⟨sub_nonneg.mpr (Rat.floor_le r), by have h := Rat.lt_floor_add_one r; push_cast at h; linarith⟩

/-- Two integers less than 1 apart are one integer. -/
theorem int_eq_of_rat_lt {m n : Int} (h1 : (m : Rat) < n + 1) (h2 : (n : Rat) < m + 1) : m = n := by
  have h1' : m < n + 1 := by exact_mod_cast h1
  have h2' : n < m + 1 := by exact_mod_cast h2
  omega

/-- A mode rounds a rational to one integer only. -/
theorem roundsTo_unique {rm : RoundingMode} {r : Rat} {m n : Int} (hm : roundsTo rm r m) (hn : roundsTo rm r n) :
    m = n := by
  cases rm with
  | nearestEven =>
    obtain ⟨hm1, hm2, hmeven⟩ := hm
    obtain ⟨hn1, hn2, hneven⟩ := hn
    have hle1 : (m : Rat) ≤ n + 1 := by linarith
    have hle2 : (n : Rat) ≤ m + 1 := by linarith
    have hle1' : m ≤ n + 1 := by exact_mod_cast hle1
    have hle2' : n ≤ m + 1 := by exact_mod_cast hle2
    rcases (by omega : m = n ∨ m = n + 1 ∨ n = m + 1) with h | h | h
    · exact h
    · have hcast : (m : Rat) = n + 1 := by exact_mod_cast h
      have := hmeven (.inr (by linarith))
      have := hneven (.inl (by linarith))
      omega
    · have hcast : (n : Rat) = m + 1 := by exact_mod_cast h
      have := hmeven (.inl (by linarith))
      have := hneven (.inr (by linarith))
      omega
  | towardZero =>
    rcases le_or_gt 0 r with h | h
    · obtain ⟨hm1, hm2⟩ := hm.1 h
      obtain ⟨hn1, hn2⟩ := hn.1 h
      exact int_eq_of_rat_lt (by linarith) (by linarith)
    · obtain ⟨hm1, hm2⟩ := hm.2 h
      obtain ⟨hn1, hn2⟩ := hn.2 h
      exact int_eq_of_rat_lt (by linarith) (by linarith)
  | towardPlus =>
    obtain ⟨hm1, hm2⟩ := hm
    obtain ⟨hn1, hn2⟩ := hn
    exact int_eq_of_rat_lt (by linarith) (by linarith)
  | towardMinus =>
    obtain ⟨hm1, hm2⟩ := hm
    obtain ⟨hn1, hn2⟩ := hn
    exact int_eq_of_rat_lt (by linarith) (by linarith)

/-- `roundToInt` gives the integer its mode names (R283, R311). -/
theorem roundToInt_roundsTo (rm : RoundingMode) (r : Rat) : roundsTo rm r (roundToInt rm r) := by
  obtain ⟨hrem0, hrem1⟩ := floor_spec r
  unfold roundToInt
  generalize r.floor = down at *
  cases rm with
  | nearestEven =>
    by_cases hup : 1 / 2 < r - down
    · simp only [hup, decide_true, Bool.true_or, if_true]
      refine ⟨?_, ?_, ?_⟩ <;> push_cast
      · linarith
      · linarith
      · rintro (h | h) <;> linarith
    · by_cases htie : r - down = 1 / 2
      · rcases Int.emod_two_eq down with heven | hodd
        · simp only [htie, heven, decide_true, lt_self_iff_false, decide_false, Bool.false_or, Bool.true_and,
            show ((0 : Int) == 1) = false from rfl, Bool.false_eq_true, if_false]
          exact ⟨by linarith, by linarith, fun _ => heven⟩
        · have heven : (down + 1) % 2 = 0 := by omega
          simp only [htie, hodd, decide_true, lt_self_iff_false, decide_false, Bool.false_or, Bool.true_and,
            show ((1 : Int) == 1) = true from rfl, if_true]
          exact ⟨by push_cast; linarith, by push_cast; linarith, fun _ => heven⟩
      · simp only [hup, htie, decide_false, Bool.false_or, Bool.false_and, Bool.false_eq_true, if_false]
        refine ⟨by linarith, by linarith, ?_⟩
        rintro (h | h)
        · exact absurd h htie
        · linarith
  | towardZero =>
    by_cases hneg : r < 0
    · by_cases hrem : r - down = 0
      · simp only [hneg, hrem, ne_eq, not_true_eq_false, decide_true, decide_false, Bool.and_false, Bool.false_eq_true,
          if_false]
        exact ⟨fun h => absurd hneg (not_lt.mpr h), fun _ => ⟨by linarith, by linarith⟩⟩
      · simp only [hneg, hrem, ne_eq, not_false_eq_true, decide_true, Bool.and_true, if_true]
        have hpos := lt_of_le_of_ne hrem0 (Ne.symm hrem)
        exact ⟨fun h => absurd hneg (not_lt.mpr h), fun _ => ⟨by push_cast; linarith, by push_cast; linarith⟩⟩
    · simp only [hneg, decide_false, Bool.false_and, Bool.false_eq_true, if_false]
      exact ⟨fun _ => ⟨by linarith, by linarith⟩, fun h => absurd h hneg⟩
  | towardPlus =>
    by_cases hrem : r - down = 0
    · simp only [hrem, ne_eq, not_true_eq_false, decide_false, Bool.false_eq_true, if_false]
      exact ⟨by linarith, by linarith⟩
    · simp only [hrem, ne_eq, not_false_eq_true, decide_true, if_true]
      have hpos := lt_of_le_of_ne hrem0 (Ne.symm hrem)
      exact ⟨by push_cast; linarith, by push_cast; linarith⟩
  | towardMinus =>
    simp only [Bool.false_eq_true, if_false]
    exact ⟨by linarith, by linarith⟩

/-- A mode rounds a rational to an integer exactly where `roundToInt` does. -/
theorem roundsTo_iff {rm : RoundingMode} {r : Rat} {n : Int} : roundsTo rm r n ↔ roundToInt rm r = n :=
  ⟨fun h => roundsTo_unique (roundToInt_roundsTo rm r) h, fun h => h ▸ roundToInt_roundsTo rm r⟩

/-- Rounding to nearest is symmetric. -/
theorem roundsTo_nearestEven_neg {r : Rat} {n : Int} (h : roundsTo .nearestEven r n) :
    roundsTo .nearestEven (-r) (-n) := by
  obtain ⟨h1, h2, heven⟩ := h
  refine ⟨by push_cast; linarith, by push_cast; linarith, fun htie => ?_⟩
  push_cast at htie
  have hn : n % 2 = 0 := heven (htie.symm.imp (fun h => by linarith) fun h => by linarith)
  omega

end Sys2Proof.Machine

/-! The MDMX instructions (46_mdmx_lane_ops.md, 47_mdmx_accumulator.md). Each table says which shared operation its
instructions run; what a lane of that operation is, in the terms of the spec, is a lemma of its own. -/

namespace Sys2Proof.Machine

/-! ### Lanes (R401-R418) -/

/-- Clamping is between a minimum and a maximum. -/
theorem clampInt_eq {lo hi : Int} (h : lo ≤ hi) (n : Int) : clampInt lo hi n = max lo (min hi n) := by
  unfold clampInt
  split
  · omega
  · split <;> omega

/-- A clamped OB lane, as a number. -/
theorem satOb_eq_ofNat {n : Int} {m : Nat} (h : max 0 (min 255 n) = m) : satOb n = BitVec.ofNat 8 m := by
  rw [satOb, clampInt_eq (by decide), h, BitVec.ofInt_natCast]

/-- A clamped QH lane, as an integer. -/
theorem satQh_eq (n : Int) : satQh n = BitVec.ofInt 16 (max (-32768) (min 32767 n)) := by
  rw [satQh, clampInt_eq (by decide)]

/-- A QH lane that needs no clamping. -/
theorem satQh_of_lane {n : Int} (a t : BitVec 16) (h : n = a.toInt ∨ n = t.toInt) : satQh n = BitVec.ofInt 16 n := by
  have ha1 : -32768 ≤ a.toInt := BitVec.le_toInt a
  have ha2 : a.toInt < 32768 := BitVec.toInt_lt
  have ht1 : -32768 ≤ t.toInt := BitVec.le_toInt t
  have ht2 : t.toInt < 32768 := BitVec.toInt_lt
  rw [satQh_eq]
  congr 1
  omega

/-- The magnitude of the first with the sign of the second is a product (R416). -/
theorem signSelect_eq (a t : Int) : signSelect a t = a * t.sign := by
  unfold signSelect
  rcases lt_trichotomy t 0 with h | rfl | h
  · rw [if_pos h, Int.sign_eq_neg_one_of_neg h, Int.mul_neg, Int.mul_one]
  · simp
  · rw [if_neg (not_lt.mpr h.le), if_neg h.ne', Int.sign_eq_one_of_pos h, Int.mul_one]

/-- Each OB lane instruction is a lane operation, with the lanes the table gives (R404-R414, R417, R418). -/
theorem obLaneTable_exec : ∀ p ∈ obLaneTable, ∃ f : BitVec 8 → BitVec 8 → BitVec 8,
    (∀ vd vs o s, exec (p.1 vd vs o) s = (mdmxOb f vd vs o s).commit s) ∧ ∀ a t, f a t = p.2 a t := by
  intro p hp
  simp only [obLaneTable, List.mem_cons, List.not_mem_nil, or_false] at hp
  rcases hp with rfl | rfl | rfl | rfl | rfl | rfl | rfl | rfl | rfl | rfl | rfl | rfl | rfl
  · exact ⟨obClamped (· + ·), fun _ _ o _ => by cases o <;> rfl,
      fun _ _ => satOb_eq_ofNat (by simp only [obInt]; omega)⟩
  · exact ⟨obClamped (· - ·), fun _ _ o _ => by cases o <;> rfl,
      fun a t => satOb_eq_ofNat (by have := a.isLt; simp only [obInt]; omega)⟩
  · exact ⟨obClamped (· * ·), fun _ _ o _ => by cases o <;> rfl,
      fun _ _ => satOb_eq_ofNat (by simp only [obInt, ← Int.natCast_mul]; omega)⟩
  · exact ⟨obClamped minInt, fun _ _ o _ => by cases o <;> rfl,
      fun a t => satOb_eq_ofNat (by have := a.isLt; simp only [obInt, minInt]; omega)⟩
  · exact ⟨obClamped maxInt, fun _ _ o _ => by cases o <;> rfl,
      fun a t => satOb_eq_ofNat (by have := a.isLt; have := t.isLt; simp only [obInt, maxInt]; omega)⟩
  · exact ⟨(· &&& ·), fun _ _ o _ => by cases o <;> rfl, fun _ _ => rfl⟩
  · exact ⟨(· ||| ·), fun _ _ o _ => by cases o <;> rfl, fun _ _ => rfl⟩
  · exact ⟨(· ^^^ ·), fun _ _ o _ => by cases o <;> rfl, fun _ _ => rfl⟩
  · exact ⟨fun a t => ~~~(a ||| t), fun _ _ o _ => by cases o <;> rfl, fun _ _ => rfl⟩
  · exact ⟨laneSll, fun _ _ o _ => by cases o <;> rfl, fun _ _ => shiftLeft_eq_ofNat ..⟩
  · exact ⟨laneSrl, fun _ _ o _ => by cases o <;> rfl, fun _ _ => ushiftRight_eq_ofNat ..⟩
  · exact ⟨obClamped absDiff, fun _ _ o _ => by cases o <;> rfl,
      fun a t => satOb_eq_ofNat (by have := a.isLt; have := t.isLt; simp only [obInt, absDiff]; omega)⟩
  · exact ⟨obClamped roundAverage, fun _ _ o _ => by cases o <;> rfl,
      fun a t => satOb_eq_ofNat (by have := a.isLt; have := t.isLt; simp only [obInt, roundAverage]; omega)⟩

/-- Each QH lane instruction is a lane operation, with the lanes the table gives (R404-R416). -/
theorem qhLaneTable_exec : ∀ p ∈ qhLaneTable, ∃ f : BitVec 16 → BitVec 16 → BitVec 16,
    (∀ vd vs o s, exec (p.1 vd vs o) s = (mdmxQh f vd vs o s).commit s) ∧ ∀ a t, f a t = p.2 a t := by
  intro p hp
  simp only [qhLaneTable, List.mem_cons, List.not_mem_nil, or_false] at hp
  rcases hp with rfl | rfl | rfl | rfl | rfl | rfl | rfl | rfl | rfl | rfl | rfl | rfl | rfl
  · exact ⟨qhClamped (· + ·), fun _ _ o _ => by cases o <;> rfl, fun _ _ => satQh_eq _⟩
  · exact ⟨qhClamped (· - ·), fun _ _ o _ => by cases o <;> rfl, fun _ _ => satQh_eq _⟩
  · exact ⟨qhClamped (· * ·), fun _ _ o _ => by cases o <;> rfl, fun _ _ => satQh_eq _⟩
  · exact ⟨qhClamped minInt, fun _ _ o _ => by cases o <;> rfl, fun a t => (satQh_of_lane a t (by
      simp only [qhInt, minInt]; omega)).trans (congrArg _ (by simp only [qhInt, minInt]; omega))⟩
  · exact ⟨qhClamped maxInt, fun _ _ o _ => by cases o <;> rfl, fun a t => (satQh_of_lane a t (by
      simp only [qhInt, maxInt]; omega)).trans (congrArg _ (by simp only [qhInt, maxInt]; omega))⟩
  · exact ⟨(· &&& ·), fun _ _ o _ => by cases o <;> rfl, fun _ _ => rfl⟩
  · exact ⟨(· ||| ·), fun _ _ o _ => by cases o <;> rfl, fun _ _ => rfl⟩
  · exact ⟨(· ^^^ ·), fun _ _ o _ => by cases o <;> rfl, fun _ _ => rfl⟩
  · exact ⟨fun a t => ~~~(a ||| t), fun _ _ o _ => by cases o <;> rfl, fun _ _ => rfl⟩
  · exact ⟨laneSll, fun _ _ o _ => by cases o <;> rfl, fun _ _ => shiftLeft_eq_ofNat ..⟩
  · exact ⟨laneSrl, fun _ _ o _ => by cases o <;> rfl, fun _ _ => ushiftRight_eq_ofNat ..⟩
  · exact ⟨laneSra, fun _ _ o _ => by cases o <;> rfl, fun _ _ => sshiftRight_eq_ofInt ..⟩
  · exact ⟨qhClamped signSelect, fun _ _ o _ => by cases o <;> rfl,
      fun _ _ => (satQh_eq _).trans (by rw [signSelect_eq]; rfl)⟩

/-- Settles O56: every table entry runs a lane operation, whose lanes are those of its packed vector. -/
theorem mdmxLanes : Obligations.MdmxLanes := by
  refine ⟨fun p hp vd vs o s hc hf => ?_, fun p hp vd vs o s hc hf => ?_⟩
  · obtain ⟨f, hexec, hlane⟩ := obLaneTable_exec p hp
    exact ⟨_, (hexec vd vs o s).trans (mdmxWrite_next hc hf), fun k => (laneOb_obMap ..).trans (hlane _ _)⟩
  · obtain ⟨f, hexec, hlane⟩ := qhLaneTable_exec p hp
    exact ⟨_, (hexec vd vs o s).trans (mdmxWrite_next hc hf), fun k => (laneQh_qhMap ..).trans (hlane _ _)⟩

/-! ### Compares (R430-R432) -/

/-- Bits of the FCSR that are no condition code of the list are as before. -/
theorem setFccs_getLsbD_of_ne {n : Nat} (hn : n ≤ 8) (f : Fin n → Bool) (l : List (Fin n)) (s : State) (b : Nat)
    (hb : ∀ k ∈ l, b ≠ codeBit k.val) : (s.setFccs f l).fcsr.getLsbD b = s.fcsr.getLsbD b := by
  induction l generalizing s with
  | nil => rfl
  | cons i l ih =>
    rw [State.setFccs, ih _ fun k hk => hb k (List.mem_cons_of_mem _ hk), State.setFcsrBit, fccBit_toNat,
      BitVec.toNat_ofNat, Nat.mod_eq_of_lt (show i.val < 2 ^ 3 by omega)]
    by_cases hlt : b < 32
    · rw [getLsbD_putBit _ _ _ _ hlt, if_neg (hb i List.mem_cons_self)]
    · rw [BitVec.getLsbD_of_ge _ _ (by omega), BitVec.getLsbD_of_ge _ _ (by omega)]

/-- Each condition code of the list holds the comparison of its lane. -/
theorem setFccs_getLsbD_of_mem {n : Nat} (hn : n ≤ 8) (f : Fin n → Bool) (l : List (Fin n)) (hl : l.Nodup) (s : State)
    (k : Fin n) (hk : k ∈ l) : (s.setFccs f l).fcsr.getLsbD (codeBit k.val) = f k := by
  induction l generalizing s with
  | nil => cases hk
  | cons i l ih =>
    obtain ⟨hi, hl⟩ := List.nodup_cons.mp hl
    rw [State.setFccs]
    rcases List.mem_cons.mp hk with rfl | hk
    · have hinj (j : Fin n) (hj : j ∈ l) : codeBit k.val ≠ codeBit j.val := by
        intro heq
        have : k = j := by
          unfold codeBit at heq
          ext
          split at heq <;> split at heq <;> omega
        exact hi (this ▸ hj)
      rw [setFccs_getLsbD_of_ne hn f l _ _ hinj, setFcsrBit_code _ _ _ (k.isLt.trans_le hn), if_pos]
      rw [BitVec.toNat_ofNat, Nat.mod_eq_of_lt (show k.val < 2 ^ 3 by omega)]
    · exact ih hl _ hk

/-- A compare behind `MDMXEnter`: its codes, and every other bit of the FCSR as before. -/
theorem setFccs_next {n : Nat} (hn : n ≤ 8) {s : State} {f g : Fin n → Bool} {l : List (Fin n)} 
    {o : Host.Outcome State Fault Refusal}
    (hnodup : l.Nodup) (hall : ∀ k, k ∈ l) (ho : o = .next (s.setFccs f l).advance) (hfg : ∀ k, f k = g k) :
    ∃ w, o = .next { s with fcsr := w, pc := s.pc + 4#64 } ∧ (∀ k : Fin n, w.getLsbD (codeBit k.val) = g k) ∧
      ∀ b : Nat, (∀ k : Fin n, b ≠ codeBit k.val) → w.getLsbD b = s.fcsr.getLsbD b := by
  refine ⟨(s.setFccs f l).fcsr, ?_, fun k => ?_, fun b hb => ?_⟩
  · rw [ho, setFccs_eq]
    rfl
  · rw [setFccs_getLsbD_of_mem hn f l hnodup s k (hall k), hfg]
  · exact setFccs_getLsbD_of_ne hn f l s b fun k _ => hb k

/-- Each OB compare is a compare of lanes as unsigned numbers (R430-R432). -/
theorem obCompareTable_exec : ∀ p ∈ obCompareTable, ∃ f : Int → Int → Bool,
    (∀ vs o s, exec (p.1 vs o) s = (mdmxCompareOb f vs o s).commit s) ∧ ∀ a t, f (obInt a) (obInt t) = p.2 a t := by
  intro p hp
  simp only [obCompareTable, List.mem_cons, List.not_mem_nil, or_false] at hp
  rcases hp with rfl | rfl | rfl
  · exact ⟨fun a t => decide (a = t), fun _ o _ => by cases o <;> rfl, fun a t => by
      simp [obInt, BitVec.toNat_inj, Bool.beq_eq_decide_eq]⟩
  · exact ⟨fun a t => decide (a < t), fun _ o _ => by cases o <;> rfl, fun a t => by
      simp [obInt, BitVec.ult]⟩
  · exact ⟨fun a t => decide (a ≤ t), fun _ o _ => by cases o <;> rfl, fun a t => by
      simp [obInt, BitVec.ule]⟩

/-- Each QH compare is a compare of lanes as signed numbers (R430-R432). -/
theorem qhCompareTable_exec : ∀ p ∈ qhCompareTable, ∃ f : Int → Int → Bool,
    (∀ vs o s, exec (p.1 vs o) s = (mdmxCompareQh f vs o s).commit s) ∧ ∀ a t, f (qhInt a) (qhInt t) = p.2 a t := by
  intro p hp
  simp only [qhCompareTable, List.mem_cons, List.not_mem_nil, or_false] at hp
  rcases hp with rfl | rfl | rfl
  · exact ⟨fun a t => decide (a = t), fun _ o _ => by cases o <;> rfl, fun a t => by
      simp [qhInt, BitVec.toInt_inj, Bool.beq_eq_decide_eq]⟩
  · exact ⟨fun a t => decide (a < t), fun _ o _ => by cases o <;> rfl, fun _ _ => rfl⟩
  · exact ⟨fun a t => decide (a ≤ t), fun _ o _ => by cases o <;> rfl, fun _ _ => rfl⟩

/-- Settles O57: a compare writes the codes of its lanes, one after the other. -/
theorem mdmxCompares : Obligations.MdmxCompares := by
  refine ⟨fun p hp vs o s hc hf => ?_, fun p hp vs o s hc hf => ?_⟩
  · obtain ⟨f, hexec, hcode⟩ := obCompareTable_exec p hp
    refine setFccs_next (l := [0, 1, 2, 3, 4, 5, 6, 7]) le_rfl (by decide) (by decide) ?_ fun k => hcode _ _
    rw [hexec, mdmxCompareOb, mdmxEnter_ok hc hf]
    rfl
  · obtain ⟨f, hexec, hcode⟩ := qhCompareTable_exec p hp
    refine setFccs_next (l := [0, 1, 2, 3]) (by decide) (by decide) (by decide) ?_ fun k => hcode _ _
    rw [hexec, mdmxCompareQh, mdmxEnter_ok hc hf]
    rfl

/-! ### Picks and shuffles (R433-R443) -/

/-- The condition code of a lane is its bit of the FCSR. -/
theorem fcc_ofNat (s : State) {k : Nat} (hk : k < 8) : s.fcc (BitVec.ofNat 3 k) = s.fcsr.getLsbD (codeBit k) := by
  rw [State.fcc, fccBit_toNat, BitVec.toNat_ofNat, Nat.mod_eq_of_lt (show k < 2 ^ 3 by omega)]

/-- Each OB pick keeps the lanes whose code has the value of the table (R433, R434). -/
theorem obPickTable_exec {p : (FprNo → FprNo → ObOperand → Instr) × Bool} (hp : p ∈ obPickTable) (vd vs : FprNo)
    (o : ObOperand) (s : State) : exec (p.1 vd vs o) s = (mdmxWrite vd (pickOb p.2 vs o) s).commit s := by
  simp only [obPickTable, List.mem_cons, List.not_mem_nil, or_false] at hp
  rcases hp with rfl | rfl <;> cases o <;> rfl

/-- Each QH pick keeps the lanes whose code has the value of the table (R433, R434). -/
theorem qhPickTable_exec {p : (FprNo → FprNo → QhOperand → Instr) × Bool} (hp : p ∈ qhPickTable) (vd vs : FprNo)
    (o : QhOperand) (s : State) : exec (p.1 vd vs o) s = (mdmxWrite vd (pickQh p.2 vs o) s).commit s := by
  simp only [qhPickTable, List.mem_cons, List.not_mem_nil, or_false] at hp
  rcases hp with rfl | rfl <;> cases o <;> rfl

/-- A shuffle's table names the lanes of its list, lane 0 first (R435). -/
def ShuffleLane.Names {n w : Nat} (table : Vector (ShuffleLane n) n) (lanes : LaneTable n w) : Prop :=
  ∀ (a t : Fin n → BitVec w) (k : Fin n), (lanes a t)[k.val]? =
    some (match table.get k with
      | .s i => a i
      | .t i => t i)

/-- Each OB shuffle has the table of the list (R436-R439). -/
theorem obShuffleTable_exec {p : (FprNo → FprNo → FprNo → Instr) × LaneTable 8 8} (hp : p ∈ obShuffleTable) :
    ∃ table, (∀ vd vs vt s, exec (p.1 vd vs vt) s = (shuffleOb table vd vs vt s).commit s) ∧
      ShuffleLane.Names table p.2 := by
  simp only [obShuffleTable, List.mem_cons, List.not_mem_nil, or_false] at hp
  rcases hp with rfl | rfl | rfl | rfl <;>
    exact ⟨_, fun _ _ _ _ => rfl, fun _ _ k => by fin_cases k <;> rfl⟩

/-- Each QH shuffle has the table of the list (R436-R443). -/
theorem qhShuffleTable_exec {p : (FprNo → FprNo → FprNo → Instr) × LaneTable 4 16} (hp : p ∈ qhShuffleTable) :
    ∃ table, (∀ vd vs vt s, exec (p.1 vd vs vt) s = (shuffleQh table vd vs vt s).commit s) ∧
      ShuffleLane.Names table p.2 := by
  simp only [qhShuffleTable, List.mem_cons, List.not_mem_nil, or_false] at hp
  rcases hp with rfl | rfl | rfl | rfl | rfl | rfl | rfl | rfl <;>
    exact ⟨_, fun _ _ _ _ => rfl, fun _ _ k => by fin_cases k <;> rfl⟩

/-- Settles O58: picks choose by code, shuffles by table. -/
theorem mdmxPicksAndShuffles : Obligations.MdmxPicksAndShuffles := by
  refine ⟨fun p hp vd vs o s hc hf => ?_, fun p hp vd vs o s hc hf => ?_, fun p hp vd vs vt s hc hf => ?_,
    fun p hp vd vs vt s hc hf => ?_⟩
  · refine ⟨_, (obPickTable_exec hp vd vs o s).trans (mdmxWrite_next hc hf), fun k => ?_⟩
    simp only [pickOb, laneOb_packOb, fcc_ofNat s k.isLt, beq_iff_eq]
  · refine ⟨_, (qhPickTable_exec hp vd vs o s).trans (mdmxWrite_next hc hf), fun k => ?_⟩
    simp only [pickQh, laneQh_packQh, fcc_ofNat s (k.isLt.trans (by decide)), beq_iff_eq]
  · obtain ⟨table, hexec, hnames⟩ := obShuffleTable_exec hp
    refine ⟨_, (hexec vd vs vt s).trans (mdmxWrite_next hc hf), fun k => ?_⟩
    rw [laneOb_packOb, hnames]
    cases table.get k <;> rfl
  · obtain ⟨table, hexec, hnames⟩ := qhShuffleTable_exec hp
    refine ⟨_, (hexec vd vs vt s).trans (mdmxWrite_next hc hf), fun k => ?_⟩
    rw [laneQh_packQh, hnames]
    cases table.get k <;> rfl

/-! ### Accumulators (R450-R464) -/

/-- An OB lane extended is its number. -/
theorem ofInt_obInt (b : BitVec 8) : BitVec.ofInt 24 (obInt b) = b.setWidth 24 := by
  rw [obInt, BitVec.ofInt_natCast, BitVec.ofNat_toNat]

/-- A QH lane extended is its number. -/
theorem ofInt_qhInt (b : BitVec 16) : BitVec.ofInt 48 (qhInt b) = b.signExtend 48 := rfl

/-- An operation on exact integers that is an operation on residues modulo `2^w` (R450, R451). -/
def Residual (w : Nat) (f : Int → Int → Int → Int) (g : BitVec w → BitVec w → BitVec w → BitVec w) : Prop :=
  ∀ (acc : BitVec w) (a t : Int), BitVec.ofInt w (f acc.toInt a t) = g acc (BitVec.ofInt w a) (BitVec.ofInt w t)

/-- Each OB accumulator instruction is the operation of the table on residues (R450-R459). -/
theorem obAccTable_exec : ∀ p ∈ obAccTable, ∃ f,
    (∀ vs o s, exec (p.1 vs o) s = (mdmxAccOb f vs o s).commit s) ∧ Residual 24 f p.2 := by
  intro p hp
  simp only [obAccTable, List.mem_cons, List.not_mem_nil, or_false] at hp
  rcases hp with rfl | rfl | rfl | rfl | rfl | rfl | rfl | rfl <;>
    exact ⟨_, fun _ o _ => by cases o <;> rfl, fun _ _ _ => by
      simp only [BitVec.ofInt_add, ofInt_sub, BitVec.ofInt_mul, BitVec.ofInt_neg, BitVec.ofInt_toInt]⟩

/-- Each QH accumulator instruction is the operation of the table on residues (R450-R459). -/
theorem qhAccTable_exec : ∀ p ∈ qhAccTable, ∃ f,
    (∀ vs o s, exec (p.1 vs o) s = (mdmxAccQh f vs o s).commit s) ∧ Residual 48 f p.2 := by
  intro p hp
  simp only [qhAccTable, List.mem_cons, List.not_mem_nil, or_false] at hp
  rcases hp with rfl | rfl | rfl | rfl | rfl | rfl | rfl | rfl <;>
    exact ⟨_, fun _ o _ => by cases o <;> rfl, fun _ _ _ => by
      simp only [BitVec.ofInt_add, ofInt_sub, BitVec.ofInt_mul, BitVec.ofInt_neg, BitVec.ofInt_toInt]⟩

section Writes

variable {s : State}

/-- A whole write of `ACC_OB`, lane by lane (R450). -/
theorem setAccOb_writes {o : Host.Outcome State Fault Refusal} {r f : Fin 8 → BitVec 24}
    (ho : o = .next (s.setAccOb r).advance) (h : ∀ k, r k = f k) :
    ∃ v : Vector (BitVec 24) 8, o = .next { s with accOb := v, pc := s.pc + 4#64 } ∧ ∀ k, v.get k = f k :=
  ⟨_, ho, fun k => (accObAt_setAccOb s r k).trans (h k)⟩

/-- A whole write of `ACC_QH`, lane by lane (R450). -/
theorem setAccQh_writes {o : Host.Outcome State Fault Refusal} {r f : Fin 4 → BitVec 48}
    (ho : o = .next (s.setAccQh r).advance) (h : ∀ k, r k = f k) :
    ∃ v : Vector (BitVec 48) 4, o = .next { s with accQh := v, pc := s.pc + 4#64 } ∧ ∀ k, v.get k = f k :=
  ⟨_, ho, fun k => (accQhAt_setAccQh s r k).trans (h k)⟩

/-- An OB accumulator instruction completes (R450). -/
theorem mdmxAccOb_next (f : Int → Int → Int → Int) (vs : FprNo) (o : ObOperand) (hc : s.cu1 = true) (hf : s.fr = true) :
    (mdmxAccOb f vs o s).commit s = .next (s.setAccOb fun i =>
      BitVec.ofInt 24 (f (s.accObAt i).toInt (obInt (laneOb (s.fgrAt vs) i)) (obInt (o.lane s i)))).advance := by
  rw [mdmxAccOb, mdmxEnter_ok hc hf]
  rfl

/-- A QH accumulator instruction completes (R450). -/
theorem mdmxAccQh_next (f : Int → Int → Int → Int) (vs : FprNo) (o : QhOperand) (hc : s.cu1 = true) (hf : s.fr = true) :
    (mdmxAccQh f vs o s).commit s = .next (s.setAccQh fun i =>
      BitVec.ofInt 48 (f (s.accQhAt i).toInt (qhInt (laneQh (s.fgrAt vs) i)) (qhInt (o.lane s i)))).advance := by
  rw [mdmxAccQh, mdmxEnter_ok hc hf]
  rfl

/-- A whole write from the patterns of the lanes completes (R460, R461). -/
theorem writeAccOb_next (f : BitVec 24 → Fin 8 → BitVec 24) (hc : s.cu1 = true) (hf : s.fr = true) :
    (writeAccOb f s).commit s = .next (s.setAccOb fun i => f (s.accObAt i) i).advance := by
  rw [writeAccOb, mdmxEnter_ok hc hf]
  rfl

/-- A whole write from the patterns of the lanes completes (R460, R461). -/
theorem writeAccQh_next (f : BitVec 48 → Fin 4 → BitVec 48) (hc : s.cu1 = true) (hf : s.fr = true) :
    (writeAccQh f s).commit s = .next (s.setAccQh fun i => f (s.accQhAt i) i).advance := by
  rw [writeAccQh, mdmxEnter_ok hc hf]
  rfl

/-- A third of an accumulator, read into a vector (R462-R464). -/
theorem readAccOb_next (lo : Nat) (vd : FprNo) (hc : s.cu1 = true) (hf : s.fr = true) :
    ∃ v, (readAccOb lo vd s).commit s = .next (s.vectorWritten vd v) ∧
      ∀ k : Fin 8, (laneOb v k).toNat = (s.accOb.get k).toNat / 2 ^ lo % 2 ^ 8 :=
  ⟨_, mdmxWrite_next hc hf, fun k => by rw [laneOb_packOb, extractLsb'_toNat_div, State.accObAt]⟩

/-- A third of an accumulator, read into a vector (R462-R464). -/
theorem readAccQh_next (lo : Nat) (vd : FprNo) (hc : s.cu1 = true) (hf : s.fr = true) :
    ∃ v, (readAccQh lo vd s).commit s = .next (s.vectorWritten vd v) ∧
      ∀ k : Fin 4, (laneQh v k).toNat = (s.accQh.get k).toNat / 2 ^ lo % 2 ^ 16 :=
  ⟨_, mdmxWrite_next hc hf, fun k => by rw [laneQh_packQh, extractLsb'_toNat_div, State.accQhAt]⟩

end Writes

/-- A middle third over a low third, sign-extended (R460). -/
theorem signExtend_append {n m : Nat} (hn : n ≠ 0) (w : Nat) (x : BitVec n) (y : BitVec m) :
    (x ++ y).signExtend w = BitVec.ofInt w (x.toInt * (2 ^ m : Nat) + y.toNat) := by
  rw [BitVec.signExtend, BitVec.toInt_append, if_neg (by simpa using hn), Int.mul_comm]
  norm_cast

/-- A high third over the lower two (R461). -/
theorem append_extract_low {n m w : Nat} (x : BitVec n) (acc : BitVec w) :
    x ++ acc.extractLsb' 0 m = BitVec.ofNat (n + m) (x.toNat * 2 ^ m + acc.toNat % 2 ^ m) := by
  apply BitVec.eq_of_toNat_eq
  have hlt := (x ++ acc.extractLsb' 0 m).isLt
  rw [toNat_append_eq, extractLsb'_toNat_div, Nat.pow_zero, Nat.div_one] at hlt ⊢
  rw [BitVec.toNat_ofNat, Nat.mod_eq_of_lt hlt]

/-- Settles O59: the table's operations on residues, and the thirds of each lane. -/
theorem mdmxAccumulators : Obligations.MdmxAccumulators := by
  intro s hc hf writesOb writesQh readsOb readsQh
  refine ⟨fun p hp vs o => ?_, fun p hp vs o => ?_, fun vd vs vt => ⟨?_, ?_, ?_, ?_, ?_⟩⟩
  · obtain ⟨f, hexec, hresidual⟩ := obAccTable_exec p hp
    refine setAccOb_writes ((hexec vs o s).trans (mdmxAccOb_next f vs o hc hf)) fun k => ?_
    rw [hresidual, ofInt_obInt, ofInt_obInt, State.accObAt]
  · obtain ⟨f, hexec, hresidual⟩ := qhAccTable_exec p hp
    refine setAccQh_writes ((hexec vs o s).trans (mdmxAccQh_next f vs o hc hf)) fun k => ?_
    rw [hresidual, ofInt_qhInt, ofInt_qhInt, State.accQhAt]
  · exact setAccOb_writes (writeAccOb_next _ hc hf) fun _ => signExtend_append (by decide) _ _ _
  · exact setAccQh_writes (writeAccQh_next _ hc hf) fun _ => signExtend_append (by decide) _ _ _
  · exact setAccOb_writes (writeAccOb_next _ hc hf) fun _ => append_extract_low _ _
  · exact setAccQh_writes (writeAccQh_next _ hc hf) fun _ => append_extract_low _ _
  · exact ⟨readAccOb_next 0 vd hc hf, readAccOb_next 8 vd hc hf, readAccOb_next 16 vd hc hf,
      readAccQh_next 0 vd hc hf, readAccQh_next 16 vd hc hf, readAccQh_next 32 vd hc hf⟩

/-! ### Reductions (R465-R472) -/

/-- Rounding a reduction is symmetric. -/
theorem reductionRounded_neg (op : Reduction) (m sh : Nat) :
    reductionRounded op (-(m : Int)) sh = -reductionRounded op m sh := by
  rcases Nat.eq_zero_or_pos m with rfl | hm
  · cases op <;> simp [reductionRounded]
  · simp only [reductionRounded, Int.natAbs_neg, Int.natAbs_natCast, if_pos (show -(m : Int) < 0 by omega),
      if_neg (show ¬ (m : Int) < 0 by omega)]

/-- So is the rounded quotient. -/
theorem roundedQuotient_neg (op : Reduction) (m sh : Nat) :
    roundedQuotient op (-(m : Int)) sh = -roundedQuotient op m sh := by
  have htie : roundToInt .nearestEven (((-(m : Int) : Int) : Rat) / ((2 ^ sh : Nat) : Rat)) =
      -roundToInt .nearestEven (((m : Int) : Rat) / ((2 ^ sh : Nat) : Rat)) := by
    rw [Int.cast_neg, neg_div]
    exact roundsTo_iff.mp (roundsTo_nearestEven_neg (roundToInt_roundsTo _ _))
  cases op with
  | rzu | rzs => exact Int.neg_tdiv _ _
  | rnau | rnas => simp only [roundedQuotient, Int.sign_neg, Int.natAbs_neg, Int.neg_mul]
  | rneu | rnes => exact htie

/-- The quotient and the remainder of a magnitude. -/
theorem two_pow_div_add_mod (m sh : Nat) : m / 2 ^ sh * 2 ^ sh + m % 2 ^ sh = m ∧ m % 2 ^ sh < 2 ^ sh :=
  ⟨Nat.div_add_mod' m _, Nat.mod_lt _ (Nat.two_pow_pos sh)⟩

/-- To nearest, ties away: the quotient, and one more from half a unit on (R467). -/
theorem nearestAway_eq (m sh : Nat) :
    (2 * m + 2 ^ sh) / 2 ^ (sh + 1) = if 2 ^ sh ≤ 2 * (m % 2 ^ sh) then m / 2 ^ sh + 1 else m / 2 ^ sh := by
  obtain ⟨hm, hr⟩ := two_pow_div_add_mod m sh
  generalize m / 2 ^ sh = q at *
  generalize m % 2 ^ sh = r at *
  have hpow : 2 ^ (sh + 1) = 2 * 2 ^ sh := Nat.pow_succ' ..
  have hpos := Nat.two_pow_pos sh
  rw [hpow]
  generalize 2 ^ sh = d at *
  split
  · refine Nat.div_eq_of_lt_le ?_ ?_ <;> nlinarith
  · refine Nat.div_eq_of_lt_le ?_ ?_ <;> nlinarith

/-- To nearest, ties to even: the quotient, and one more above half a unit or at it from an odd one (R468). -/
theorem nearestEven_eq (m sh : Nat) :
    roundToInt .nearestEven (((m : Int) : Rat) / ((2 ^ sh : Nat) : Rat)) =
      (if 2 ^ sh < 2 * (m % 2 ^ sh) ∨ 2 ^ sh = 2 * (m % 2 ^ sh) ∧ m / 2 ^ sh % 2 = 1 then m / 2 ^ sh + 1
        else m / 2 ^ sh : Nat) := by
  obtain ⟨hm, hr⟩ := two_pow_div_add_mod m sh
  have hpos := Nat.two_pow_pos sh
  generalize m / 2 ^ sh = q at *
  generalize m % 2 ^ sh = r at *
  generalize 2 ^ sh = d at *
  have hd : (0 : Rat) < d := by exact_mod_cast hpos
  have hquot : ((m : Int) : Rat) / (d : Rat) = q + r / d := by
    rw [← hm]
    push_cast
    field_simp
  have hx0 : (0 : Rat) ≤ r / d := by positivity
  have hx1 : (r : Rat) / d < 1 := (div_lt_one hd).mpr (by exact_mod_cast hr)
  rw [← roundsTo_iff, hquot]
  rcases lt_trichotomy d (2 * r) with h | h | h
  · have hx : 1 / 2 < (r : Rat) / d := by
      have hcast : (d : Rat) < 2 * r := by exact_mod_cast h
      rw [lt_div_iff₀ hd]
      linarith
    rw [if_pos (.inl h)]
    refine ⟨by push_cast; linarith, by push_cast; linarith, ?_⟩
    push_cast
    rintro (h | h) <;> linarith
  · have hx : (r : Rat) / d = 1 / 2 := by
      have hcast : (d : Rat) = 2 * r := by exact_mod_cast h
      rw [div_eq_iff hd.ne']
      linarith
    rw [hx]
    rcases Nat.mod_two_eq_zero_or_one q with heven | hodd
    · rw [if_neg (by omega)]
      exact ⟨by push_cast; linarith, by push_cast; linarith, fun _ => by omega⟩
    · rw [if_pos (.inr ⟨h, hodd⟩)]
      exact ⟨by push_cast; linarith, by push_cast; linarith, fun _ => by omega⟩
  · have hx : (r : Rat) / d < 1 / 2 := by
      have hcast : 2 * (r : Rat) < d := by exact_mod_cast h
      rw [div_lt_iff₀ hd]
      linarith
    rw [if_neg (by omega)]
    refine ⟨by push_cast; linarith, by push_cast; linarith, ?_⟩
    push_cast
    rintro (h | h) <;> linarith

/-- The sign of a magnitude takes no part (R467). -/
theorem sign_mul_nearestAway (m sh : Nat) :
    (m : Int).sign * ((2 * m + 2 ^ sh) / 2 ^ (sh + 1) : Nat) = ((2 * m + 2 ^ sh) / 2 ^ (sh + 1) : Nat) := by
  rcases Nat.eq_zero_or_pos m with rfl | hm
  · rw [nearestAway_eq]
    simp
  · rw [Int.sign_eq_one_of_pos (by omega), Int.one_mul]

/-- The rounding of a reduction, on magnitudes, is the rounded quotient (R465). -/
theorem reductionRounded_natCast (op : Reduction) (m sh : Nat) :
    reductionRounded op m sh = roundedQuotient op m sh := by
  have hcast (c : Prop) [Decidable c] (q : Nat) :
      (if c then ((q : Int) + 1) else (q : Int)) = (if c then q + 1 else q : Nat) := by
    split <;> rfl
  simp only [reductionRounded, Int.natAbs_natCast, if_neg (show ¬ (m : Int) < 0 by omega)]
  cases op with
  | rzu | rzs =>
    simp only [Bool.false_eq_true, if_false, roundedQuotient]
    norm_cast
  | rnau | rnas =>
    simp only [decide_eq_true_eq, hcast]
    exact (congrArg _ (nearestAway_eq m sh).symm).trans (sign_mul_nearestAway m sh).symm
  | rneu | rnes =>
    simp only [Bool.or_eq_true, Bool.and_eq_true, decide_eq_true_eq, beq_iff_eq, hcast]
    exact (nearestEven_eq m sh).symm

/-- The rounding of a reduction is the rounded quotient (R465). -/
theorem reductionRounded_eq (op : Reduction) (a : Int) (sh : Nat) :
    reductionRounded op a sh = roundedQuotient op a sh := by
  obtain ⟨m, rfl | rfl⟩ := a.eq_nat_or_neg
  · exact reductionRounded_natCast op m sh
  · rw [reductionRounded_neg, roundedQuotient_neg, reductionRounded_natCast]

/-- Each OB reduction rounds by the policy of the table (R466-R468). -/
theorem obReduceTable_exec {p : (FprNo → ObOperand → Instr) × Reduction} (hp : p ∈ obReduceTable) (vd : FprNo)
    (o : ObOperand) (s : State) : exec (p.1 vd o) s = (reduceOb p.2 vd o s).commit s := by
  simp only [obReduceTable, List.mem_cons, List.not_mem_nil, or_false] at hp
  rcases hp with rfl | rfl | rfl <;> cases o <;> rfl

/-- Each QH reduction rounds by the policy of the table (R466-R472). -/
theorem qhReduceTable_exec {p : (FprNo → QhOperand → Instr) × Reduction} (hp : p ∈ qhReduceTable) (vd : FprNo)
    (o : QhOperand) (s : State) : exec (p.1 vd o) s = (reduceQh p.2 vd o s).commit s := by
  simp only [qhReduceTable, List.mem_cons, List.not_mem_nil, or_false] at hp
  rcases hp with rfl | rfl | rfl | rfl | rfl | rfl <;> cases o <;> rfl

/-- The clamped lane of a QH reduction (R465). -/
theorem reductionLaneQh_eq (op : Reduction) (a : BitVec 48) (sh : BitVec 16) :
    reductionLaneQh op a sh =
      if sh.toInt < 0 then Config.unpredictable16 a sh op else reducedQh op a.toInt sh.toNat := by
  unfold reductionLaneQh reducedQh
  simp only [reductionRounded_eq, clampInt_eq (show (-32768 : Int) ≤ 32767 by decide),
    clampInt_eq (show (0 : Int) ≤ 65535 by decide)]
  cases op <;> rfl

/-- Settles O60: a reduction is the rounded quotient, clamped. -/
theorem mdmxReductions : Obligations.MdmxReductions := by
  refine ⟨fun p hp vd o s hc hf => ?_, fun p hp vd o s hc hf => ?_⟩
  · refine ⟨_, (obReduceTable_exec hp vd o s).trans (mdmxWrite_next hc hf), fun k => ?_⟩
    rw [laneOb_packOb, reductionLaneOb, reductionRounded_eq, clampInt_eq (by decide), State.accObAt]
  · refine ⟨_, (qhReduceTable_exec hp vd o s).trans (mdmxWrite_next hc hf), fun k => ?_⟩
    rw [laneQh_packQh, reductionLaneQh_eq, State.accQhAt]

end Sys2Proof.Machine

/-! The formats of the floating-point unit (44_fpu_unit.md R280-R284). A pattern is a sign and a magnitude field; the
field `(e + bias - 1) * 2^(p-1) + n` stands for the magnitude `n * 2^(e-p+1)`, the normal numbers, the subnormal ones
(`e = emin`, `n < 2^(p-1)`) and a carry into the next binade (`n = 2^p`) alike. -/

namespace Sys2Proof.Machine

/-! ### Powers of two -/

/-- `pow2` is the power with an integer exponent. -/
theorem pow2_eq_zpow (k : Int) : pow2 k = (2 : Rat) ^ k := by
  unfold pow2
  split
  · next h =>
    conv => rhs; rw [← Int.toNat_of_nonneg h]
    rw [zpow_natCast]
    push_cast
    rfl
  · next h =>
    have hk : k = -((-k).toNat : Int) := by omega
    conv => rhs; rw [hk]
    rw [zpow_neg, zpow_natCast, one_div]
    push_cast
    rfl

/-- A power of two is positive. -/
theorem pow2_pos (k : Int) : 0 < pow2 k := by
  rw [pow2_eq_zpow]
  positivity

/-- Exponents add. -/
theorem pow2_add (j k : Int) : pow2 (j + k) = pow2 j * pow2 k := by
  simp only [pow2_eq_zpow]
  exact zpow_add₀ two_ne_zero j k

/-- The next power. -/
theorem pow2_succ (k : Int) : pow2 (k + 1) = 2 * pow2 k := by
  rw [pow2_add, mul_comm]
  rfl

/-- A natural exponent. -/
theorem pow2_natCast (n : Nat) : pow2 n = ((2 ^ n : Nat) : Rat) := by
  rw [pow2_eq_zpow, zpow_natCast]
  push_cast
  rfl

/-- Powers are ordered as their exponents. -/
theorem pow2_le_iff {j k : Int} : pow2 j ≤ pow2 k ↔ j ≤ k := by
  simp only [pow2_eq_zpow]
  exact zpow_le_zpow_iff_right₀ one_lt_two

/-- Powers are ordered as their exponents. -/
theorem pow2_lt_iff {j k : Int} : pow2 j < pow2 k ↔ j < k := by
  simp only [pow2_eq_zpow]
  exact zpow_lt_zpow_iff_right₀ one_lt_two

/-- A count of units below a binade, in powers of two. -/
theorem natCast_two_pow_mul_pow2 (n : Nat) (k : Int) : ((2 ^ n : Nat) : Rat) * pow2 k = pow2 (k + n) := by
  rw [pow2_add, pow2_natCast, mul_comm]

/-! ### The binade of a positive rational -/

/-- A binade is found by its bounds. -/
theorem binade_unique {a : Rat} {j k : Int} (hj : pow2 j ≤ a) (hj' : a < pow2 (j + 1)) (hk : pow2 k ≤ a)
    (hk' : a < pow2 (k + 1)) : j = k := by
  have h1 := pow2_lt_iff.mp (hj.trans_lt hk')
  have h2 := pow2_lt_iff.mp (hk.trans_lt hj')
  omega

/-- The binade of a natural number. -/
theorem log2_spec {n : Nat} (hn : n ≠ 0) : pow2 n.log2 ≤ n ∧ (n : Rat) < 2 * pow2 n.log2 := by
  constructor
  · rw [pow2_natCast]
    exact_mod_cast Nat.log2_self_le hn
  · rw [← pow2_succ, show ((n.log2 : Int) + 1) = ((n.log2 + 1 : Nat) : Int) by rfl, pow2_natCast]
    exact_mod_cast Nat.lt_log2_self

/-- A quotient lies within one binade of the difference of the logarithms. -/
theorem quotient_bounds {n d : Nat} (hn : n ≠ 0) (hd : d ≠ 0) :
    pow2 ((n.log2 : Int) - d.log2) ≤ 2 * ((n : Rat) / d) ∧ (n : Rat) / d < 2 * pow2 ((n.log2 : Int) - d.log2) := by
  obtain ⟨hn1, hn2⟩ := log2_spec hn
  obtain ⟨hd1, hd2⟩ := log2_spec hd
  have hd0 : (0 : Rat) < d := by exact_mod_cast Nat.pos_of_ne_zero hd
  have hk := pow2_pos ((n.log2 : Int) - d.log2)
  have hsplit : pow2 n.log2 = pow2 ((n.log2 : Int) - d.log2) * pow2 d.log2 := by rw [← pow2_add, Int.sub_add_cancel]
  rw [mul_div_assoc', le_div_iff₀ hd0, div_lt_iff₀ hd0]
  constructor <;> nlinarith

/-- `ratLog2` names the binade of a positive rational (R284). -/
theorem ratLog2_spec {a : Rat} (ha : 0 < a) : pow2 (ratLog2 a) ≤ a ∧ a < pow2 (ratLog2 a + 1) := by
  have hnum : 0 < a.num := Rat.num_pos.mpr ha
  have hcast : (a.num.natAbs : Rat) / (a.den : Rat) = a := by
    conv => rhs; rw [← Rat.num_div_den a]
    rw [← Int.cast_natCast, Int.natAbs_of_nonneg hnum.le]
  obtain ⟨hlow, hup⟩ := quotient_bounds (Int.natAbs_ne_zero.mpr hnum.ne') a.den_nz
  rw [hcast] at hlow hup
  unfold ratLog2
  simp only
  generalize (Nat.log2 a.num.natAbs : Int) - Nat.log2 a.den = k at *
  split
  · next h => exact ⟨h, by rwa [pow2_succ]⟩
  · next h =>
    have hpred : 2 * pow2 (k - 1) = pow2 k := by rw [← pow2_succ, Int.sub_add_cancel]
    exact ⟨by linarith, by rw [Int.sub_add_cancel]; exact not_le.mp h⟩

/-- The binade of a number between two powers. -/
theorem ratLog2_eq {a : Rat} {e : Int} (h1 : pow2 e ≤ a) (h2 : a < pow2 (e + 1)) : ratLog2 a = e :=
  have hspec := ratLog2_spec ((pow2_pos e).trans_le h1)
  binade_unique hspec.1 hspec.2 h1 h2

/-! ### The parameters of the formats (R280, R281) -/

namespace FpFmt

variable (f : FpFmt)

/-- `emin = 1 - bias`. -/
theorem emin_eq : f.emin = 1 - f.bias := by cases f <;> rfl

/-- `emax = bias`. -/
theorem emax_eq : f.emax = f.bias := by cases f <;> rfl

/-- The largest exponent field. -/
theorem expMax_eq : f.expMax = 2 * f.bias + 1 := by cases f <;> rfl

/-- The precision is small beside the exponent range. -/
theorem prec_lt_bias : 2 * f.prec < f.bias := by cases f <;> decide

/-- There are fraction bits. -/
theorem one_lt_prec : 1 < f.prec := by cases f <;> decide

/-- The magnitude field is the exponent and the fraction. -/
theorem two_pow_width : 2 ^ (f.width - 1) = (f.expMax + 1) * 2 ^ (f.prec - 1) := by cases f <;> decide

/-- The sign is above it. -/
theorem two_pow_width_eq : 2 ^ f.width = 2 * 2 ^ (f.width - 1) := by cases f <;> decide

/-- The bits of the precision. -/
theorem two_pow_prec : 2 ^ f.prec = 2 * 2 ^ (f.prec - 1) := by cases f <;> decide

end FpFmt

/-! ### Fields of a pattern -/

section Fields

variable {f : FpFmt} {b : FpBits f} {m : Nat}

/-- The magnitude field: the bits below the sign. -/
def fpField (b : FpBits f) : Nat := b.toNat % 2 ^ (f.width - 1)

/-- The field is below the sign bit. -/
theorem fpField_lt (b : FpBits f) : fpField b < 2 ^ (f.width - 1) := Nat.mod_lt _ (Nat.two_pow_pos _)

/-- The field is the exponent over the fraction. -/
theorem fpField_eq (b : FpBits f) : fpField b = fpExp b * 2 ^ (f.prec - 1) + fpFrac b := by
  rw [fpField, fpExp, fpFrac, FpFmt.two_pow_width, Nat.mul_comm (f.expMax + 1), Nat.mod_mul, Nat.add_comm, Nat.mul_comm]

/-- The fraction is below its bits. -/
theorem fpFrac_lt (b : FpBits f) : fpFrac b < 2 ^ (f.prec - 1) := Nat.mod_lt _ (Nat.two_pow_pos _)

/-- The exponent of a field. -/
theorem fpExp_eq (b : FpBits f) : fpExp b = fpField b / 2 ^ (f.prec - 1) := by
  rw [fpField_eq, Nat.add_comm, Nat.add_mul_div_right _ _ (Nat.two_pow_pos _), Nat.div_eq_of_lt (fpFrac_lt b),
    Nat.zero_add]

/-- The fraction of a field. -/
theorem fpFrac_eq (b : FpBits f) : fpFrac b = fpField b % 2 ^ (f.prec - 1) := by
  rw [fpField_eq, Nat.add_comm, Nat.add_mul_mod_self_right, Nat.mod_eq_of_lt (fpFrac_lt b)]

/-- The exponent field is at most that of infinities and NaNs. -/
theorem fpExp_le (b : FpBits f) : fpExp b ≤ f.expMax := Nat.lt_succ_iff.mp (Nat.mod_lt _ (Nat.succ_pos _))

/-- A pattern, as a number. -/
theorem fpPattern_toNat (sign : Bool) (hm : m < 2 ^ (f.width - 1)) :
    (fpPattern f sign m).toNat = (if sign then 2 ^ (f.width - 1) else 0) + m := by
  have hw := f.two_pow_width_eq
  rw [fpPattern, BitVec.toNat_ofNat, Nat.mod_eq_of_lt]
  split <;> omega

/-- The sign of a pattern. -/
theorem fpSign_pattern (sign : Bool) (hm : m < 2 ^ (f.width - 1)) : fpSign (fpPattern f sign m) = sign := by
  have hw := f.two_pow_width_eq
  rw [fpSign, Bool.eq_iff_iff, BitVec.msb_eq_true_iff_two_mul_ge, fpPattern_toNat sign hm]
  cases sign <;> simp <;> omega

/-- The field of a pattern. -/
theorem fpField_pattern (sign : Bool) (hm : m < 2 ^ (f.width - 1)) : fpField (fpPattern f sign m) = m := by
  rw [fpField, fpPattern_toNat sign hm]
  cases sign
  · simpa using Nat.mod_eq_of_lt hm
  · simpa using Nat.mod_eq_of_lt hm

/-- A pattern is its sign and its field. -/
theorem pattern_sign_field (b : FpBits f) : fpPattern f (fpSign b) (fpField b) = b := by
  have hw := f.two_pow_width_eq
  have hlt := b.isLt
  apply BitVec.eq_of_toNat_eq
  rw [fpPattern_toNat _ (fpField_lt b), fpField]
  have hsign : fpSign b = true ↔ 2 ^ (f.width - 1) ≤ b.toNat := by
    rw [fpSign, BitVec.msb_eq_true_iff_two_mul_ge]
    omega
  cases h : fpSign b
  · have hlt' : b.toNat < 2 ^ (f.width - 1) := not_le.mp fun hle => Bool.false_ne_true (h ▸ hsign.mpr hle)
    simpa using Nat.mod_eq_of_lt hlt'
  · have hle := hsign.mp h
    rw [if_pos rfl, Nat.mod_eq_sub_mod hle, Nat.mod_eq_of_lt (by omega)]
    omega

/-- Two patterns with one sign and one field are one. -/
theorem eq_of_sign_field {a b : FpBits f} (hsign : fpSign a = fpSign b) (hfield : fpField a = fpField b) : a = b := by
  rw [← pattern_sign_field a, hsign, hfield, pattern_sign_field]

end Fields

/-! ### Values of patterns (R281) -/

section Values

variable {f : FpFmt} {b : FpBits f} {k n : Nat}

/-- A field that counts `n` units of the binade `k` above the least. -/
structure FieldAt (f : FpFmt) (m k n : Nat) : Prop where
  /-- The field. -/
  field : m = k * 2 ^ (f.prec - 1) + n
  /-- A carry into the next binade at most. -/
  le : n ≤ 2 * 2 ^ (f.prec - 1)
  /-- A normal number, or the least binade. -/
  normal : 2 ^ (f.prec - 1) ≤ n ∨ k = 0

/-- The exponent field of a subnormal number. -/
theorem fpExp_subnormal (h : FieldAt f (fpField b) k n) (hn : n < 2 ^ (f.prec - 1)) : fpExp b = 0 := by
  obtain ⟨hfield, -, hnormal⟩ := h
  have hk : k = 0 := by omega
  rw [fpExp_eq, hfield, hk, Nat.zero_mul, Nat.zero_add, Nat.div_eq_of_lt hn]

/-- The exponent field of a normal number without a carry. -/
theorem fpExp_normal (h : FieldAt f (fpField b) k n) (h1 : 2 ^ (f.prec - 1) ≤ n) (h2 : n < 2 * 2 ^ (f.prec - 1)) :
    fpExp b = k + 1 := by
  rw [fpExp_eq, h.field]
  refine Nat.div_eq_of_lt_le ?_ ?_ <;> simp only [Nat.add_mul] <;> omega

/-- The exponent field after a carry. -/
theorem fpExp_carry (h : FieldAt f (fpField b) k n) (hn : n = 2 * 2 ^ (f.prec - 1)) : fpExp b = k + 2 := by
  have hpos := Nat.two_pow_pos (f.prec - 1)
  rw [fpExp_eq, h.field, hn, ← Nat.add_mul, Nat.mul_div_cancel _ hpos]

/-- The magnitude counts units of its binade (R281). -/
theorem fpMagnitude_eq (h : FieldAt f (fpField b) k n) : fpMagnitude b = n * pow2 (k + f.emin - f.prec + 1) := by
  have hfield := fpField_eq b
  rw [h.field] at hfield
  have hle := h.le
  have hemin := f.emin_eq
  unfold fpMagnitude
  rcases Nat.lt_or_ge n (2 ^ (f.prec - 1)) with hlt | hge
  · have hk : k = 0 := h.normal.resolve_left (not_le.mpr hlt)
    have hexp := fpExp_subnormal h hlt
    rw [hexp, hk] at hfield
    rw [if_pos hexp, show fpFrac b = n by omega, hk]
    congr 2
    omega
  · rcases Nat.lt_or_ge n (2 * 2 ^ (f.prec - 1)) with hlt | hge'
    · have hexp := fpExp_normal h hge hlt
      rw [hexp, Nat.add_mul, Nat.one_mul] at hfield
      rw [if_neg (by omega), hexp, show 2 ^ (f.prec - 1) + fpFrac b = n by omega]
      congr 2
      push_cast
      omega
    · have hn : n = 2 * 2 ^ (f.prec - 1) := by omega
      have hexp := fpExp_carry h hn
      rw [hexp, Nat.add_mul] at hfield
      rw [if_neg (by omega), hexp, show 2 ^ (f.prec - 1) + fpFrac b = 2 ^ (f.prec - 1) by omega, hn, Nat.cast_mul,
        Nat.cast_ofNat, mul_assoc, mul_left_comm, ← pow2_succ]
      congr 2
      push_cast
      omega

/-- Every pattern counts units of a binade, without a carry. -/
theorem exists_fieldAt (b : FpBits f) : ∃ k n, FieldAt f (fpField b) k n ∧ n < 2 * 2 ^ (f.prec - 1) := by
  have hfield := fpField_eq b
  have hfrac := fpFrac_lt b
  rcases Nat.eq_zero_or_pos (fpExp b) with hexp | hexp
  · exact ⟨0, fpFrac b, ⟨by rw [hfield, hexp], by omega, .inr rfl⟩, by omega⟩
  · obtain ⟨k, hk⟩ := Nat.exists_eq_add_of_lt hexp
    refine ⟨k, 2 ^ (f.prec - 1) + fpFrac b, ⟨?_, by omega, .inl (Nat.le_add_right _ _)⟩, by omega⟩
    rw [hfield, hk, Nat.zero_add, Nat.add_mul, Nat.one_mul, Nat.add_assoc]

/-- The magnitude is not negative. -/
theorem fpMagnitude_nonneg (b : FpBits f) : 0 ≤ fpMagnitude b := by
  obtain ⟨k, n, h, -⟩ := exists_fieldAt b
  rw [fpMagnitude_eq h]
  exact mul_nonneg (Nat.cast_nonneg _) (pow2_pos _).le

/-- A zero is a pattern whose field is 0. -/
theorem fpIsZero_iff : fpIsZero b = true ↔ fpField b = 0 := by
  have hpos := Nat.two_pow_pos (f.prec - 1)
  rw [fpIsZero, Bool.and_eq_true, beq_iff_eq, beq_iff_eq, fpField_eq, Nat.add_eq_zero_iff, Nat.mul_eq_zero]
  constructor
  · exact fun h => ⟨.inl h.1, h.2⟩
  · exact fun h => ⟨h.1.resolve_right (by omega), h.2⟩

/-- A zero is a pattern of magnitude 0. -/
theorem fpIsZero_iff_magnitude : fpIsZero b = true ↔ fpMagnitude b = 0 := by
  obtain ⟨k, n, h, hn⟩ := exists_fieldAt b
  have hpos := Nat.two_pow_pos (f.prec - 1)
  rw [fpIsZero_iff, fpMagnitude_eq h, mul_eq_zero, or_iff_left (pow2_pos _).ne', Nat.cast_eq_zero, h.field,
    Nat.add_eq_zero_iff, Nat.mul_eq_zero]
  have hnormal := h.normal
  omega

/-- A zero is a pattern of value 0. -/
theorem fpIsZero_iff_val : fpIsZero b = true ↔ fpVal b = 0 := by
  rw [fpIsZero_iff_magnitude, fpVal]
  split
  · exact neg_eq_zero.symm
  · exact Iff.rfl

/-- The value of a pattern that is no zero is negative exactly when its sign is set. -/
theorem fpVal_lt_zero_iff (h : fpIsZero b = false) : fpVal b < 0 ↔ fpSign b = true := by
  have hne : fpMagnitude b ≠ 0 := fun h0 => by simp [fpIsZero_iff_magnitude.mpr h0] at h
  have hpos := lt_of_le_of_ne (fpMagnitude_nonneg b) hne.symm
  rw [fpVal]
  split
  · next hs => simp [hs, hpos]
  · next hs => simp [hs, hpos.le]

/-- The magnitude is the absolute value. -/
theorem abs_fpVal (b : FpBits f) : (if fpVal b < 0 then -fpVal b else fpVal b) = fpMagnitude b := by
  have h := fpMagnitude_nonneg b
  unfold fpVal
  split <;> split <;> linarith

/-! ### Encoding -/

/-- `n` units of the binade `e` are a finite number of the format (R281). -/
structure Encodable (f : FpFmt) (e : Int) (n : Nat) : Prop where
  /-- The binade is not below the least. -/
  emin_le : f.emin ≤ e
  /-- A carry into the next binade at most. -/
  le : n ≤ 2 * 2 ^ (f.prec - 1)
  /-- A normal number, or the least binade. -/
  normal : 2 ^ (f.prec - 1) ≤ n ∨ e = f.emin
  /-- The magnitude is below `2^(emax + 1)`. -/
  lt : (n : Rat) * pow2 (e - f.prec + 1) < pow2 (f.emax + 1)

variable {e : Int}

/-- The unit of a binade and the binade. -/
theorem two_pow_mul_unit (f : FpFmt) (e : Int) :
    ((2 ^ (f.prec - 1) : Nat) : Rat) * pow2 (e - f.prec + 1) = pow2 e := by
  rw [natCast_two_pow_mul_pow2]
  congr 1
  have := f.one_lt_prec
  omega

/-- A magnitude of at least `2^(p-1)` units reaches its binade. -/
theorem pow2_le_units (h : 2 ^ (f.prec - 1) ≤ n) : pow2 e ≤ n * pow2 (e - f.prec + 1) := by
  rw [← two_pow_mul_unit f e]
  exact mul_le_mul_of_nonneg_right (by exact_mod_cast h) (pow2_pos _).le

/-- A magnitude of less than `2^(p-1)` units is below its binade. -/
theorem units_lt_pow2 (h : n < 2 ^ (f.prec - 1)) : n * pow2 (e - f.prec + 1) < pow2 e := by
  rw [← two_pow_mul_unit f e]
  exact mul_lt_mul_of_pos_right (by exact_mod_cast h) (pow2_pos _)

/-- A magnitude of less than `2^p` units is below the next binade. -/
theorem units_lt_pow2_succ (h : n < 2 * 2 ^ (f.prec - 1)) : n * pow2 (e - f.prec + 1) < pow2 (e + 1) := by
  rw [pow2_succ e, ← two_pow_mul_unit f e, ← mul_assoc]
  exact mul_lt_mul_of_pos_right (by exact_mod_cast h) (pow2_pos _)

/-- Where an encodable magnitude stands: its binade, and its field below that of the infinities. -/
theorem Encodable.bounds (h : Encodable f e n) : e ≤ f.emax ∧
    (e + f.bias - 1).toNat * 2 ^ (f.prec - 1) + n < f.expMax * 2 ^ (f.prec - 1) := by
  obtain ⟨hemin, hle, hnormal, hlt⟩ := h
  have hprec := f.prec_lt_bias
  rw [f.emin_eq] at hemin hnormal
  rw [f.emax_eq] at hlt ⊢
  have hpos := Nat.two_pow_pos (f.prec - 1)
  have he : e ≤ f.bias := by
    rcases hnormal with hn | he
    · have := pow2_lt_iff.mp ((pow2_le_units (f := f) (e := e) hn).trans_lt hlt)
      omega
    · omega
  obtain ⟨k, hk⟩ : ∃ k : Nat, e + f.bias - 1 = k := ⟨(e + f.bias - 1).toNat, by omega⟩
  refine ⟨he, ?_⟩
  rw [hk, Int.toNat_natCast, f.expMax_eq]
  have hcarry : n = 2 * 2 ^ (f.prec - 1) → e < f.bias := by
    intro hn
    rw [hn, Nat.cast_mul, mul_assoc, two_pow_mul_unit, Nat.cast_ofNat, ← pow2_succ, pow2_lt_iff] at hlt
    omega
  by_cases hn : n = 2 * 2 ^ (f.prec - 1)
  · have := hcarry hn
    have hk2 : k + 3 ≤ 2 * f.bias + 1 := by omega
    have := Nat.mul_le_mul_right (2 ^ (f.prec - 1)) hk2
    rw [Nat.add_mul] at this
    omega
  · have hk2 : k + 2 ≤ 2 * f.bias + 1 := by omega
    have := Nat.mul_le_mul_right (2 ^ (f.prec - 1)) hk2
    rw [Nat.add_mul] at this
    omega

/-- Fields below that of the infinities are below the sign. -/
theorem lt_two_pow_width {m : Nat} (h : m ≤ f.expMax * 2 ^ (f.prec - 1)) : m < 2 ^ (f.width - 1) := by
  have hpos := Nat.two_pow_pos (f.prec - 1)
  rw [f.two_pow_width, Nat.add_mul]
  omega

/-- The field of an encodable magnitude. -/
theorem fpField_encode (h : Encodable f e n) (sign : Bool) :
    fpField (fpEncode f sign e n) = (e + f.bias - 1).toNat * 2 ^ (f.prec - 1) + n :=
  fpField_pattern sign (lt_two_pow_width h.bounds.2.le)

/-- It counts the units of its binade. -/
theorem fieldAt_encode (h : Encodable f e n) (sign : Bool) :
    FieldAt f (fpField (fpEncode f sign e n)) (e + f.bias - 1).toNat n := by
  refine ⟨fpField_encode h sign, h.le, h.normal.imp_right fun he => ?_⟩
  rw [he, f.emin_eq]
  omega

/-- The sign of an encoded number. -/
theorem fpSign_encode (h : Encodable f e n) (sign : Bool) : fpSign (fpEncode f sign e n) = sign :=
  fpSign_pattern sign (lt_two_pow_width h.bounds.2.le)

/-- A finite pattern is one whose field is below that of the infinities. -/
theorem fpExp_ne_expMax_iff : fpExp b ≠ f.expMax ↔ fpField b < f.expMax * 2 ^ (f.prec - 1) := by
  have hle := fpExp_le b
  rw [← Nat.div_lt_iff_lt_mul (Nat.two_pow_pos _), ← fpExp_eq]
  omega

/-- An encoded number is finite. -/
theorem fpExp_encode_ne (h : Encodable f e n) (sign : Bool) : fpExp (fpEncode f sign e n) ≠ f.expMax := by
  rw [fpExp_ne_expMax_iff, fpField_encode h]
  exact h.bounds.2

/-- The magnitude of an encoded number (R281). -/
theorem fpMagnitude_encode (h : Encodable f e n) (sign : Bool) :
    fpMagnitude (fpEncode f sign e n) = n * pow2 (e - f.prec + 1) := by
  have hemin := h.emin_le
  rw [fpMagnitude_eq (fieldAt_encode h sign)]
  congr 2
  rw [f.emin_eq] at hemin ⊢
  omega

/-- The value of an encoded number (R281). -/
theorem fpVal_encode (h : Encodable f e n) (sign : Bool) :
    fpVal (fpEncode f sign e n) = (if sign then -1 else 1) * (n * pow2 (e - f.prec + 1)) := by
  rw [fpVal, fpSign_encode h, fpMagnitude_encode h]
  cases sign <;> simp

/-- A finite pattern encodes units of a binade, without a carry (R281). -/
theorem exists_encode (hfin : fpExp b ≠ f.expMax) : ∃ (e : Int) (n : Nat), Encodable f e n ∧
    n < 2 * 2 ^ (f.prec - 1) ∧ b = fpEncode f (fpSign b) e n ∧ fpMagnitude b = n * pow2 (e - f.prec + 1) ∧
      (fpExp b = 0 ↔ n < 2 ^ (f.prec - 1)) := by
  obtain ⟨k, n, h, hn⟩ := exists_fieldAt b
  have hmag := fpMagnitude_eq h
  have hemin := f.emin_eq
  have hexp := fpExp_le b
  have hk : (k + f.emin + f.bias - 1).toNat = k := by omega
  have hkmax : k + f.emin ≤ f.emax := by
    have hemax := f.emax_eq
    have hmax := f.expMax_eq
    have hprec := f.prec_lt_bias
    rcases Nat.lt_or_ge n (2 ^ (f.prec - 1)) with hlt | hge
    · have := h.normal
      omega
    · have := fpExp_normal h hge hn
      omega
  have henc : Encodable f (k + f.emin) n := by
    refine ⟨by omega, h.le, h.normal.imp_right fun hk0 => by omega, ?_⟩
    exact (units_lt_pow2_succ hn).trans_le (pow2_le_iff.mpr (by omega))
  refine ⟨k + f.emin, n, henc, hn, eq_of_sign_field (fpSign_encode henc _).symm ?_, hmag, ?_⟩
  · rw [fpField_encode henc, hk]
    exact h.field
  · constructor
    · intro h0
      by_contra hge
      have := fpExp_normal h (not_lt.mp hge) hn
      omega
    · exact fpExp_subnormal h

end Values

end Sys2Proof.Machine

/-! Rounding a rational (44_fpu_unit.md R284-R287). In units of the binade the magnitude is rounded to a count
(`roundCount`), the integer the mode names; what the count stands for is encoded, overflows or is flushed. -/

namespace Sys2Proof.Machine

/-! ### Rounding (R284-R287) -/

section Rounding

variable {f : FpFmt} {rm : RoundingMode} {fs sign tiny : Bool} {e : Int} {n0 : Nat} {rem : Rest}

/-- The units a rounding gives: the integer part, or one more (R284). -/
def roundedUnits (rm : RoundingMode) (sign : Bool) (n0 : Nat) (rem : Rest) : Nat :=
  if roundsUp rm sign n0 rem then n0 + 1 else n0

/-- Without a remainder nothing is added. -/
theorem roundedUnits_zero (rm : RoundingMode) (sign : Bool) (n0 : Nat) : roundedUnits rm sign n0 .zero = n0 := by
  cases rm <;> rfl

/-- Rounding adds 1 at most. -/
theorem roundedUnits_bounds (rm : RoundingMode) (sign : Bool) (n0 : Nat) (rem : Rest) :
    n0 ≤ roundedUnits rm sign n0 rem ∧ roundedUnits rm sign n0 rem ≤ n0 + 1 := by
  unfold roundedUnits
  split <;> omega

/-- A result that overflows (R285). -/
theorem finishRound_overflow (h : pow2 (f.emax + 1) ≤ (roundedUnits rm sign n0 rem : Rat) * pow2 (e - f.prec + 1)) :
    finishRound f rm fs sign e n0 rem tiny = fpOverflow f rm sign := if_pos h

/-- A result that is flushed to zero (R287, R292). -/
theorem finishRound_flush (hlt : (roundedUnits rm sign n0 rem : Rat) * pow2 (e - f.prec + 1) < pow2 (f.emax + 1))
    (h : fs = true ∧ 0 < (roundedUnits rm sign n0 rem : Rat) * pow2 (e - f.prec + 1) ∧
      (roundedUnits rm sign n0 rem : Rat) * pow2 (e - f.prec + 1) < pow2 f.emin) :
    finishRound f rm fs sign e n0 rem tiny = (fpZero f sign, excU ||| excI) :=
  (if_neg (not_le.mpr hlt)).trans (if_pos h)

/-- A result that is encoded, with its flags (R281, R286). -/
theorem finishRound_encode (hlt : (roundedUnits rm sign n0 rem : Rat) * pow2 (e - f.prec + 1) < pow2 (f.emax + 1))
    (h : ¬ (fs = true ∧ 0 < (roundedUnits rm sign n0 rem : Rat) * pow2 (e - f.prec + 1) ∧
      (roundedUnits rm sign n0 rem : Rat) * pow2 (e - f.prec + 1) < pow2 f.emin)) :
    finishRound f rm fs sign e n0 rem tiny = (fpEncode f sign e (roundedUnits rm sign n0 rem),
      if rem = .zero then 0#5 else if tiny then excU ||| excI else excI) := by
  refine (if_neg (not_le.mpr hlt)).trans ((if_neg h).trans (Prod.ext rfl ?_))
  cases rem <;> cases tiny <;> rfl

/-- The infinite or the largest finite result of an overflow (R285). -/
theorem fpOverflow_eq (f : FpFmt) (rm : RoundingMode) (sign : Bool) :
    fpOverflow f rm sign = (if rm = .nearestEven ∨ rm = .towardPlus ∧ sign = false ∨ rm = .towardMinus ∧ sign = true
      then fpInf f sign else fpMaxFin f sign, excO ||| excI) := by
  cases rm <;> cases sign <;> rfl

/-- A remainder's class is that of 0 where it is 0. -/
theorem Rest.of_eq_zero_iff (x : Rat) : Rest.of x = .zero ↔ x = 0 := by
  unfold Rest.of
  split
  · next h => simp [h]
  · next h =>
    simp only [h, iff_false]
    split
    · nofun
    · split <;> nofun

/-- The floor of a rational that is not negative, as a natural number. -/
theorem floor_toNat {t : Rat} (ht : 0 ≤ t) : ((t.floor.toNat : Nat) : Rat) ≤ t ∧ t < (t.floor.toNat : Nat) + 1 ∧
    (t.floor : Rat) = (t.floor.toNat : Nat) := by
  obtain ⟨h0, h1⟩ := floor_spec t
  have hnonneg : 0 ≤ t.floor := Rat.le_floor_iff.mpr (by exact_mod_cast ht)
  have hcast : (t.floor : Rat) = (t.floor.toNat : Nat) := by
    conv => lhs; rw [← Int.toNat_of_nonneg hnonneg]
    rfl
  rw [hcast] at h0 h1
  exact ⟨by linarith, by linarith, hcast⟩

/-- `up` of R284 gives the integer the mode names. -/
theorem roundedUnits_roundsTo (rm : RoundingMode) (sign : Bool) {t : Rat} (ht : 0 ≤ t) :
    roundsTo rm (if sign then -t else t)
      (if sign then -(roundedUnits rm sign t.floor.toNat (Rest.of (t - t.floor)) : Int)
        else roundedUnits rm sign t.floor.toNat (Rest.of (t - t.floor))) := by
  obtain ⟨h0, h1, hcast⟩ := floor_toNat ht
  rw [hcast]
  generalize t.floor.toNat = n0 at *
  have hzero := Rest.of_eq_zero_iff (t - n0)
  have hn0 : (0 : Rat) ≤ n0 := n0.cast_nonneg
  cases rm with
  | nearestEven =>
    have hpos : roundsTo .nearestEven t (roundedUnits .nearestEven sign n0 (Rest.of (t - n0)) : Int) := by
      unfold Rest.of
      by_cases hx : t - n0 = 0
      · rw [if_pos hx, roundedUnits_zero]
        refine ⟨by push_cast; linarith, by push_cast; linarith, ?_⟩
        push_cast
        rintro (h | h) <;> linarith
      rw [if_neg hx]
      rcases lt_trichotomy (t - n0) (1 / 2) with hlow | hhalf | hhigh
      · have hunits : roundedUnits .nearestEven sign n0 .low = n0 := rfl
        rw [if_pos hlow, hunits]
        refine ⟨by push_cast; linarith, by push_cast; linarith, ?_⟩
        push_cast
        rintro (h | h) <;> linarith
      · rw [if_neg (by linarith), if_pos hhalf]
        rcases Nat.mod_two_eq_zero_or_one n0 with heven | hodd
        · have hunits : roundedUnits .nearestEven sign n0 .half = n0 := by simp [roundedUnits, roundsUp, heven]
          rw [hunits]
          exact ⟨by push_cast; linarith, by push_cast; linarith, fun _ => by omega⟩
        · have hunits : roundedUnits .nearestEven sign n0 .half = n0 + 1 := by simp [roundedUnits, roundsUp, hodd]
          rw [hunits]
          exact ⟨by push_cast; linarith, by push_cast; linarith, fun _ => by omega⟩
      · have hunits : roundedUnits .nearestEven sign n0 .high = n0 + 1 := rfl
        rw [if_neg (by linarith), if_neg (by linarith), hunits]
        refine ⟨by push_cast; linarith, by push_cast; linarith, ?_⟩
        push_cast
        rintro (h | h) <;> linarith
    cases sign
    · exact hpos
    · exact roundsTo_nearestEven_neg hpos
  | towardZero =>
    cases sign
    · exact ⟨fun _ => ⟨h0, h1⟩, fun h => absurd ht (not_le.mpr h)⟩
    · refine ⟨fun h => ?_, fun _ => ?_⟩ <;> simp only [roundedUnits, roundsUp] at * <;> norm_num at *
      · constructor <;> linarith
      · constructor <;> linarith
  | towardPlus =>
    cases sign
    · by_cases hx : t - n0 = 0
      · rw [hzero.mpr hx, roundedUnits_zero]
        exact ⟨by push_cast; linarith, by push_cast; linarith⟩
      · have hunits : roundedUnits .towardPlus false n0 (Rest.of (t - n0)) = n0 + 1 := by
          simp [roundedUnits, roundsUp, hzero, hx]
        have hlt : (n0 : Rat) < t := lt_of_le_of_ne h0 fun h => hx (by linarith)
        rw [hunits]
        exact ⟨by push_cast; linarith, by push_cast; linarith⟩
    · have hunits : roundedUnits .towardPlus true n0 (Rest.of (t - n0)) = n0 := by
        simp [roundedUnits, roundsUp]
      rw [hunits, if_pos rfl, if_pos rfl]
      exact ⟨by push_cast; linarith, by push_cast; linarith⟩
  | towardMinus =>
    cases sign
    · have hunits : roundedUnits .towardMinus false n0 (Rest.of (t - n0)) = n0 := by
        simp [roundedUnits, roundsUp]
      rw [hunits]
      exact ⟨by push_cast; linarith, by push_cast; linarith⟩
    · by_cases hx : t - n0 = 0
      · rw [hzero.mpr hx, roundedUnits_zero, if_pos rfl, if_pos rfl]
        exact ⟨by push_cast; linarith, by push_cast; linarith⟩
      · have hunits : roundedUnits .towardMinus true n0 (Rest.of (t - n0)) = n0 + 1 := by
          simp [roundedUnits, roundsUp, hzero, hx]
        have hlt : (n0 : Rat) < t := lt_of_le_of_ne h0 fun h => hx (by linarith)
        rw [hunits, if_pos rfl, if_pos rfl]
        exact ⟨by push_cast; linarith, by push_cast; linarith⟩

end Rounding

/-! ### Rounding a rational (R284) -/

section RoundRat

variable {f : FpFmt} {rm : RoundingMode} {fs : Bool} {r : Rat}

/-- The magnitude of a rational. -/
def ratMagnitude (r : Rat) : Rat := if r < 0 then -r else r

/-- The binade in which a rational is rounded: its own, but the least normal one at least. -/
def roundBinade (f : FpFmt) (r : Rat) : Int := max (ratLog2 (ratMagnitude r)) f.emin

/-- The spacing of the format there. -/
def roundUnit (f : FpFmt) (r : Rat) : Rat := pow2 (roundBinade f r - f.prec + 1)

/-- A natural number is its own floor. -/
theorem floor_natCast (n : Nat) : (n : Rat).floor = n := by
  rw [← Int.cast_natCast]
  exact Rat.floor_intCast _

/-- The magnitude in units, rounded to an integer. -/
def roundCount (f : FpFmt) (rm : RoundingMode) (r : Rat) : Nat :=
  roundedUnits rm (decide (r < 0)) (ratMagnitude r / roundUnit f r).floor.toNat
    (Rest.of (ratMagnitude r / roundUnit f r - (ratMagnitude r / roundUnit f r).floor))

/-- A magnitude is positive. -/
theorem ratMagnitude_pos (hr : r ≠ 0) : 0 < ratMagnitude r := by
  unfold ratMagnitude
  split
  · next h => exact neg_pos.mpr h
  · next h => exact lt_of_le_of_ne (not_lt.mp h) hr.symm

/-- A rational is its magnitude with its sign. -/
theorem sign_mul_ratMagnitude (r : Rat) : (if r < 0 then -1 else 1) * ratMagnitude r = r := by
  unfold ratMagnitude
  split <;> simp

/-- A unit is positive. -/
theorem roundUnit_pos (f : FpFmt) (r : Rat) : 0 < roundUnit f r := pow2_pos _

/-- `Round` is the end of R284 on these units. -/
theorem fpRound_eq (f : FpFmt) (rm : RoundingMode) (fs : Bool) (r : Rat) :
    fpRound f rm fs r = finishRound f rm fs (decide (r < 0)) (roundBinade f r)
      (ratMagnitude r / roundUnit f r).floor.toNat
      (Rest.of (ratMagnitude r / roundUnit f r - (ratMagnitude r / roundUnit f r).floor))
      (decide (ratMagnitude r < pow2 f.emin)) := rfl

/-- The count is the integer the mode names. -/
theorem roundCount_roundsTo (f : FpFmt) (rm : RoundingMode) (r : Rat) :
    roundsTo rm (r / roundUnit f r) (if r < 0 then -(roundCount f rm r : Int) else roundCount f rm r) := by
  have hunit := roundUnit_pos f r
  have ht : 0 ≤ ratMagnitude r / roundUnit f r := by
    refine div_nonneg ?_ hunit.le
    unfold ratMagnitude
    split <;> linarith
  have h := roundedUnits_roundsTo rm (decide (r < 0)) ht
  unfold roundCount
  by_cases hneg : r < 0
  · have hmag : ratMagnitude r = -r := if_pos hneg
    simpa only [hneg, hmag, decide_true, if_true, neg_div, neg_neg] using h
  · have hmag : ratMagnitude r = r := if_neg hneg
    simpa only [hneg, hmag, decide_false, Bool.false_eq_true, if_false] using h

/-- Where the magnitude stands in units. -/
theorem ratMagnitude_div_unit (f : FpFmt) (hr : r ≠ 0) :
    ratMagnitude r / roundUnit f r < 2 * 2 ^ (f.prec - 1) ∧
      (((2 ^ (f.prec - 1) : Nat) : Rat) ≤ ratMagnitude r / roundUnit f r ∨ roundBinade f r = f.emin) := by
  obtain ⟨hlow, hup⟩ := ratLog2_spec (ratMagnitude_pos hr)
  have hunit := roundUnit_pos f r
  have hscale := two_pow_mul_unit f (roundBinade f r)
  have hle : ratLog2 (ratMagnitude r) ≤ roundBinade f r := le_max_left _ _
  rw [← roundUnit.eq_1] at hscale
  rw [div_lt_iff₀ hunit, le_div_iff₀ hunit, hscale]
  constructor
  · calc ratMagnitude r < pow2 (ratLog2 (ratMagnitude r) + 1) := hup
      _ ≤ pow2 (roundBinade f r + 1) := pow2_le_iff.mpr (by omega)
      _ = 2 * 2 ^ (f.prec - 1) * roundUnit f r := by
        rw [pow2_succ, ← hscale]
        push_cast
        ring
  · rcases le_or_gt f.emin (ratLog2 (ratMagnitude r)) with h | h
    · exact .inl (by rwa [roundBinade, max_eq_left h])
    · exact .inr (max_eq_right h.le)

/-- The count is that of a carry at most, and of a normal number or the least binade. -/
theorem roundCount_bounds (f : FpFmt) (rm : RoundingMode) (hr : r ≠ 0) :
    roundCount f rm r ≤ 2 * 2 ^ (f.prec - 1) ∧
      (2 ^ (f.prec - 1) ≤ roundCount f rm r ∨ roundBinade f r = f.emin) := by
  obtain ⟨hlt, hnormal⟩ := ratMagnitude_div_unit f hr
  have ht : 0 ≤ ratMagnitude r / roundUnit f r := div_nonneg (ratMagnitude_pos hr).le (roundUnit_pos f r).le
  obtain ⟨h0, h1, -⟩ := floor_toNat ht
  obtain ⟨hge, hle⟩ := roundedUnits_bounds rm (decide (r < 0)) (ratMagnitude r / roundUnit f r).floor.toNat
    (Rest.of (ratMagnitude r / roundUnit f r - (ratMagnitude r / roundUnit f r).floor))
  rw [← roundCount.eq_1] at hge hle
  constructor
  · have hfloor : ((ratMagnitude r / roundUnit f r).floor.toNat : Rat) < (2 * 2 ^ (f.prec - 1) : Nat) := by
      push_cast
      linarith
    have := Nat.cast_lt.mp hfloor
    omega
  · refine hnormal.imp_left fun h => ?_
    have hfloor : ((2 ^ (f.prec - 1) : Nat) : Rat) < ((ratMagnitude r / roundUnit f r).floor.toNat + 1 : Nat) := by
      push_cast at h ⊢
      linarith
    have := Nat.cast_lt.mp hfloor
    omega

/-- A result below the overflow bound can be encoded. -/
theorem encodable_roundCount (hr : r ≠ 0) (h : roundCount f rm r * roundUnit f r < pow2 (f.emax + 1)) :
    Encodable f (roundBinade f r) (roundCount f rm r) :=
  have hbounds := roundCount_bounds f rm hr
  ⟨le_max_right _ _, hbounds.1, hbounds.2, h⟩

/-- Rounding is exact where the magnitude is whole units. -/
theorem roundCount_eq_iff (f : FpFmt) (rm : RoundingMode) (hr : r ≠ 0) :
    Rest.of (ratMagnitude r / roundUnit f r - (ratMagnitude r / roundUnit f r).floor) = .zero ↔
      roundCount f rm r * roundUnit f r = ratMagnitude r := by
  have ht : 0 ≤ ratMagnitude r / roundUnit f r := div_nonneg (ratMagnitude_pos hr).le (roundUnit_pos f r).le
  obtain ⟨h0, h1, hcast⟩ := floor_toNat ht
  rw [← eq_div_iff (roundUnit_pos f r).ne', Rest.of_eq_zero_iff, hcast]
  constructor
  · intro hrem
    rw [roundCount, hcast, (Rest.of_eq_zero_iff _).mpr hrem, roundedUnits_zero]
    linarith
  · intro hcount
    have hfloor : (ratMagnitude r / roundUnit f r).floor = (roundCount f rm r : Int) := by
      rw [← hcount]
      exact floor_natCast _
    rw [hfloor, Int.toNat_natCast, hcount, sub_self]

/-- A rational that overflows (R285). -/
theorem fpRound_overflow (h : pow2 (f.emax + 1) ≤ roundCount f rm r * roundUnit f r) :
    fpRound f rm fs r = fpOverflow f rm (decide (r < 0)) := (fpRound_eq ..).trans (finishRound_overflow h)

/-- A rational that is flushed to zero (R287, R292). -/
theorem fpRound_flush (hlt : roundCount f rm r * roundUnit f r < pow2 (f.emax + 1))
    (h : fs = true ∧ 0 < roundCount f rm r * roundUnit f r ∧ roundCount f rm r * roundUnit f r < pow2 f.emin) :
    fpRound f rm fs r = (fpZero f (decide (r < 0)), excU ||| excI) :=
  (fpRound_eq ..).trans (finishRound_flush hlt h)

/-- A rational that is rounded to a finite number, with its flags (R281, R286). -/
theorem fpRound_encode (hr : r ≠ 0) (hlt : roundCount f rm r * roundUnit f r < pow2 (f.emax + 1))
    (h : ¬ (fs = true ∧ 0 < roundCount f rm r * roundUnit f r ∧ roundCount f rm r * roundUnit f r < pow2 f.emin)) :
    fpRound f rm fs r = (fpEncode f (decide (r < 0)) (roundBinade f r) (roundCount f rm r),
      if roundCount f rm r * roundUnit f r = ratMagnitude r then 0#5
      else if ratMagnitude r < pow2 f.emin then excU ||| excI else excI) := by
  refine (fpRound_eq ..).trans ((finishRound_encode hlt h).trans (Prod.ext rfl ?_))
  simp only [roundCount_eq_iff f rm hr, decide_eq_true_eq]

/-- A rational that is whole units counts them. -/
theorem roundCount_of_units {n : Nat} (rm : RoundingMode) (hn : n * roundUnit f r = ratMagnitude r) :
    roundCount f rm r = n := by
  have htn : ratMagnitude r / roundUnit f r = n := by rw [← hn, mul_div_cancel_right₀ _ (roundUnit_pos f r).ne']
  rw [roundCount, htn, floor_natCast, Int.cast_natCast, sub_self, (Rest.of_eq_zero_iff 0).mpr rfl, roundedUnits_zero,
    Int.toNat_natCast]

/-- A rational that is whole units, not too large and not to be flushed, is rounded to itself. -/
theorem fpRound_exact {n : Nat} (hr : r ≠ 0) (hn : n * roundUnit f r = ratMagnitude r)
    (hlt : ratMagnitude r < pow2 (f.emax + 1)) (hfs : fs = true → pow2 f.emin ≤ ratMagnitude r) :
    Encodable f (roundBinade f r) n ∧ fpRound f rm fs r = (fpEncode f (decide (r < 0)) (roundBinade f r) n, 0#5) := by
  have hcount := roundCount_of_units rm hn
  have hvalue : roundCount f rm r * roundUnit f r = ratMagnitude r := by rw [hcount, hn]
  refine ⟨hcount ▸ encodable_roundCount hr (hvalue ▸ hlt), ?_⟩
  rw [fpRound_encode hr (hvalue ▸ hlt), hcount, if_pos hn]
  rw [hvalue]
  exact fun h => absurd h.2.2 (not_lt.mpr (hfs h.1))

end RoundRat

/-- Settles O55: a finite number is whole units of its binade. -/
theorem roundRepresentable : Obligations.RoundRepresentable := by
  intro f rm b hfin hnonzero
  obtain ⟨e, n, henc, hn, hb, hmag, hsub⟩ := exists_encode hfin
  have hval : fpVal b ≠ 0 := fun h => by simp [fpIsZero_iff_val.mpr h] at hnonzero
  have hratmag : ratMagnitude (fpVal b) = fpMagnitude b := abs_fpVal b
  have hsign : decide (fpVal b < 0) = fpSign b := by
    rw [Bool.eq_iff_iff, decide_eq_true_eq, fpVal_lt_zero_iff hnonzero]
  have hbinade : roundBinade f (fpVal b) = e := by
    have hpos := hratmag ▸ ratMagnitude_pos hval
    obtain ⟨hlow, hup⟩ := ratLog2_spec hpos
    have hlt := hmag ▸ units_lt_pow2_succ (e := e) hn
    rw [roundBinade, hratmag]
    rcases henc.normal with hge | he
    · rw [ratLog2_eq (hmag ▸ pow2_le_units hge) hlt]
      exact max_eq_left henc.emin_le
    · have := pow2_lt_iff.mp (hlow.trans_lt hlt)
      omega
  have hunits : n * roundUnit f (fpVal b) = ratMagnitude (fpVal b) := by rw [hratmag, hmag, roundUnit, hbinade]
  have hlt : ratMagnitude (fpVal b) < pow2 (f.emax + 1) := by
    rw [hratmag, hmag]
    exact henc.lt
  have hexact {fs : Bool} (hfs : fs = true → pow2 f.emin ≤ ratMagnitude (fpVal b)) :
      fpRound f rm fs (fpVal b) = (b, 0#5) := by
    rw [(fpRound_exact hval hunits hlt hfs).2, hsign, hbinade, ← hb]
  refine ⟨hexact nofun, fun hnormal => hexact fun _ => ?_, fun hsubnormal => ?_⟩
  · have hge : 2 ^ (f.prec - 1) ≤ n := not_lt.mp fun h => hnormal (hsub.mpr h)
    rw [hratmag, hmag]
    exact (pow2_le_iff.mpr henc.emin_le).trans (pow2_le_units hge)
  · have hvalue : roundCount f rm (fpVal b) * roundUnit f (fpVal b) = fpMagnitude b := by
      rw [roundCount_of_units rm hunits, hunits, hratmag]
    have he := henc.normal.resolve_left (not_le.mpr (hsub.mp hsubnormal))
    rw [fpRound_flush, hsign]
    · rw [hvalue]
      exact hratmag ▸ hlt
    · rw [hvalue]
      refine ⟨rfl, hratmag ▸ ratMagnitude_pos hval, ?_⟩
      rw [hmag, ← he]
      exact units_lt_pow2 (hsub.mp hsubnormal)

end Sys2Proof.Machine

/-! Classes of patterns, comparison and conversion (44_fpu_unit.md R281, R305, R309-R311). -/

namespace Sys2Proof.Machine

/-! ### Classes of patterns (R281) -/

section Classes

variable {f : FpFmt} {a b : FpBits f} {s t : Bool}

/-- The field of an infinity is in range. -/
theorem fpInf_field_lt (f : FpFmt) : f.expMax * 2 ^ (f.prec - 1) < 2 ^ (f.width - 1) := lt_two_pow_width le_rfl

/-- The sign of an infinity. -/
@[simp] theorem fpSign_inf (f : FpFmt) (s : Bool) : fpSign (fpInf f s) = s := fpSign_pattern s (fpInf_field_lt f)

/-- The sign of a zero. -/
@[simp] theorem fpSign_zero (f : FpFmt) (s : Bool) : fpSign (fpZero f s) = s := fpSign_pattern s (Nat.two_pow_pos _)

/-- A pattern of a zero is one. -/
@[simp] theorem fpIsZero_zero (f : FpFmt) (s : Bool) : fpIsZero (fpZero f s) = true :=
  fpIsZero_iff.mpr (fpField_pattern s (Nat.two_pow_pos _))

/-- A zero is the zero of its sign. -/
theorem eq_zero_of_isZero (h : fpIsZero b = true) : b = fpZero f (fpSign b) :=
  eq_of_sign_field (fpSign_zero f _).symm ((fpIsZero_iff.mp h).trans (fpIsZero_iff.mp (fpIsZero_zero f _)).symm)

/-- An infinity has the field of one. -/
theorem fpIsInf_iff_field : fpIsInf b = true ↔ fpField b = f.expMax * 2 ^ (f.prec - 1) := by
  rw [fpIsInf, Bool.and_eq_true, beq_iff_eq, beq_iff_eq, fpField_eq]
  have hfrac := fpFrac_lt b
  constructor
  · rintro ⟨hexp, h0⟩
    rw [hexp, h0, Nat.add_zero]
  · intro h
    have hle : fpExp b ≥ f.expMax := by
      have hdiv : (fpExp b * 2 ^ (f.prec - 1) + fpFrac b) / 2 ^ (f.prec - 1) = f.expMax := by
        rw [h, Nat.mul_div_cancel _ (Nat.two_pow_pos _)]
      rw [Nat.add_comm, Nat.add_mul_div_right _ _ (Nat.two_pow_pos _), Nat.div_eq_of_lt hfrac] at hdiv
      omega
    have hexp := Nat.le_antisymm (fpExp_le b) hle
    rw [hexp] at h
    exact ⟨hexp, by omega⟩

/-- A pattern of an infinity is one. -/
@[simp] theorem fpIsInf_inf (f : FpFmt) (s : Bool) : fpIsInf (fpInf f s) = true :=
  fpIsInf_iff_field.mpr (fpField_pattern s (fpInf_field_lt f))

/-- An infinity is the infinity of its sign. -/
theorem eq_inf_of_isInf (h : fpIsInf b = true) : b = fpInf f (fpSign b) :=
  eq_of_sign_field (fpSign_inf f _).symm
    ((fpIsInf_iff_field.mp h).trans (fpIsInf_iff_field.mp (fpIsInf_inf f _)).symm)

/-- The two infinities differ by their signs. -/
theorem fpInf_inj : fpInf f s = fpInf f t ↔ s = t :=
  ⟨fun h => by simpa using congrArg fpSign h, fun h => by rw [h]⟩

/-- An infinity is one of a sign exactly when it has that sign. -/
theorem eq_inf_iff : a = fpInf f s ↔ fpIsInf a = true ∧ fpSign a = s :=
  ⟨fun h => by simp [h], fun h => h.2 ▸ eq_inf_of_isInf h.1⟩

/-- A pattern that is no NaN is infinite or finite. -/
theorem finite_iff : fpExp b ≠ f.expMax ↔ fpIsNaN b = false ∧ fpIsInf b = false := by
  unfold fpIsNaN fpIsInf
  by_cases hexp : fpExp b = f.expMax <;> by_cases hfrac : fpFrac b = 0 <;> simp [hexp, hfrac]

/-- An infinity is no NaN. -/
theorem not_nan_of_inf (h : fpIsInf b = true) : fpIsNaN b = false := by
  simp only [fpIsInf, Bool.and_eq_true, beq_iff_eq] at h
  simp [fpIsNaN, h.2]

/-- An infinity is no zero. -/
theorem not_zero_of_inf (h : fpIsInf b = true) : fpIsZero b = false := by
  have hmax : f.expMax ≠ 0 := by cases f <;> decide
  simp only [fpIsInf, Bool.and_eq_true, beq_iff_eq] at h
  simp [fpIsZero, h.1, hmax]

/-- A zero is finite. -/
theorem fpExp_ne_of_zero (h : fpIsZero b = true) : fpExp b ≠ f.expMax := by
  have hmax : (0 : Nat) ≠ f.expMax := by cases f <;> decide
  simp only [fpIsZero, Bool.and_eq_true, beq_iff_eq] at h
  rwa [h.1]

/-- The value of a zero. -/
@[simp] theorem fpVal_zero (f : FpFmt) (s : Bool) : fpVal (fpZero f s) = 0 := fpIsZero_iff_val.mp (fpIsZero_zero f s)

end Classes

/-! ### Comparison (R305) -/

section Compare

variable {f : FpFmt} {a b : FpBits f}

/-- The unordered relation. -/
theorem compare_unordered (a b : FpBits f) : (fpCompare f 1#4 a b).1 = (fpIsNaN a || fpIsNaN b) := by
  simp [fpCompare]

/-- The equal relation. -/
theorem compare_equal (a b : FpBits f) : (fpCompare f 2#4 a b).1 = (!(fpIsNaN a || fpIsNaN b) && fpEqual a b) := by
  simp [fpCompare]

/-- The less relation. -/
theorem compare_less (a b : FpBits f) : (fpCompare f 4#4 a b).1 = (!(fpIsNaN a || fpIsNaN b) && fpLess a b) := by
  simp [fpCompare]

/-- Equality of infinities is that of patterns. -/
theorem fpEqual_inf (h : fpIsInf a = true ∨ fpIsInf b = true) : fpEqual a b = true ↔ a = b := by
  unfold fpEqual
  by_cases ha : fpIsInf a = true
  · by_cases hb : fpIsInf b = true
    · simp only [ha, hb, Bool.and_self, if_true, beq_iff_eq]
      rw [eq_inf_of_isInf ha, eq_inf_of_isInf hb, fpInf_inj, fpSign_inf, fpSign_inf]
    · simp only [ha, hb, Bool.and_false, Bool.or_false, Bool.false_eq_true, if_false, if_true, false_iff]
      rintro rfl
      exact hb ha
  · have hb := h.resolve_left ha
    simp only [ha, hb, Bool.false_and, Bool.or_true, Bool.false_eq_true, if_false, if_true, false_iff]
    rintro rfl
    exact ha hb

/-- An infinity is less than another number exactly when it is minus infinity or the other is plus infinity. -/
theorem fpLess_inf (h : fpIsInf a = true ∨ fpIsInf b = true) :
    fpLess a b = true ↔ a ≠ b ∧ (a = fpInf f true ∨ b = fpInf f false) := by
  unfold fpLess
  by_cases ha : fpIsInf a = true
  · by_cases hb : fpIsInf b = true
    · simp only [ha, hb, Bool.and_self, if_true]
      rw [eq_inf_of_isInf ha, eq_inf_of_isInf hb]
      simp only [ne_eq, fpInf_inj, fpSign_inf]
      cases fpSign a <;> cases fpSign b <;> decide
    · have hne : a ≠ b := fun hab => hb (hab ▸ ha)
      simp [ha, hb, hne, eq_inf_iff]
  · have hb := h.resolve_left ha
    have hne : a ≠ b := fun hab => ha (hab ▸ hb)
    simp [ha, hb, hne, eq_inf_iff]

/-- The values of finite numbers are compared. -/
theorem fpLess_finite (ha : fpIsInf a = false) (hb : fpIsInf b = false) : fpLess a b = true ↔ fpVal a < fpVal b := by
  simp [fpLess, ha, hb]

/-- The values of finite numbers are compared. -/
theorem fpEqual_finite (ha : fpIsInf a = false) (hb : fpIsInf b = false) :
    fpEqual a b = true ↔ fpVal a = fpVal b := by
  simp [fpEqual, ha, hb]

/-- Of two numbers that are no NaN exactly one relation holds. -/
theorem relations_exclusive (a b : FpBits f) :
    (fpEqual a b).toNat + (fpLess a b).toNat + (fpLess b a).toNat = 1 := by
  by_cases h : fpIsInf a = true ∨ fpIsInf b = true
  · unfold fpEqual fpLess
    by_cases ha : fpIsInf a = true
    · by_cases hb : fpIsInf b = true <;>
        simp only [ha, hb, Bool.and_self, Bool.and_false, Bool.false_and, Bool.true_or, Bool.false_eq_true,
          if_true, if_false] <;>
        cases fpSign a <;> cases fpSign b <;> rfl
    · simp only [ha, h.resolve_left ha, Bool.and_false, Bool.false_and, Bool.or_true, Bool.false_eq_true,
        if_true, if_false]
      cases fpSign b <;> rfl
  · obtain ⟨ha, hb⟩ := not_or.mp h
    rw [Bool.not_eq_true] at ha hb
    have heq := fpEqual_finite ha hb
    have hless := fpLess_finite ha hb
    have hgreater := fpLess_finite hb ha
    rcases lt_trichotomy (fpVal a) (fpVal b) with hlt | hval | hgt
    · rw [hless.mpr hlt, Bool.eq_false_iff.mpr (mt heq.mp hlt.ne),
        Bool.eq_false_iff.mpr (mt hgreater.mp hlt.le.not_gt)]
      rfl
    · rw [heq.mpr hval, Bool.eq_false_iff.mpr (mt hless.mp hval.not_lt),
        Bool.eq_false_iff.mpr (mt hgreater.mp hval.symm.not_lt)]
      rfl
    · rw [hgreater.mpr hgt, Bool.eq_false_iff.mpr (mt heq.mp hgt.ne'),
        Bool.eq_false_iff.mpr (mt hless.mp hgt.le.not_gt)]
      rfl

/-- Settles O54: the relations of numbers, and NaN operands apart. -/
theorem compareTotal : Obligations.CompareTotal := by
  intro f a b cond un eq lt gt
  have hun : un = (fpIsNaN a || fpIsNaN b) := compare_unordered a b
  have heq : eq = (!(fpIsNaN a || fpIsNaN b) && fpEqual a b) := compare_equal a b
  have hlt : lt = (!(fpIsNaN a || fpIsNaN b) && fpLess a b) := compare_less a b
  have hgt : gt = (!(fpIsNaN a || fpIsNaN b) && fpLess b a) := by
    rw [Bool.or_comm]
    exact compare_less b a
  refine ⟨?_, hun, fun ha hb => ⟨fun hia hib => ?_, fun hinf => ?_⟩, ?_, ?_⟩
  · rw [hun, heq, hlt, hgt]
    have hone := relations_exclusive a b
    cases fpIsNaN a || fpIsNaN b
    · simp only [Bool.not_false, Bool.true_and, Bool.toNat_false]
      omega
    · rfl
  · rw [hlt, heq, ha, hb]
    exact ⟨by simpa using fpLess_finite hia hib, by simpa using fpEqual_finite hia hib⟩
  · rw [hlt, heq, ha, hb]
    exact ⟨by simpa using fpLess_inf hinf, by simpa using fpEqual_inf hinf⟩
  · rw [hun, heq, hlt]
    rfl
  · rw [hun]
    simp only [fpCompare, nanFlags, Bool.or_eq_true, Bool.and_eq_true, or_assoc]

end Compare

/-! ### Exact results -/

section Exact

variable {f : FpFmt} {rm : RoundingMode} {fs : Bool} {r : Rat}

/-- A multiple of a power of two not below the unit is whole units. -/
theorem exists_units {k : Nat} {j : Int} (hk : ratMagnitude r = k * pow2 j) (hj : roundBinade f r - f.prec + 1 ≤ j) :
    ∃ n : Nat, n * roundUnit f r = ratMagnitude r := by
  obtain ⟨d, hd⟩ := Int.le.dest hj
  refine ⟨k * 2 ^ d, ?_⟩
  rw [hk, ← hd, Nat.cast_mul, mul_assoc, roundUnit, natCast_two_pow_mul_pow2]

/-- A rational that is whole units, not too large and not to be flushed, has its value, and no flag is raised. -/
theorem fpRound_exact_val {n : Nat} (rm : RoundingMode) (hr : r ≠ 0) (hn : n * roundUnit f r = ratMagnitude r)
    (hlt : ratMagnitude r < pow2 (f.emax + 1)) (hfs : fs = true → pow2 f.emin ≤ ratMagnitude r) :
    fpExp (fpRound f rm fs r).1 ≠ f.expMax ∧ fpVal (fpRound f rm fs r).1 = r ∧ (fpRound f rm fs r).2 = 0#5 := by
  obtain ⟨henc, heq⟩ := fpRound_exact (rm := rm) hr hn hlt hfs
  rw [heq]
  refine ⟨fpExp_encode_ne henc _, ?_, rfl⟩
  rw [fpVal_encode henc]
  simp only [decide_eq_true_eq]
  rw [← roundUnit.eq_1, hn, sign_mul_ratMagnitude]

/-- The magnitude of an integer. -/
theorem ratMagnitude_intCast (i : Int) : ratMagnitude i = (i.natAbs : Rat) := by
  unfold ratMagnitude
  rw [Nat.cast_natAbs, Int.cast_abs]
  split
  · next h => exact (abs_of_neg h).symm
  · next h => exact (abs_of_nonneg (not_lt.mp h)).symm

/-- An integer that needs no more bits than the precision is exact (R310). -/
theorem fpRound_intCast {i : Int} (hi : i ≠ 0) (hle : i.natAbs ≤ 2 ^ f.prec) :
    fpExp (fpRound f rm fs i).1 ≠ f.expMax ∧ fpVal (fpRound f rm fs i).1 = i ∧ (fpRound f rm fs i).2 = 0#5 := by
  have hr : (i : Rat) ≠ 0 := Int.cast_ne_zero.mpr hi
  have hmag := ratMagnitude_intCast i
  have hbias := f.prec_lt_bias
  have hemin := f.emin_eq
  have hemax := f.emax_eq
  obtain ⟨hlow, hup⟩ := ratLog2_spec (ratMagnitude_pos hr)
  have hone : pow2 0 ≤ ratMagnitude i := by
    rw [hmag, show pow2 0 = 1 by rfl]
    exact_mod_cast Int.natAbs_pos.mpr hi
  have hprec : ratMagnitude i ≤ pow2 f.prec := by
    rw [hmag, pow2_natCast]
    exact_mod_cast hle
  have he0 := pow2_lt_iff.mp (hone.trans_lt hup)
  have hep := pow2_le_iff.mp (hlow.trans hprec)
  have hbinade : roundBinade f i = ratLog2 (ratMagnitude i) := max_eq_left (by omega)
  obtain ⟨n, hn⟩ : ∃ n : Nat, n * roundUnit f i = ratMagnitude i := by
    rcases Nat.lt_or_ge i.natAbs (2 ^ f.prec) with hlt | hge
    · have hmaglt : ratMagnitude i < pow2 f.prec := by
        rw [hmag, pow2_natCast]
        exact_mod_cast hlt
      have := pow2_lt_iff.mp (hlow.trans_lt hmaglt)
      refine exists_units (k := i.natAbs) (j := 0) ?_ (by omega)
      rw [hmag, show pow2 0 = 1 by rfl, mul_one]
    · have hone_lt := f.one_lt_prec
      refine exists_units (k := 1) (j := f.prec) ?_ (by omega)
      rw [hmag, Nat.le_antisymm hle hge, pow2_natCast, Nat.cast_one, one_mul]
  refine fpRound_exact_val rm hr hn (hprec.trans_lt (pow2_lt_iff.mpr (by omega))) fun _ => ?_
  exact (pow2_le_iff.mpr (by omega)).trans hone

/-- An integer is the integer it rounds to. -/
theorem roundToInt_intCast (rm : RoundingMode) (i : Int) : roundToInt rm i = i := by
  rw [← roundsTo_iff]
  cases rm with
  | nearestEven =>
    refine ⟨by linarith, by linarith, ?_⟩
    rintro (h | h) <;> linarith
  | towardZero => exact ⟨fun _ => ⟨by linarith, by linarith⟩, fun _ => ⟨by linarith, by linarith⟩⟩
  | towardPlus => exact ⟨by linarith, by linarith⟩
  | towardMinus => exact ⟨by linarith, by linarith⟩

end Exact

/-! ### Conversions (R309-R311) -/

section Conversions

variable {f : FpFmt} {n : Nat} {rm : RoundingMode} {fs : Bool}

/-- A finite number is rounded to an integer and clamped (R311). -/
theorem fpToInt_finite (n : Nat) (rm : RoundingMode) {a : FpBits f} (h : fpExp a ≠ f.expMax) :
    fpToInt f n rm a =
      if 2 ^ (n - 1) - 1 < roundToInt rm (fpVal a) then (BitVec.ofInt n (2 ^ (n - 1) - 1), excV)
      else if roundToInt rm (fpVal a) < -2 ^ (n - 1) then (BitVec.ofInt n (-2 ^ (n - 1)), excV)
      else (BitVec.ofInt n (roundToInt rm (fpVal a)),
        if (roundToInt rm (fpVal a) : Rat) = fpVal a then 0#5 else excI) := by
  obtain ⟨hnan, hinf⟩ := finite_iff.mp h
  simp only [fpToInt, hnan, hinf, Bool.false_eq_true, if_false]

/-- An integer converted to a format, exactly where it needs no more bits than the precision (R310). -/
theorem fpOfInt_exact (rm : RoundingMode) (fs : Bool) {i : Int} (hle : i.natAbs ≤ 2 ^ f.prec) :
    fpExp (fpOfInt f rm fs i).1 ≠ f.expMax ∧ fpVal (fpOfInt f rm fs i).1 = i ∧ (fpOfInt f rm fs i).2 = 0#5 := by
  unfold fpOfInt
  split
  · next h =>
    subst h
    exact ⟨fpExp_ne_of_zero (fpIsZero_zero f false), fpVal_zero f false, rfl⟩
  · next h => exact fpRound_intCast h hle

/-- The value of a normal number reaches the least normal binade. -/
theorem fpExp_ne_zero_of_le {b : FpBits f} (h : pow2 f.emin ≤ fpMagnitude b) : fpExp b ≠ 0 := by
  intro h0
  have hexp : fpExp b ≠ f.expMax := by
    rw [h0]
    cases f <;> decide
  obtain ⟨e, n, henc, -, -, hmag, hsub⟩ := exists_encode hexp
  have he := henc.normal.resolve_left (not_le.mpr (hsub.mp h0))
  rw [hmag, he] at h
  exact absurd h (not_le.mpr (units_lt_pow2 (hsub.mp h0)))

/-- A finite single that is no zero is an exact, normal double (R309). -/
theorem fpSingleToDouble_finite {a : FpBits .single} (hfin : fpExp a ≠ FpFmt.single.expMax)
    (hnonzero : fpIsZero a = false) :
    (fpSingleToDouble a).2 = 0#5 ∧ fpExp (fpSingleToDouble a).1 ≠ 0 ∧
      fpExp (fpSingleToDouble a).1 ≠ FpFmt.double.expMax ∧ fpVal (fpSingleToDouble a).1 = fpVal a := by
  obtain ⟨hnan, hinf⟩ := finite_iff.mp hfin
  have hres : fpSingleToDouble a = ((fpRound .double .nearestEven false (fpVal a)).1, 0#5) := by
    simp only [fpSingleToDouble, unlessNaN, hnan, hinf, hnonzero, Bool.false_eq_true, if_false]
  have hval : fpVal a ≠ 0 := fun h => by simp [fpIsZero_iff_val.mpr h] at hnonzero
  have hratmag : ratMagnitude (fpVal a) = fpMagnitude a := abs_fpVal a
  obtain ⟨e, n, henc, hn, -, hmag, -⟩ := exists_encode hfin
  have hn0 : n ≠ 0 := by
    rintro rfl
    rw [Nat.cast_zero, zero_mul] at hmag
    exact (ratMagnitude_pos hval).ne' (hratmag.trans hmag)
  obtain ⟨hlow, hup⟩ := ratLog2_spec (hratmag ▸ ratMagnitude_pos hval)
  have hemin : (-126 : Int) ≤ e := henc.emin_le
  have hemax : e ≤ (127 : Int) := henc.bounds.1
  have hunit : pow2 (e - 24 + 1) ≤ fpMagnitude a := by
    rw [hmag]
    exact le_mul_of_one_le_left (pow2_pos _).le (by exact_mod_cast Nat.one_le_iff_ne_zero.mpr hn0)
  have hlt := hmag ▸ units_lt_pow2_succ (e := e) hn
  have he1 := pow2_lt_iff.mp (hunit.trans_lt hup)
  have he2 := pow2_lt_iff.mp (hlow.trans_lt hlt)
  have hbinade : roundBinade .double (fpVal a) = ratLog2 (fpMagnitude a) := by
    rw [roundBinade, hratmag]
    exact max_eq_left (by simp only [FpFmt.emin]; omega)
  obtain ⟨m, hm⟩ : ∃ m : Nat, m * roundUnit .double (fpVal a) = ratMagnitude (fpVal a) := by
    refine exists_units (k := n) (hratmag.trans hmag) ?_
    rw [hbinade]
    simp only [FpFmt.prec]
    omega
  obtain ⟨hexp, hvaleq, -⟩ := fpRound_exact_val (fs := false) .nearestEven hval hm
    (by rw [hratmag]; exact hlt.trans_le (pow2_le_iff.mpr (by simp only [FpFmt.emax]; omega))) nofun
  rw [hres]
  refine ⟨rfl, fpExp_ne_zero_of_le ?_, hexp, hvaleq⟩
  rw [← abs_fpVal, hvaleq, abs_fpVal]
  exact (pow2_le_iff.mpr (by simp only [FpFmt.emin]; omega)).trans hunit

/-- Settles O53: clamping, exact integers and the widening of a single. -/
theorem fpuUnitConversions : Obligations.FpuUnitConversions := by
  refine ⟨fun f n rm a hn => ?_, fun f rm fs i => ?_, fun fs i hlow hup => ?_, fun a => ?_, fun rm fs a => ?_⟩
  · intro largest least
    refine ⟨fun hnan => if_pos hnan, fun hinf => ?_, fun hfin => ?_⟩
    · simp only [fpToInt, not_nan_of_inf hinf, hinf, Bool.false_eq_true, if_false, if_true, largest, least]
    · refine ⟨roundToInt rm (fpVal a), roundToInt_roundsTo rm _, fun hgt => ?_, fun hlt => ?_, fun hle hge => ?_⟩
      · rw [fpToInt_finite n rm hfin, if_pos hgt]
      · have hpow : (0 : Int) < 2 ^ (n - 1) := by positivity
        rw [fpToInt_finite n rm hfin, if_neg (by omega), if_pos hlt]
      · have hn0 : 0 < n := by
          rcases List.mem_cons.mp hn with rfl | hn
          · decide
          · rw [List.mem_singleton.mp hn]
            decide
        rw [fpToInt_finite n rm hfin, if_neg (by omega), if_neg (by omega)]
        exact ⟨BitVec.toInt_ofInt_eq_self hn0 hle (by omega), rfl⟩
  · exact ⟨fun h => if_pos h, fun h => if_neg h, fpOfInt_exact rm fs⟩
  · obtain ⟨hexp, hval, hflags⟩ := fpOfInt_exact (f := .single) .towardZero fs (i := i) (by
      simp only [FpFmt.prec]
      omega)
    refine ⟨hflags, ?_⟩
    rw [fpToInt_finite 32 _ hexp, hval, roundToInt_intCast, if_neg (by omega), if_neg (by omega), if_pos rfl]
  · refine ⟨fun hnan => if_pos hnan, fun hinf => ?_, fun hzero => ?_, fpSingleToDouble_finite⟩
    · simp only [fpSingleToDouble, unlessNaN, not_nan_of_inf hinf, hinf, Bool.false_eq_true, if_false, if_true]
    · obtain ⟨hnan, hinf⟩ := finite_iff.mp (fpExp_ne_of_zero hzero)
      simp only [fpSingleToDouble, unlessNaN, hnan, hinf, hzero, Bool.false_eq_true, if_false, if_true]
  · refine ⟨fun hnan => if_pos hnan, fun hinf => ?_, fun hzero => ?_, fun hfin hnonzero => ?_⟩
    · simp only [fpDoubleToSingle, unlessNaN, not_nan_of_inf hinf, hinf, Bool.false_eq_true, if_false, if_true]
    · obtain ⟨hnan, hinf⟩ := finite_iff.mp (fpExp_ne_of_zero hzero)
      simp only [fpDoubleToSingle, unlessNaN, hnan, hinf, hzero, Bool.false_eq_true, if_false, if_true]
    · obtain ⟨hnan, hinf⟩ := finite_iff.mp hfin
      simp only [fpDoubleToSingle, unlessNaN, hnan, hinf, hnonzero, Bool.false_eq_true, if_false]

end Conversions

end Sys2Proof.Machine

/-! The operations of the floating-point unit (44_fpu_unit.md R289, R294, R297-R304, R306-R308). -/

namespace Sys2Proof.Machine

/-! ### Signs (R298, R303, R304) -/

section Signs

variable {f : FpFmt}

/-- The sign bit alone, as a number. -/
theorem fpZero_true_toNat (f : FpFmt) : (fpZero f true).toNat = 2 ^ (f.width - 1) := by
  rw [fpZero, fpPattern_toNat _ (Nat.two_pow_pos _), if_pos rfl, Nat.add_zero]

/-- Inverting the sign bit keeps the field (R298, R304). -/
theorem fpFlipSign_eq (a : FpBits f) : fpFlipSign a = fpPattern f (!fpSign a) (fpField a) := by
  refine eq_of_sign_field ?_ ?_
  · rw [fpSign_pattern _ (fpField_lt a), fpSign, fpFlipSign, BitVec.msb_xor, ← fpSign, ← fpSign, fpSign_zero,
      Bool.xor_true]
  · rw [fpField_pattern _ (fpField_lt a), fpField, fpFlipSign, BitVec.toNat_xor, fpZero_true_toNat,
      Nat.xor_mod_two_pow, Nat.mod_self, Nat.xor_zero, fpField]

/-- Clearing the sign bit keeps the field (R303). -/
theorem and_not_sign_eq (a : FpBits f) : a &&& ~~~fpZero f true = fpPattern f false (fpField a) := by
  have hw := f.two_pow_width_eq
  have hpos := Nat.two_pow_pos (f.width - 1)
  have hmask : (~~~fpZero f true).toNat % 2 ^ (f.width - 1) = 2 ^ (f.width - 1) - 1 := by
    rw [BitVec.toNat_not, fpZero_true_toNat, hw, show 2 * 2 ^ (f.width - 1) - 1 - 2 ^ (f.width - 1) =
      2 ^ (f.width - 1) - 1 by omega, Nat.mod_eq_of_lt (by omega)]
  refine eq_of_sign_field ?_ ?_
  · rw [fpSign_pattern _ (fpField_lt a), fpSign, BitVec.msb_and, BitVec.msb_not, ← fpSign, ← fpSign, fpSign_zero]
    cases f <;> simp
  · rw [fpField_pattern _ (fpField_lt a), fpField, BitVec.toNat_and, Nat.and_mod_two_pow, hmask,
      Nat.and_two_pow_sub_one_eq_mod, Nat.mod_mod, fpField]

variable (a : FpBits f)

/-- The inverted sign. -/
@[simp] theorem fpSign_flip : fpSign (fpFlipSign a) = !fpSign a := by
  rw [fpFlipSign_eq, fpSign_pattern _ (fpField_lt a)]

/-- The field is as before. -/
@[simp] theorem fpField_flip : fpField (fpFlipSign a) = fpField a := by
  rw [fpFlipSign_eq, fpField_pattern _ (fpField_lt a)]

/-- So is the exponent. -/
@[simp] theorem fpExp_flip : fpExp (fpFlipSign a) = fpExp a := by rw [fpExp_eq, fpField_flip, fpExp_eq]

/-- So is the fraction. -/
@[simp] theorem fpFrac_flip : fpFrac (fpFlipSign a) = fpFrac a := by rw [fpFrac_eq, fpField_flip, fpFrac_eq]

/-- So is the class of the infinities. -/
@[simp] theorem fpIsInf_flip : fpIsInf (fpFlipSign a) = fpIsInf a := by simp [fpIsInf]

/-- So is the class of the zeros. -/
@[simp] theorem fpIsZero_flip : fpIsZero (fpFlipSign a) = fpIsZero a := by simp [fpIsZero]

/-- The value is negated. -/
@[simp] theorem fpVal_flip : fpVal (fpFlipSign a) = -fpVal a := by
  have hmag : fpMagnitude (fpFlipSign a) = fpMagnitude a := by simp [fpMagnitude]
  rw [fpVal, fpVal, hmag, fpSign_flip]
  cases fpSign a <;> simp

end Signs

/-! ### NaN results (R289) -/

section NaN

variable {f : FpFmt} (rm : RoundingMode) (fs : Bool) {a b c : FpBits f}

/-- The canonical NaN is a NaN. -/
@[simp] theorem fpIsNaN_canon (f : FpFmt) : fpIsNaN (fpCanonNaN f) = true := by cases f <;> decide

/-- It is quiet. -/
@[simp] theorem fpIsSNaN_canon (f : FpFmt) : fpIsSNaN (fpCanonNaN f) = false := by cases f <;> decide

/-- A pattern that is no NaN is no signaling one. -/
theorem not_snan_of_not_nan (h : fpIsNaN a = false) : fpIsSNaN a = false := by simp [fpIsSNaN, h]

/-- A NaN operand of a two-operand operation gives the canonical NaN. -/
theorem unlessNaN2_nan (h : fpIsNaN a = true ∨ fpIsNaN b = true) (k : FpResult f) :
    unlessNaN2 a b k = (fpCanonNaN f, nanFlags (fpIsSNaN a || fpIsSNaN b)) :=
  if_pos (by simpa using h)

/-- Other operands are computed with. -/
theorem unlessNaN2_of_not (ha : fpIsNaN a = false) (hb : fpIsNaN b = false) (k : FpResult f) :
    unlessNaN2 a b k = k := if_neg (by simp [ha, hb])

/-- A NaN operand of a one-operand operation gives the canonical NaN. -/
theorem unlessNaN_nan {g : FpFmt} (h : fpIsNaN a = true) (k : FpResult g) :
    unlessNaN a k = (fpCanonNaN g, nanFlags (fpIsSNaN a)) := if_pos h

/-- Another operand is computed with. -/
theorem unlessNaN_of_not {g : FpFmt} (h : fpIsNaN a = false) (k : FpResult g) : unlessNaN a k = k :=
  if_neg (by simp [h])

/-- Negating the canonical NaN gives it back, without a flag. -/
theorem fpNeg_canon (f : FpFmt) : fpNeg f rm fs (fpCanonNaN f) = (fpCanonNaN f, 0#5) := by
  rw [fpNeg, unlessNaN_nan (fpIsNaN_canon f), fpIsSNaN_canon]
  rfl

/-- Negating raises V for a signaling NaN only (R304). -/
theorem fpNeg_flags (h : fpIsSNaN a = false) : (fpNeg f rm fs a).2 = 0#5 := by
  unfold fpNeg unlessNaN
  split
  · rw [h]
    rfl
  · rfl

/-- A rounded result is no NaN. -/
theorem fpRound_not_nan {r : Rat} (hr : r ≠ 0) : fpIsNaN (fpRound f rm fs r).1 = false := by
  by_cases hlt : roundCount f rm r * roundUnit f r < pow2 (f.emax + 1)
  · by_cases hflush : fs = true ∧ 0 < roundCount f rm r * roundUnit f r ∧
      roundCount f rm r * roundUnit f r < pow2 f.emin
    · rw [fpRound_flush hlt hflush]
      exact (finite_iff.mp (fpExp_ne_of_zero (fpIsZero_zero f _))).1
    · rw [fpRound_encode hr hlt hflush]
      exact (finite_iff.mp (fpExp_encode_ne (encodable_roundCount hr hlt) _)).1
  · have hmax : f.expMax * 2 ^ (f.prec - 1) - 1 < f.expMax * 2 ^ (f.prec - 1) := by
      cases f <;> decide
    have hfin (s : Bool) : fpIsNaN (fpMaxFin f s) = false := by
      refine (finite_iff.mp (fpExp_ne_expMax_iff.mpr ?_)).1
      rwa [fpMaxFin, fpField_pattern _ (lt_two_pow_width hmax.le)]
    rw [fpRound_overflow (not_lt.mp hlt), fpOverflow_eq]
    split
    · exact not_nan_of_inf (fpIsInf_inf f _)
    · exact hfin _

/-- A zero is no NaN. -/
theorem fpIsNaN_zero (f : FpFmt) (s : Bool) : fpIsNaN (fpZero f s) = false :=
  (finite_iff.mp (fpExp_ne_of_zero (fpIsZero_zero f s))).1

end NaN

/-! ### Sums, products and quotients (R297-R302) -/

section Arithmetic

variable {f : FpFmt} (rm : RoundingMode) (fs : Bool) {a b : FpBits f}

/-- The sum of two numbers (R297). -/
theorem fpAddNumbers_eq (a b : FpBits f) : fpAddNumbers f rm fs a b =
    if fpIsInf a ∧ fpIsInf b then (if fpSign a = fpSign b then (a, 0#5) else (fpCanonNaN f, excV))
    else if fpIsInf a then (a, 0#5) else if fpIsInf b then (b, 0#5)
    else if fpVal a + fpVal b ≠ 0 then fpRound f rm fs (fpVal a + fpVal b)
    else if fpIsZero a ∧ fpSign a = fpSign b then (a, 0#5) else (fpZero f (rm == .towardMinus), 0#5) := by
  unfold fpAddNumbers
  cases hia : fpIsInf a <;> cases hib : fpIsInf b <;>
    simp only [Bool.false_eq_true, if_false, if_true, Bool.and_self, Bool.and_true, Bool.true_and, Bool.and_false,
      Bool.false_and, and_self, and_true, and_false]
  · by_cases hsum : fpVal a + fpVal b = 0
    · have hzero : fpIsZero a = true → fpIsZero b = true := fun h => by
        rw [fpIsZero_iff_val] at h ⊢
        linarith
      simp only [hsum, ne_eq, not_true_eq_false, if_false, Bool.and_eq_true, beq_iff_eq]
      congr 1
      exact propext ⟨fun h => ⟨h.1.1, h.2⟩, fun h => ⟨⟨h.1, hzero h.1⟩, h.2⟩⟩
    · simp only [ne_eq, hsum, not_false_eq_true, if_true]
  · cases fpSign a <;> cases fpSign b <;> rfl

/-- The sum of a number and the number with its sign inverted (R298). -/
theorem fpAddNumbers_flip (a b : FpBits f) : fpAddNumbers f rm fs a (fpFlipSign b) =
    if fpIsInf a ∧ fpIsInf b then (if fpSign a = fpSign b then (fpCanonNaN f, excV) else (a, 0#5))
    else if fpIsInf a then (a, 0#5) else if fpIsInf b then (fpInf f (!fpSign b), 0#5)
    else if fpVal a - fpVal b ≠ 0 then fpRound f rm fs (fpVal a - fpVal b)
    else if fpIsZero a ∧ fpSign a ≠ fpSign b then (a, 0#5) else (fpZero f (rm == .towardMinus), 0#5) := by
  have hsign : (fpSign a = !fpSign b) ↔ ¬ fpSign a = fpSign b := by
    cases fpSign a <;> cases fpSign b <;> decide
  have hinf : fpIsInf b = true → fpFlipSign b = fpInf f (!fpSign b) := fun h => by
    rw [eq_inf_of_isInf ((fpIsInf_flip b).trans h), fpSign_flip]
  rw [fpAddNumbers_eq, fpIsInf_flip, fpSign_flip, fpVal_flip, ← sub_eq_add_neg]
  simp only [hsign]
  cases hib : fpIsInf b
  · simp only [Bool.false_eq_true, and_false, if_false, ne_eq]
  · simp only [hinf hib, ite_not, ne_eq]

/-- A sum is no signaling NaN. -/
theorem fpAddNumbers_not_snan (ha : fpIsNaN a = false) (hb : fpIsNaN b = false) :
    fpIsSNaN (fpAddNumbers f rm fs a b).1 = false := by
  rw [fpAddNumbers_eq]
  split_ifs with h1 h2 h3 h4 h5 h6
  · exact not_snan_of_not_nan ha
  · exact fpIsSNaN_canon f
  · exact not_snan_of_not_nan ha
  · exact not_snan_of_not_nan hb
  · exact not_snan_of_not_nan (fpRound_not_nan rm fs h5)
  · exact not_snan_of_not_nan ha
  · exact not_snan_of_not_nan (fpIsNaN_zero f _)

/-- A sum is no signaling NaN. -/
theorem fpAdd_not_snan (a b : FpBits f) : fpIsSNaN (fpAdd f rm fs a b).1 = false := by
  by_cases h : fpIsNaN a = true ∨ fpIsNaN b = true
  · rw [fpAdd, unlessNaN2_nan h]
    exact fpIsSNaN_canon f
  · obtain ⟨ha, hb⟩ := not_or.mp h
    rw [Bool.not_eq_true] at ha hb
    rw [fpAdd, unlessNaN2_of_not ha hb]
    exact fpAddNumbers_not_snan rm fs ha hb

/-- The class of the NaNs is that of the inverted sign. -/
theorem fpIsNaN_flip (b : FpBits f) : fpIsNaN (fpFlipSign b) = fpIsNaN b := by simp [fpIsNaN]

/-- A difference is no signaling NaN. -/
theorem fpSub_not_snan (a b : FpBits f) : fpIsSNaN (fpSub f rm fs a b).1 = false := by
  by_cases h : fpIsNaN a = true ∨ fpIsNaN b = true
  · rw [fpSub, unlessNaN2_nan h]
    exact fpIsSNaN_canon f
  · obtain ⟨ha, hb⟩ := not_or.mp h
    rw [Bool.not_eq_true] at ha hb
    rw [fpSub, unlessNaN2_of_not ha hb]
    exact fpAddNumbers_not_snan rm fs ha ((fpIsNaN_flip b).trans hb)

/-- A product of two numbers, scaled (R299, R308). -/
theorem fpMulScaled_eq (scale : Rat) (ha : fpIsNaN a = false) (hb : fpIsNaN b = false) :
    fpMulScaled f scale rm fs a b =
      if fpIsInf a ∨ fpIsInf b then
        (if fpIsZero a ∨ fpIsZero b then (fpCanonNaN f, excV) else (fpInf f (fpSign a ^^ fpSign b), 0#5))
      else if fpVal a * fpVal b = 0 then (fpZero f (fpSign a ^^ fpSign b), 0#5)
      else fpRound f rm fs (fpVal a * fpVal b * scale) := by
  rw [fpMulScaled, unlessNaN2_of_not ha hb]
  simp only [mul_eq_zero, ← fpIsZero_iff_val]
  have hza : fpIsInf a = true → fpIsZero a = false := not_zero_of_inf
  have hzb : fpIsInf b = true → fpIsZero b = false := not_zero_of_inf
  cases hia : fpIsInf a
  · cases hib : fpIsInf b
    · simp
    · simp [hzb hib, fpInvalid]
  · cases hib : fpIsInf b
    · simp [hza hia, fpInvalid]
    · simp [hza hia, hzb hib]

/-- A quotient of two numbers (R300). -/
theorem fpDiv_eq (ha : fpIsNaN a = false) (hb : fpIsNaN b = false) :
    fpDiv f rm fs a b =
      if fpIsInf a then (if fpIsInf b then (fpCanonNaN f, excV) else (fpInf f (fpSign a ^^ fpSign b), 0#5))
      else if fpIsInf b then (fpZero f (fpSign a ^^ fpSign b), 0#5)
      else if fpVal b = 0 then
        (if fpVal a = 0 then (fpCanonNaN f, excV) else (fpInf f (fpSign a ^^ fpSign b), excZ))
      else if fpVal a = 0 then (fpZero f (fpSign a ^^ fpSign b), 0#5) else fpRound f rm fs (fpVal a / fpVal b) := by
  rw [fpDiv, unlessNaN2_of_not ha hb]
  simp only [← fpIsZero_iff_val]
  have hza : fpIsInf a = true → fpIsZero a = false := not_zero_of_inf
  have hzb : fpIsInf b = true → fpIsZero b = false := not_zero_of_inf
  cases hia : fpIsInf a
  · cases hib : fpIsInf b
    · cases hzb' : fpIsZero b <;> cases hza' : fpIsZero a <;> simp [fpInvalid]
    · simp [hzb hib]
  · cases hib : fpIsInf b
    · simp [hza hia]
    · simp [hza hia, fpInvalid]

/-- One is encoded. -/
theorem encodable_one (f : FpFmt) : Encodable f 0 (2 ^ (f.prec - 1)) := by
  have hbias := f.prec_lt_bias
  refine ⟨?_, by omega, .inl le_rfl, ?_⟩
  · rw [f.emin_eq]
    omega
  · rw [two_pow_mul_unit, pow2_lt_iff, f.emax_eq]
    omega

/-- Its value. -/
theorem fpVal_one (f : FpFmt) : fpVal (fpOne f) = 1 := by
  rw [fpOne, fpVal_encode (encodable_one f), two_pow_mul_unit, if_neg Bool.false_ne_true, one_mul]
  rfl

/-- The reciprocal of a number (R302). -/
theorem fpRecip_eq (ha : fpIsNaN a = false) :
    fpRecip f rm fs a =
      if fpIsInf a then (fpZero f (fpSign a), 0#5) else if fpVal a = 0 then (fpInf f (fpSign a), excZ)
      else fpRound f rm fs (1 / fpVal a) := by
  obtain ⟨hnan, hinf⟩ := finite_iff.mp (fpExp_encode_ne (encodable_one f) false)
  rw [← fpOne] at hnan hinf
  have hsign : fpSign (fpOne f) = false := fpSign_encode (encodable_one f) false
  rw [fpRecip, fpDiv_eq rm fs hnan ha, hinf, hsign, fpVal_one]
  simp

end Arithmetic

/-! ### Compositions (R306-R308) -/

section Compositions

variable {f : FpFmt} (rm : RoundingMode) (fs : Bool)

/-- A negation after another operation, whose result is no signaling NaN, adds no flag. -/
theorem then_neg {x : FpResult f} (h : fpIsSNaN x.1 = false) :
    FpResult.then x (fun t => fpNeg f rm fs t) = ((fpNeg f rm fs x.1).1, x.2) :=
  Prod.ext rfl (by simp [FpResult.then, fpNeg_flags rm fs h])

/-- A multiply-subtract of a NaN is the canonical NaN, with the flags of the product (R306). -/
theorem then_sub_neg_nan {x : FpResult f} (h : x.1 = fpCanonNaN f) {c : FpBits f} (hc : fpIsSNaN c = false) :
    FpResult.then (FpResult.then x fun p => fpSub f rm fs p c) (fun t => fpNeg f rm fs t) = (fpCanonNaN f, x.2) := by
  have hsub : fpSub f rm fs x.1 c = (fpCanonNaN f, 0#5) := by
    rw [h, fpSub, unlessNaN2_nan (.inl (fpIsNaN_canon f)), fpIsSNaN_canon, hc]
    rfl
  have hthen : FpResult.then x (fun p => fpSub f rm fs p c) = (fpCanonNaN f, x.2) :=
    Prod.ext (show (fpSub f rm fs x.1 c).1 = _ by rw [hsub]) (by simp [FpResult.then, hsub])
  rw [hthen, then_neg rm fs (fpIsSNaN_canon f), fpNeg_canon]

/-- The constants of R307 and R308 are no NaNs. -/
theorem constants_not_snan (f : FpFmt) : fpIsSNaN (fpOne f) = false ∧ fpIsSNaN (fpHalf f) = false := by
  cases f <;> decide

/-- A NaN operand of a sum, as the canonical NaN. -/
theorem fpAdd_nan {a b : FpBits f} (h : fpIsNaN a = true ∨ fpIsNaN b = true) :
    (fpAdd f rm fs a b).1 = fpCanonNaN f := by rw [fpAdd, unlessNaN2_nan h]

/-- A NaN operand of a difference, as the canonical NaN. -/
theorem fpSub_nan {a b : FpBits f} (h : fpIsNaN a = true ∨ fpIsNaN b = true) :
    (fpSub f rm fs a b).1 = fpCanonNaN f := by rw [fpSub, unlessNaN2_nan h]

/-- A NaN factor of a product, as the canonical NaN. -/
theorem fpMul_nan {a b : FpBits f} (h : fpIsNaN a = true ∨ fpIsNaN b = true) :
    (fpMul f rm fs a b).1 = fpCanonNaN f := by rw [fpMul, fpMulScaled, unlessNaN2_nan h]

/-- A NaN operand of a multiply-add makes the product or the addend a NaN. -/
theorem product_or_addend_nan {a b c : FpBits f} (h : fpIsNaN a = true ∨ fpIsNaN b = true ∨ fpIsNaN c = true) :
    fpIsNaN (fpMul f rm fs a b).1 = true ∨ fpIsNaN c = true := by
  rcases or_assoc.mpr h with h | h
  · rw [fpMul_nan rm fs h]
    exact .inl (fpIsNaN_canon f)
  · exact .inr h

/-- The product with the exact value halved (R308). -/
theorem fpMulScaled_half (a b : FpBits f) : fpMulScaled f (1 / 2) rm fs a b =
    if fpIsNaN a ∨ fpIsNaN b ∨ fpIsInf a ∨ fpIsInf b ∨ fpVal a * fpVal b = 0 then fpMul f rm fs a b
    else fpRound f rm fs (fpVal a * fpVal b / 2) := by
  by_cases hnan : fpIsNaN a = true ∨ fpIsNaN b = true
  · rw [if_pos (or_assoc.mp (.inl hnan)), fpMul, fpMulScaled, fpMulScaled, unlessNaN2_nan hnan, unlessNaN2_nan hnan]
  · obtain ⟨ha, hb⟩ := not_or.mp hnan
    rw [Bool.not_eq_true] at ha hb
    rw [fpMul, fpMulScaled_eq rm fs (1 / 2) ha hb, fpMulScaled_eq rm fs 1 ha hb, ha, hb]
    by_cases hinf : fpIsInf a = true ∨ fpIsInf b = true
    · rcases hinf with h | h <;> simp only [h, true_or, or_true, if_true]
    · obtain ⟨hia, hib⟩ := not_or.mp hinf
      by_cases hzero : fpVal a * fpVal b = 0
      · simp only [hinf, hzero, if_false, if_true, or_true]
      · simp only [hia, hib, hzero, Bool.false_eq_true, or_self, if_false, mul_one_div]

end Compositions

/-- Settles O51: the rules of the operations, and the composed ones from them. -/
theorem fpuUnit : Obligations.FpuUnit := by
  intro f rm fs a b c sign invalid ofNaN magnitude
  obtain ⟨hone, hhalf⟩ := constants_not_snan f
  refine ⟨fun hnan op hop => ?_, fun hnan op hop => ?_, fun hnan op hop => ?_, fun ha hb => ⟨?_, ?_, ?_, ?_⟩,
    fun ha => ⟨fpRecip_eq rm fs ha, ?_, ?_, ?_, ?_, ?_⟩, ⟨rfl, rfl, ?_, ?_, ?_, ?_⟩,
    fun _ _ _ _ _ _ => ⟨rfl, rfl, rfl, rfl, rfl, rfl, rfl, rfl, rfl⟩⟩
  · have hmul (scale : Rat) : fpMulScaled f scale rm fs a b = ofNaN (fpIsSNaN a || fpIsSNaN b) := unlessNaN2_nan hnan _
    simp only [List.mem_cons, List.not_mem_nil, or_false] at hop
    rcases hop with rfl | rfl | rfl | rfl | rfl | rfl
    · exact unlessNaN2_nan hnan _
    · exact unlessNaN2_nan hnan _
    · exact unlessNaN2_nan hnan _
    · exact unlessNaN2_nan hnan _
    · exact (then_sub_neg_nan rm fs (congrArg Prod.fst (hmul 1)) hone).trans
        (congrArg (fun r : FpResult f => (fpCanonNaN f, r.2)) (hmul 1))
    · exact (then_sub_neg_nan rm fs (congrArg Prod.fst (hmul (1 / 2))) hhalf).trans
        (congrArg (fun r : FpResult f => (fpCanonNaN f, r.2)) (hmul (1 / 2)))
  · simp only [List.mem_cons, List.not_mem_nil, or_false] at hop
    rcases hop with rfl | rfl | rfl | rfl
    · exact unlessNaN_nan hnan _
    · have hone' : fpIsSNaN (fpOne f) = false := hone
      exact (unlessNaN2_nan (.inr hnan) _).trans (by rw [hone', Bool.false_or]; rfl)
    · exact unlessNaN_nan hnan _
    · exact unlessNaN_nan hnan _
  · have hp := product_or_addend_nan rm fs hnan
    have hneg : (fpNeg f rm fs (fpCanonNaN f)).1 = fpCanonNaN f := congrArg Prod.fst (fpNeg_canon rm fs f)
    simp only [List.mem_cons, List.not_mem_nil, or_false] at hop
    rcases hop with rfl | rfl | rfl | rfl
    · exact fpAdd_nan rm fs hp
    · exact fpSub_nan rm fs hp
    · exact (congrArg (fun t => (fpNeg f rm fs t).1) (fpAdd_nan rm fs hp)).trans hneg
    · exact (congrArg (fun t => (fpNeg f rm fs t).1) (fpSub_nan rm fs hp)).trans hneg
  · exact (unlessNaN2_of_not ha hb _).trans (fpAddNumbers_eq rm fs a b)
  · exact (unlessNaN2_of_not ha hb _).trans (fpAddNumbers_flip rm fs a b)
  · exact (fpMulScaled_eq rm fs 1 ha hb).trans (by rw [mul_one])
  · exact fpDiv_eq rm fs ha hb
  · exact fun hzero => (unlessNaN_of_not ha _).trans (if_pos hzero)
  · exact fun hzero hsign => (unlessNaN_of_not ha _).trans ((if_neg (by simp [hzero])).trans (if_pos hsign))
  · exact fun hinf hsign => (unlessNaN_of_not ha _).trans ((if_neg (by simp [not_zero_of_inf hinf])).trans
      ((if_neg (by simp [hsign])).trans (if_pos hinf)))
  · exact (unlessNaN_of_not ha _).trans (by rw [and_not_sign_eq]; rfl)
  · exact (unlessNaN_of_not ha _).trans (by rw [fpFlipSign_eq]; rfl)
  · exact then_neg rm fs (fpAdd_not_snan rm fs _ _)
  · exact then_neg rm fs (fpSub_not_snan rm fs _ _)
  · cases f <;> exact then_neg rm fs (fpSub_not_snan rm fs _ _)
  · rw [← fpMulScaled_half]
    cases f <;> exact then_neg rm fs (fpSub_not_snan rm fs _ _)

end Sys2Proof.Machine

/-! Rounding and the square root, as the neighbours of the exact value (44_fpu_unit.md R284-R287, R292, R301). The
square root is rounded on the count of units: `n0` is the integer square root in units, and its neighbours are the
neighbours of the pattern. -/

namespace Sys2Proof.Machine

/-! ### Rounding (R284-R287) -/

/-- What `Round` gives, in the terms of R284-R287. -/
theorem fpRound_spec (f : FpFmt) (rm : RoundingMode) (fs : Bool) {r : Rat} (hr : r ≠ 0) :
    let n : Int := if r < 0 then -(roundCount f rm r : Int) else roundCount f rm r
    let y := (n.natAbs : Rat) * roundUnit f r
    let infinite := rm = .nearestEven ∨ (rm = .towardPlus ∧ 0 < r) ∨ (rm = .towardMinus ∧ r < 0)
    let flushed := fs = true ∧ 0 < y ∧ y < pow2 f.emin
    let res := fpRound f rm fs r
    (pow2 (f.emax + 1) ≤ y →
      res = (if infinite then fpInf f (decide (r < 0)) else fpMaxFin f (decide (r < 0)), excO ||| excI)) ∧
    (y < pow2 (f.emax + 1) → flushed → res = (fpZero f (decide (r < 0)), excU ||| excI)) ∧
    (y < pow2 (f.emax + 1) → ¬ flushed →
      fpExp res.1 ≠ f.expMax ∧ fpSign res.1 = decide (r < 0) ∧ fpVal res.1 = n * roundUnit f r ∧
      res.2 = if n * roundUnit f r = r then 0#5
        else if ratMagnitude r < pow2 f.emin then excU ||| excI else excI) := by
  intro n y infinite flushed res
  have hnat : n.natAbs = roundCount f rm r := by
    simp only [n]
    split <;> simp
  have hy : y = roundCount f rm r * roundUnit f r := by simp only [y, hnat]
  have hn : n * roundUnit f r = (if r < 0 then -1 else 1) * (roundCount f rm r * roundUnit f r) := by
    simp only [n]
    split <;> push_cast <;> ring
  have hpos : 0 < r ↔ ¬ r < 0 := ⟨fun h => not_lt.mpr h.le, fun h => lt_of_le_of_ne (not_lt.mp h) hr.symm⟩
  simp only [flushed, hy]
  refine ⟨fun h => ?_, fun hlt h => fpRound_flush hlt h, fun hlt h => ?_⟩
  · refine (fpRound_overflow h).trans ((fpOverflow_eq ..).trans ?_)
    simp only [infinite, hpos, decide_eq_true_eq, decide_eq_false_iff_not]
  · have henc := encodable_roundCount hr hlt
    have hres : res = _ := fpRound_encode hr hlt h
    rw [hres]
    refine ⟨fpExp_encode_ne henc _, fpSign_encode henc _, ?_, ?_⟩
    · rw [fpVal_encode henc, hn]
      simp only [decide_eq_true_eq]
      rfl
    · have hexact : n * roundUnit f r = r ↔ roundCount f rm r * roundUnit f r = ratMagnitude r := by
        rw [hn]
        conv => lhs; rhs; rw [← sign_mul_ratMagnitude r]
        split <;> simp
      simp only [hexact]

/-! ### The integer square root -/

/-- The search finds the integer square root (R301). -/
theorem isqrtFrom_spec (x : Nat) (k root : Nat) (hlow : root * root ≤ x) (hup : x < (root + 2 ^ k) * (root + 2 ^ k)) :
    isqrtFrom x k root * isqrtFrom x k root ≤ x ∧ x < (isqrtFrom x k root + 1) * (isqrtFrom x k root + 1) := by
  induction k generalizing root with
  | zero => exact ⟨hlow, hup⟩
  | succ k ih =>
    rw [isqrtFrom]
    rw [Nat.pow_succ'] at hup
    by_cases h : (root + 2 ^ k) * (root + 2 ^ k) ≤ x
    · simp only [h, if_true]
      exact ih _ h (by rwa [Nat.add_assoc, ← Nat.two_mul])
    · simp only [h, if_false]
      exact ih _ hlow (not_le.mp h)

/-- How the remainder of a square root stands to 0 and to 1/2, by squares (R301). -/
def sqrtRest (t : Rat) (n0 : Nat) : Rest :=
  if (n0 : Rat) * n0 = t then .zero
  else if t < ((n0 : Rat) + 1 / 2) * (n0 + 1 / 2) then .low
  else if ((n0 : Rat) + 1 / 2) * (n0 + 1 / 2) = t then .half else .high

/-- Without a remainder the root is exact. -/
theorem sqrtRest_zero_iff (t : Rat) (n0 : Nat) : sqrtRest t n0 = .zero ↔ (n0 : Rat) * n0 = t := by
  unfold sqrtRest
  split
  · next h => simp [h]
  · next h =>
    simp only [h, iff_false]
    split
    · nofun
    · split <;> nofun

/-- The rounded count of a square root, from the integer one: down, or up where the mode says so. -/
theorem sqrt_rounded (rm : RoundingMode) (t : Rat) (n0 : Nat) :
    (roundedUnits rm false n0 (sqrtRest t n0) = n0 ∧
      (rm = .nearestEven → t ≤ ((n0 : Rat) + 1 / 2) * (n0 + 1 / 2)) ∧ (rm = .towardPlus → (n0 : Rat) * n0 = t)) ∨
    (roundedUnits rm false n0 (sqrtRest t n0) = n0 + 1 ∧ (n0 : Rat) * n0 ≠ t ∧
      (rm = .nearestEven → ((n0 : Rat) + 1 / 2) * (n0 + 1 / 2) ≤ t) ∧ rm ≠ .towardZero ∧ rm ≠ .towardMinus) := by
  have hn0 : (0 : Rat) ≤ n0 := n0.cast_nonneg
  by_cases hexact : (n0 : Rat) * n0 = t
  · refine .inl ⟨?_, fun _ => by nlinarith, fun _ => hexact⟩
    rw [(sqrtRest_zero_iff t n0).mpr hexact, roundedUnits_zero]
  have hne : sqrtRest t n0 ≠ .zero := mt (sqrtRest_zero_iff t n0).mp hexact
  cases rm with
  | nearestEven =>
    unfold sqrtRest
    rw [if_neg hexact]
    rcases lt_trichotomy t (((n0 : Rat) + 1 / 2) * (n0 + 1 / 2)) with hlow | hhalf | hhigh
    · rw [if_pos hlow]
      exact .inl ⟨rfl, fun _ => hlow.le, nofun⟩
    · rw [if_neg hhalf.not_lt, if_pos hhalf.symm]
      rcases Nat.mod_two_eq_zero_or_one n0 with heven | hodd
      · exact .inl ⟨by simp [roundedUnits, roundsUp, heven], fun _ => hhalf.le, nofun⟩
      · exact .inr ⟨by simp [roundedUnits, roundsUp, hodd], hexact, fun _ => hhalf.ge, nofun, nofun⟩
    · rw [if_neg hhigh.le.not_gt, if_neg hhigh.ne]
      exact .inr ⟨rfl, hexact, fun _ => hhigh.le, nofun, nofun⟩
  | towardZero => exact .inl ⟨rfl, nofun, nofun⟩
  | towardPlus => exact .inr ⟨by simp [roundedUnits, roundsUp, hne], hexact, nofun, nofun, nofun⟩
  | towardMinus => exact .inl ⟨by simp [roundedUnits, roundsUp], nofun, nofun⟩

/-! ### Neighbours of a pattern -/

section Neighbours

variable {f : FpFmt} {e : Int} {n : Nat}

/-- The next pattern has the next field. -/
theorem fpPattern_add_one (f : FpFmt) (sign : Bool) (m : Nat) :
    fpPattern f sign m + BitVec.ofNat f.width 1 = fpPattern f sign (m + 1) := by
  rw [fpPattern, fpPattern, ← BitVec.ofNat_add, Nat.add_assoc]

/-- The pattern before has the field before. -/
theorem fpPattern_sub_one (f : FpFmt) (sign : Bool) (m : Nat) :
    fpPattern f sign (m + 1) - BitVec.ofNat f.width 1 = fpPattern f sign m := by
  rw [← fpPattern_add_one, BitVec.add_sub_cancel]

/-- The next number is one unit above, or two after a carry. -/
theorem fpVal_next (h : Encodable f e n) (hn : 2 ^ (f.prec - 1) ≤ n) (he : e + 1 < f.emax) :
    ((n : Rat) + 1) * pow2 (e - f.prec + 1) ≤ fpVal (fpEncode f false e n + BitVec.ofNat f.width 1) ∧
      (n < 2 * 2 ^ (f.prec - 1) → fpVal (fpEncode f false e n + BitVec.ofNat f.width 1) =
        ((n : Rat) + 1) * pow2 (e - f.prec + 1)) := by
  have hunit := pow2_pos (e - f.prec + 1)
  have hprec : 2 ≤ 2 ^ (f.prec - 1) := by cases f <;> decide
  rw [fpEncode, fpPattern_add_one]
  rcases Nat.lt_or_ge n (2 * 2 ^ (f.prec - 1)) with hlt | hge
  · have henc : Encodable f e (n + 1) := by
      refine ⟨h.emin_le, hlt, .inl (by omega), lt_of_le_of_lt ?_ (pow2_lt_iff.mpr (show e + 1 < f.emax + 1 by omega))⟩
      rw [pow2_succ e, ← two_pow_mul_unit f e, ← mul_assoc]
      exact mul_le_mul_of_nonneg_right (by exact_mod_cast hlt) hunit.le
    have hval := fpVal_encode henc false
    rw [fpEncode, if_neg Bool.false_ne_true, one_mul, ← Nat.add_assoc] at hval
    rw [hval]
    push_cast
    exact ⟨le_rfl, fun _ => rfl⟩
  · have hn2 : n = 2 * 2 ^ (f.prec - 1) := Nat.le_antisymm h.le hge
    have henc : Encodable f (e + 1) (2 ^ (f.prec - 1) + 1) := by
      refine ⟨h.emin_le.trans (by omega), by omega, .inl (by omega), ?_⟩
      exact (units_lt_pow2_succ (by omega)).trans_le (pow2_le_iff.mpr (by omega))
    have hfield : (e + 1 + f.bias - 1).toNat * 2 ^ (f.prec - 1) + (2 ^ (f.prec - 1) + 1) =
        (e + f.bias - 1).toNat * 2 ^ (f.prec - 1) + n + 1 := by
      have hemin := h.emin_le
      rw [f.emin_eq] at hemin
      rw [show (e + 1 + f.bias - 1).toNat = (e + f.bias - 1).toNat + 1 by omega, Nat.add_mul]
      omega
    have hval := fpVal_encode henc false
    rw [fpEncode, if_neg Bool.false_ne_true, one_mul, hfield, show e + 1 - f.prec + 1 = e - f.prec + 1 + 1 by omega,
      pow2_succ] at hval
    rw [hval]
    refine ⟨?_, fun hlt => absurd hlt (by omega)⟩
    rw [hn2]
    push_cast
    nlinarith

/-- The number before is one unit below, or half a unit at the start of a binade. -/
theorem fpVal_prev (h : Encodable f e n) (he : f.emin < e) :
    (2 ^ (f.prec - 1) < n → fpVal (fpEncode f false e n - BitVec.ofNat f.width 1) =
      ((n : Rat) - 1) * pow2 (e - f.prec + 1)) ∧
    (n = 2 ^ (f.prec - 1) → fpVal (fpEncode f false e n - BitVec.ofNat f.width 1) =
      ((n : Rat) - 1 / 2) * pow2 (e - f.prec + 1)) := by
  have hunit := pow2_pos (e - f.prec + 1)
  have hpos := Nat.two_pow_pos (f.prec - 1)
  constructor
  · intro hn
    obtain ⟨k, rfl⟩ := Nat.exists_eq_add_of_lt (Nat.zero_lt_of_lt hn)
    rw [Nat.zero_add] at *
    have henc : Encodable f e k := by
      refine ⟨h.emin_le, by have := h.le; omega, .inl (by omega), lt_of_le_of_lt ?_ h.lt⟩
      exact mul_le_mul_of_nonneg_right (by push_cast; linarith) hunit.le
    rw [fpEncode, ← Nat.add_assoc, fpPattern_sub_one, ← fpEncode, fpVal_encode henc]
    push_cast
    simp
  · intro hn
    have henc : Encodable f (e - 1) (2 * 2 ^ (f.prec - 1) - 1) := by
      refine ⟨by omega, by omega, .inl (by omega), ?_⟩
      refine (units_lt_pow2_succ (by omega)).trans_le (pow2_le_iff.mpr ?_)
      have := h.bounds.1
      omega
    have hfield : (e + f.bias - 1).toNat * 2 ^ (f.prec - 1) + n =
        (e - 1 + f.bias - 1).toNat * 2 ^ (f.prec - 1) + (2 * 2 ^ (f.prec - 1) - 1) + 1 := by
      rw [f.emin_eq] at he
      rw [show (e + f.bias - 1).toNat = (e - 1 + f.bias - 1).toNat + 1 by omega, Nat.add_mul]
      omega
    have hval := fpVal_encode henc false
    have hhalf : 2 * pow2 (e - 1 - f.prec + 1) = pow2 (e - f.prec + 1) := by
      rw [← pow2_succ]
      congr 1
      omega
    rw [fpEncode, hfield, fpPattern_sub_one, ← fpEncode, hval, ← hhalf, hn, Nat.cast_sub (by omega)]
    push_cast
    ring

/-- The number before is smaller and not negative. -/
theorem fpVal_prev_bounds (h : Encodable f e n) (he : f.emin < e) (hn : 2 ^ (f.prec - 1) ≤ n) :
    0 ≤ fpVal (fpEncode f false e n - BitVec.ofNat f.width 1) ∧
      fpVal (fpEncode f false e n - BitVec.ofNat f.width 1) < n * pow2 (e - f.prec + 1) := by
  obtain ⟨hinside, hstart⟩ := fpVal_prev h he
  have hunit := pow2_pos (e - f.prec + 1)
  have hn1 : (1 : Rat) ≤ n := by exact_mod_cast (Nat.two_pow_pos _).trans_le hn
  rcases Nat.eq_or_lt_of_le hn with heq | hlt
  · rw [hstart heq.symm]
    constructor <;> nlinarith
  · rw [hinside hlt]
    constructor <;> nlinarith

end Neighbours

/-! ### The square root in units (R301) -/

section Sqrt

variable {f : FpFmt} {x : FpBits f} {e : Int} {n0 : Nat} {t : Rat} (rm : RoundingMode) (fs : Bool)

/-- The operand of a square root in squared units of the binade `e`, and its integer square root. -/
structure SqrtUnits (f : FpFmt) (x : FpBits f) (e : Int) (n0 : Nat) (t : Rat) : Prop where
  /-- The operand. -/
  val : fpVal x = t * (pow2 (e - f.prec + 1) * pow2 (e - f.prec + 1))
  /-- The integer square root is at most the root, -/
  low : (n0 : Rat) * n0 ≤ t
  /-- and by less than 1. -/
  up : t < ((n0 : Rat) + 1) * (n0 + 1)
  /-- The root is a normal number, -/
  normal : 2 ^ (f.prec - 1) ≤ n0
  /-- and of its binade, -/
  carry : n0 < 2 * 2 ^ (f.prec - 1)
  /-- which is far from the least -/
  emin_lt : f.emin < e
  /-- and from the largest. -/
  lt_emax : e + 1 < f.emax

/-- The binade of a positive finite number (R281). -/
theorem ratLog2_fpVal_bounds (hfin : fpExp x ≠ f.expMax) (hpos : 0 < fpVal x) :
    f.emin - f.prec + 1 ≤ ratLog2 (fpVal x) ∧ ratLog2 (fpVal x) ≤ f.emax := by
  have hval : fpVal x = fpMagnitude x := by rw [← abs_fpVal, if_neg hpos.le.not_gt]
  obtain ⟨hlow, hup⟩ := ratLog2_spec hpos
  obtain ⟨k, m, henc, hm, -, hmag, -⟩ := exists_encode hfin
  have hm0 : m ≠ 0 := by
    rintro rfl
    rw [Nat.cast_zero, zero_mul] at hmag
    exact hpos.ne' (hval.trans hmag)
  have hk1 := henc.emin_le
  have hk2 := henc.bounds.1
  have hunit : pow2 (k - f.prec + 1) ≤ fpVal x := by
    rw [hval, hmag]
    exact le_mul_of_one_le_left (pow2_pos _).le (by exact_mod_cast Nat.one_le_iff_ne_zero.mpr hm0)
  have hbinade : fpVal x < pow2 (k + 1) := by
    rw [hval, hmag]
    exact units_lt_pow2_succ hm
  have hl1 := pow2_lt_iff.mp (hunit.trans_lt hup)
  have hl2 := pow2_lt_iff.mp (hlow.trans_lt hbinade)
  omega

/-- Half the binade: the operand in squared units lies between the squares of the least normal count and of the first
carry. -/
theorem squared_units_bounds (f : FpFmt) {X : Rat} (hX : 0 < X) (he : e = ratLog2 X / 2)
    (ht : t = X / (pow2 (e - f.prec + 1) * pow2 (e - f.prec + 1))) :
    ((2 ^ (f.prec - 1) : Nat) : Rat) * ((2 ^ (f.prec - 1) : Nat) : Rat) ≤ t ∧
      t < ((2 * 2 ^ (f.prec - 1) : Nat) : Rat) * ((2 * 2 ^ (f.prec - 1) : Nat) : Rat) := by
  obtain ⟨hlow, hup⟩ := ratLog2_spec hX
  have hq := pow2_pos (e - f.prec + 1)
  have hscale := two_pow_mul_unit f e
  have hsquare (c : Rat) : c * c * (pow2 (e - f.prec + 1) * pow2 (e - f.prec + 1)) =
      c * pow2 (e - f.prec + 1) * (c * pow2 (e - f.prec + 1)) := mul_mul_mul_comm ..
  rw [ht, le_div_iff₀ (mul_pos hq hq), div_lt_iff₀ (mul_pos hq hq), hsquare, hsquare, hscale, Nat.cast_mul,
    Nat.cast_ofNat, mul_assoc 2, hscale, ← pow2_succ, ← pow2_add, ← pow2_add]
  exact ⟨(pow2_le_iff.mpr (by omega)).trans hlow, hup.trans_le (pow2_le_iff.mpr (by omega))⟩

/-- The integer square root of the operand in squared units (R301). -/
theorem isqrt_units (hlow : ((2 ^ (f.prec - 1) : Nat) : Rat) * ((2 ^ (f.prec - 1) : Nat) : Rat) ≤ t)
    (hup : t < ((2 * 2 ^ (f.prec - 1) : Nat) : Rat) * ((2 * 2 ^ (f.prec - 1) : Nat) : Rat))
    (hn0 : n0 = isqrtFrom t.floor.toNat f.prec 0) :
    (n0 : Rat) * n0 ≤ t ∧ t < ((n0 : Rat) + 1) * (n0 + 1) ∧ 2 ^ (f.prec - 1) ≤ n0 ∧
      n0 < 2 * 2 ^ (f.prec - 1) := by
  obtain ⟨hfloor0, hfloor1, -⟩ := floor_toNat (le_trans (by positivity) hlow)
  have hlt : t.floor.toNat < (2 * 2 ^ (f.prec - 1)) * (2 * 2 ^ (f.prec - 1)) := by
    exact_mod_cast hfloor0.trans_lt hup
  obtain ⟨hroot0, hroot1⟩ := isqrtFrom_spec t.floor.toNat f.prec 0 (Nat.zero_le _)
    (by rwa [Nat.zero_add, f.two_pow_prec])
  rw [← hn0] at hroot0 hroot1
  have hn0low : (n0 : Rat) * n0 ≤ t := le_trans (by exact_mod_cast hroot0) hfloor0
  have hn0up : t < ((n0 : Rat) + 1) * (n0 + 1) := hfloor1.trans_le (by exact_mod_cast Nat.succ_le_of_lt hroot1)
  have hnonneg : (0 : Rat) ≤ n0 := n0.cast_nonneg
  refine ⟨hn0low, hn0up, ?_, ?_⟩
  · by_contra h
    have hle : (n0 : Rat) + 1 ≤ ((2 ^ (f.prec - 1) : Nat) : Rat) := by exact_mod_cast not_le.mp h
    nlinarith
  · by_contra h
    have hge : ((2 * 2 ^ (f.prec - 1) : Nat) : Rat) ≤ n0 := by exact_mod_cast not_lt.mp h
    have hcast : (0 : Rat) ≤ ((2 * 2 ^ (f.prec - 1) : Nat) : Rat) := Nat.cast_nonneg _
    nlinarith

/-- The square root of a positive finite number is rounded on its units (R301). -/
theorem fpSqrt_units (hfin : fpExp x ≠ f.expMax) (hsign : fpSign x = false) (hnonzero : fpIsZero x = false) :
    ∃ e n0 t, SqrtUnits f x e n0 t ∧
      fpSqrt f rm fs x = finishRound f rm fs false e n0 (sqrtRest t n0) false := by
  obtain ⟨hnan, hinf⟩ := finite_iff.mp hfin
  have hpos : 0 < fpVal x := by
    have hne : fpVal x ≠ 0 := fun h => by simp [fpIsZero_iff_val.mpr h] at hnonzero
    exact lt_of_le_of_ne (not_lt.mp fun h => by simp [(fpVal_lt_zero_iff hnonzero).mp h] at hsign) hne.symm
  obtain ⟨hl1, hl2⟩ := ratLog2_fpVal_bounds hfin hpos
  have hprec := f.prec_lt_bias
  have hone := f.one_lt_prec
  have hemin := f.emin_eq
  have hemax := f.emax_eq
  obtain ⟨e, he⟩ : ∃ e, e = ratLog2 (fpVal x) / 2 := ⟨_, rfl⟩
  obtain ⟨t, ht⟩ : ∃ t, t = fpVal x / (pow2 (e - f.prec + 1) * pow2 (e - f.prec + 1)) := ⟨_, rfl⟩
  obtain ⟨n0, hn0⟩ : ∃ n0, n0 = isqrtFrom t.floor.toNat f.prec 0 := ⟨_, rfl⟩
  have hq := pow2_pos (e - f.prec + 1)
  obtain ⟨htlow, htup⟩ := squared_units_bounds f hpos he ht
  obtain ⟨hlow, hup, hnormal, hcarry⟩ := isqrt_units htlow htup hn0
  have hmax : max (ratLog2 (fpVal x) / 2) f.emin = e := he ▸ max_eq_left (by omega)
  have hsqrt : fpSqrt f rm fs x = fpSqrtRound f rm fs (fpVal x) := by
    simp only [fpSqrt, unlessNaN, hnan, hnonzero, hsign, hinf, Bool.false_eq_true, if_false]
  refine ⟨e, n0, t, ⟨by rw [ht, div_mul_cancel₀ _ (mul_pos hq hq).ne'], hlow, hup, hnormal, hcarry, by omega,
    by omega⟩, ?_⟩
  rw [hsqrt]
  simp only [fpSqrtRound, hmax, ← ht, ← hn0]
  rfl

namespace SqrtUnits

/-- The rounded root is encoded. -/
theorem encodable (h : SqrtUnits f x e n0 t) {n : Nat} (h1 : n0 ≤ n) (h2 : n ≤ n0 + 1) : Encodable f e n := by
  obtain ⟨-, -, -, hnormal, hcarry, hemin, hemax⟩ := h
  have hle : (n : Rat) ≤ ((2 * 2 ^ (f.prec - 1) : Nat) : Rat) := by exact_mod_cast h2.trans hcarry
  refine ⟨hemin.le, h2.trans hcarry, .inl (hnormal.trans h1), ?_⟩
  calc (n : Rat) * pow2 (e - f.prec + 1) ≤ ((2 * 2 ^ (f.prec - 1) : Nat) : Rat) * pow2 (e - f.prec + 1) :=
        mul_le_mul_of_nonneg_right hle (pow2_pos _).le
    _ = pow2 (e + 1) := by rw [Nat.cast_mul, Nat.cast_ofNat, mul_assoc, two_pow_mul_unit, ← pow2_succ]
    _ < pow2 (f.emax + 1) := pow2_lt_iff.mpr (by omega)

/-- The rounded root, with its flags: it neither overflows nor is flushed. -/
theorem finishRound_eq (h : SqrtUnits f x e n0 t) :
    finishRound f rm fs false e n0 (sqrtRest t n0) false =
      (fpEncode f false e (roundedUnits rm false n0 (sqrtRest t n0)),
        if sqrtRest t n0 = .zero then 0#5 else excI) := by
  obtain ⟨h1, h2⟩ := roundedUnits_bounds rm false n0 (sqrtRest t n0)
  have hle := (pow2_le_iff.mpr h.emin_lt.le).trans (pow2_le_units (h.normal.trans h1))
  exact finishRound_encode (h.encodable h1 h2).lt fun hflush => absurd hflush.2.2 (not_lt.mpr hle)

/-- The root is exact exactly when there is no remainder. -/
theorem exact_iff (h : SqrtUnits f x e n0 t) :
    sqrtRest t n0 = .zero ↔
      (roundedUnits rm false n0 (sqrtRest t n0) : Rat) * pow2 (e - f.prec + 1) *
        (roundedUnits rm false n0 (sqrtRest t n0) * pow2 (e - f.prec + 1)) = fpVal x := by
  have hq := pow2_pos (e - f.prec + 1)
  rw [h.val, mul_mul_mul_comm, mul_left_inj' (mul_pos hq hq).ne']
  rcases sqrt_rounded rm t n0 with ⟨hdown, -⟩ | ⟨hup, hne, -⟩
  · rw [hdown, sqrtRest_zero_iff]
  · rw [hup, sqrtRest_zero_iff]
    push_cast
    exact ⟨fun heq => absurd heq hne, fun heq => absurd heq h.up.ne'⟩

end SqrtUnits

/-- A square in units, beside the operand in squared units. -/
theorem square_le_of_le {c q : Rat} (h : c * c ≤ t) : c * q * (c * q) ≤ t * (q * q) := by
  rw [mul_mul_mul_comm]
  exact mul_le_mul_of_nonneg_right h (mul_self_nonneg q)

/-- The operand in squared units, beside a square in units. -/
theorem le_square_of_le {c q : Rat} (h : t ≤ c * c) : t * (q * q) ≤ c * q * (c * q) := by
  rw [mul_mul_mul_comm]
  exact mul_le_mul_of_nonneg_right h (mul_self_nonneg q)

/-- The operand in squared units, strictly beside a square in units. -/
theorem lt_square_of_lt {c q : Rat} (hq : 0 < q) (h : t < c * c) : t * (q * q) < c * q * (c * q) := by
  rw [mul_mul_mul_comm]
  exact mul_lt_mul_of_pos_right h (mul_pos hq hq)

/-- A square in units, strictly beside the operand in squared units. -/
theorem square_lt_of_lt {c q : Rat} (hq : 0 < q) (h : c * c < t) : c * q * (c * q) < t * (q * q) := by
  rw [mul_mul_mul_comm]
  exact mul_lt_mul_of_pos_right h (mul_pos hq hq)

/-- Where a rounded root `y`, between its neighbours, stands to the exact root of `v`, by squares (R301). -/
def BesideRoot (rm : RoundingMode) (below y above v : Rat) : Prop :=
  match rm with
  | .nearestEven => ((below + y) / 2) * ((below + y) / 2) ≤ v ∧ v ≤ ((y + above) / 2) * ((y + above) / 2)
  | .towardZero => y * y ≤ v ∧ v < above * above
  | .towardPlus => below * below < v ∧ v ≤ y * y
  | .towardMinus => y * y ≤ v ∧ v < above * above

/-- The rounded root is the neighbour of the exact one that the mode names. -/
theorem SqrtUnits.beside (h : SqrtUnits f x e n0 t) {n : Nat} (hn : n = roundedUnits rm false n0 (sqrtRest t n0)) :
    BesideRoot rm (fpVal (fpEncode f false e n - BitVec.ofNat f.width 1)) (n * pow2 (e - f.prec + 1))
      (fpVal (fpEncode f false e n + BitVec.ofNat f.width 1)) (fpVal x) := by
  obtain ⟨h1, h2⟩ := roundedUnits_bounds rm false n0 (sqrtRest t n0)
  have henc := hn ▸ h.encodable h1 h2
  have hrounded := sqrt_rounded rm t n0
  obtain ⟨hval, hlow, hup, hnormal, hcarry, hemin, hemax⟩ := h
  rw [← hn] at h1 h2 hrounded
  obtain ⟨habove, habove'⟩ := fpVal_next henc (hnormal.trans h1) hemax
  have hq := pow2_pos (e - f.prec + 1)
  rw [hval]
  rcases hrounded with ⟨rfl, hnear, hplus⟩ | ⟨rfl, hne, hnear, htz, htm⟩
  · obtain ⟨hbelow0, hbelow1⟩ := fpVal_prev_bounds henc hemin hnormal
    rw [habove' hcarry]
    cases rm with
    | nearestEven =>
      refine ⟨?_, ?_⟩
      · refine le_trans (mul_self_le_mul_self (by linarith) ?_) (square_le_of_le hlow)
        linarith
      · rw [← add_mul, mul_div_right_comm, show ((n : Rat) + (n + 1)) / 2 = n + 1 / 2 by ring]
        exact le_square_of_le (hnear rfl)
    | towardZero => exact ⟨square_le_of_le hlow, lt_square_of_lt hq hup⟩
    | towardPlus =>
      refine ⟨lt_of_lt_of_le (mul_self_lt_mul_self hbelow0 hbelow1) (square_le_of_le hlow), ?_⟩
      exact le_square_of_le (hplus rfl).ge
    | towardMinus => exact ⟨square_le_of_le hlow, lt_square_of_lt hq hup⟩
  · have hprev := (fpVal_prev henc hemin).1 (Nat.lt_succ_of_le hnormal)
    rw [Nat.cast_add, Nat.cast_one, add_sub_cancel_right] at hprev
    rw [hprev]
    push_cast at habove ⊢
    cases rm with
    | nearestEven =>
      refine ⟨?_, ?_⟩
      · rw [← add_mul, mul_div_right_comm, show ((n0 : Rat) + (n0 + 1)) / 2 = n0 + 1 / 2 by ring]
        exact square_le_of_le (hnear rfl)
      · refine (le_square_of_le hup.le).trans (mul_self_le_mul_self (by positivity) ?_)
        nlinarith
    | towardZero => exact absurd rfl htz
    | towardPlus => exact ⟨square_lt_of_lt hq (lt_of_le_of_ne hlow hne), le_square_of_le hup.le⟩
    | towardMinus => exact absurd rfl htm

/-- The square root of a positive finite number is a normal number beside the exact root, with its flags (R301). -/
theorem fpSqrt_spec (hfin : fpExp x ≠ f.expMax) (hsign : fpSign x = false) (hnonzero : fpIsZero x = false) :
    let y := (fpSqrt f rm fs x).1
    fpSign y = false ∧ 1 ≤ fpExp y ∧ fpExp y + 1 < f.expMax ∧
      (fpSqrt f rm fs x).2 = (if fpVal y * fpVal y = fpVal x then 0#5 else excI) ∧
      BesideRoot rm (fpVal (y - BitVec.ofNat f.width 1)) (fpVal y) (fpVal (y + BitVec.ofNat f.width 1)) (fpVal x) := by
  obtain ⟨e, n0, t, h, hsqrt⟩ := fpSqrt_units rm fs hfin hsign hnonzero
  obtain ⟨h1, h2⟩ := roundedUnits_bounds rm false n0 (sqrtRest t n0)
  have henc := h.encodable h1 h2
  have hbeside := h.beside rm rfl
  have hfield := fieldAt_encode henc false
  have hexp : fpExp (fpEncode f false e (roundedUnits rm false n0 (sqrtRest t n0))) = (e + f.bias - 1).toNat + 1 ∨
      fpExp (fpEncode f false e (roundedUnits rm false n0 (sqrtRest t n0))) = (e + f.bias - 1).toNat + 2 :=
    (Nat.lt_or_ge _ _).imp (fpExp_normal hfield (h.normal.trans h1)) fun hge =>
      fpExp_carry hfield (Nat.le_antisymm henc.le hge)
  have hval : fpVal (fpEncode f false e (roundedUnits rm false n0 (sqrtRest t n0))) =
      roundedUnits rm false n0 (sqrtRest t n0) * pow2 (e - f.prec + 1) := by
    rw [fpVal_encode henc, if_neg Bool.false_ne_true, one_mul]
  have hemin := h.emin_lt
  have hemax := h.lt_emax
  have hexpMax := f.expMax_eq
  rw [f.emin_eq] at hemin
  rw [f.emax_eq] at hemax
  rw [hsqrt, h.finishRound_eq rm fs]
  dsimp only
  refine ⟨fpSign_encode henc false, by omega, by omega, ?_, by rwa [hval]⟩
  simp only [hval, h.exact_iff rm]

end Sqrt

/-- Settles O52: the count of units is what the mode names; the square root is rounded on its units. -/
theorem fpuUnitRounding : Obligations.FpuUnitRounding := by
  intro f rm fs
  refine ⟨fun r hr => ?_, fun x hfin hsign hnonzero => fpSqrt_spec rm fs hfin hsign hnonzero⟩
  obtain ⟨hlow, hup⟩ := ratLog2_spec (ratMagnitude_pos hr)
  exact ⟨ratLog2 (ratMagnitude r), if r < 0 then -(roundCount f rm r : Int) else roundCount f rm r, hlow, hup,
    roundCount_roundsTo f rm r, fpRound_spec f rm fs hr⟩

end Sys2Proof.Machine
